-- ==== Sys2Proof/Word.lean ====
section
/-! DEFINITION. The plain words of the part: a byte of the link and the 32-bit millisecond clocks. -/

namespace Sys2Proof

/-- One byte on the serial link. -/
abbrev Byte := BitVec 8

/-- A u32 millisecond clock that wraps (R60, R83). -/
abbrev Clock := BitVec 32

/-- The payload bytes of a received frame, in order of arrival. -/
abbrev Payload := List Byte

end Sys2Proof
end

