-- ==== Sys2Proof/Syntax.lean ====
section
/-! DEFINITION. The commands of the part: one constructor per row of spec/opcode_table.json, with the
operands each step takes from outside (the payload of the request taken, a sensed current, a pin level). -/

namespace Sys2Proof

/-- The three servo channels (R39). -/
inductive ServoCh where
  | fs | rs | sh
  deriving DecidableEq, Repr

/-- The two steered axles; the front axle is FS's, the rear axle RS's (R16). -/
inductive Axle where
  | front | rear
  deriving DecidableEq, Repr

/-- The two drive channels (R60). -/
inductive DriveCh where
  | df | dr
  deriving DecidableEq, Repr

/-- The level of a wired input pin. -/
inductive PinLevel where
  | low | high
  deriving DecidableEq, Repr

/-- The winch drum encoder's two lines, sampled together (R85). -/
structure EncoderPins where
  a : Bool
  b : Bool
  deriving DecidableEq, Repr

/-- The three samples the receiver takes at the middle of one bit; true is a high line (R174). -/
structure BitSamples where
  a : Bool
  b : Bool
  c : Bool
  deriving DecidableEq, Repr

/-- One UART character as sampled: start bit, eight data bits least significant first, stop bit (R174). -/
structure UartChar where
  start : BitSamples
  data : Vector BitSamples 8
  stop : BitSamples
  deriving DecidableEq, Repr

/-- What the inputs of one battery sweep measure, before saturation: mV and mA (R144). -/
structure SweepSamples where
  pack : Nat
  tap1 : Nat
  tap2 : Nat
  tap3 : Nat
  packCurrent : Nat
  servoRail : Nat
  df : Nat
  dr : Nat
  winch : Nat
  deriving DecidableEq, Repr

/-- The commands. A request row is the TAKING of that request from the intake queue (R179); its operand is the request's
payload. `strap` is the level of the PROT_LOCK pin that the step reads (R156). -/
inductive Instr where
  | powerOn (enc : EncoderPins)
  | resetAssert
  | characterReceived (c : UartChar)
  | gapTimeout
  | lineBreak
  | linkTimerExpiry
  | unknownTypeRequest (ty : Byte) (p : Payload)
  | setMotion (p : Payload)
  | hold (p : Payload)
  | resume (p : Payload)
  | cutoffRelease (p : Payload)
  | steerMode (p : Payload)
  | curveBegin (p : Payload)
  | curveData (p : Payload)
  | curveCommit (p : Payload)
  | servoEnds (p : Payload)
  | gear (p : Payload)
  | getServo (p : Payload)
  | dig (p : Payload)
  | faultClear (p : Payload)
  | winchRun (p : Payload)
  | winchPull (p : Payload)
  | winchSuspend (p : Payload)
  | winchResume (p : Payload)
  | winchZero (p : Payload)
  | winchLimits (p : Payload)
  | getWinch (p : Payload)
  | lightLevel (p : Payload)
  | lightMap (p : Payload)
  | patternAlloc (p : Payload)
  | patternStep (p : Payload)
  | patternFree (p : Payload)
  | getPattern (p : Payload)
  | getFree (p : Payload)
  | batteryLevels (strap : PinLevel) (p : Payload)
  | protLock (strap : PinLevel) (p : Payload)
  | getCells (strap : PinLevel) (p : Payload)
  | budgetClass (p : Payload)
  | getBudget (p : Payload)
  | setParam (strap : PinLevel) (p : Payload)
  | getParam (p : Payload)
  | profileStore (p : Payload)
  | profileRestore (strap : PinLevel) (p : Payload)
  | profileDefaults (strap : PinLevel) (p : Payload)
  | unitResetSteer (p : Payload)
  | unitResetDrive (p : Payload)
  | unitResetWinch (p : Payload)
  | unitResetLights (p : Payload)
  | unitResetBattery (p : Payload)
  | unitResetLink (p : Payload)
  | getStatus (strap : PinLevel) (p : Payload)
  | getLinkCounts (p : Payload)
  | transmitFrameStart
  | frameSent
  | telemetry
  | servoFrameStart (ch : ServoCh)
  | blendEnd (axle : Axle)
  | shiftWaitExpiry
  | shiftSettleExpiry
  | driveUpdate (ch : DriveCh) (current : Nat)
  | driveRetry (ch : DriveCh) (current : Nat)
  | winchUpdate (current : Nat)
  | winchStall (current : Nat)
  | encoderCount (enc : EncoderPins)
  | lineSpeedWindowEnd
  | lightPeriodStart (k : Fin 8)
  | patternStepComplete (k : Fin 8)
  | sweepCompletion (x : SweepSamples)
  | tapFaultChange (x : SweepSamples)
  | stageWorsen (x : SweepSamples)
  | stageRecover (x : SweepSamples)
  | profileStoreCompletion (readBackOk : Bool)
  | breakEnd
  | powerLost
  deriving DecidableEq, Repr

end Sys2Proof
end

