-- ==== Sys2Proof/Config.lean ====
section
/-! DEFINITION. What the manual leaves open: the free values, as constants with no body. -/

namespace Sys2Proof.Config

/-- DESIGN CHOICE (log 3): the free values. Where a rule names a reply field and states no value for it, the reply carries `freeValue k`,
`k` the State's `freeIndex`, which the taking then advances. Nothing is known of these numbers. -/
opaque freeValue : Nat → Nat

/-- The widths that a field of a frame can have: one, two or four bytes (section 6.1). -/
inductive FieldWidth where
  | one | two | four
  deriving DecidableEq, Repr, Inhabited

/-- The number of bytes of a width. -/
def FieldWidth.bytes : FieldWidth → Nat
  | .one => 1
  | .two => 2
  | .four => 4

/-- The reply fields for which no rule states a width: in CURVE_BEGIN (R33), CURVE_DATA (R34), GET_SERVO (R56) and GET_WINCH
(R109). -/
inductive OpenField where
  | curveBeginPointer | curveDataCount | curveDataPointer
  | servoPeriod | servoLeft | servoCenter | servoRight | servoSlew | servoEffSlew | servoPulse | servoAcc | servoWidth
  | servoAngle | shiftWait | shiftSettle
  | winchCounts | winchSpeed | winchDuty | winchCap | winchStalls | winchTrips | winchEncErrors
  deriving DecidableEq, Repr

/-- The least width that holds every value of the field's stated range; two bytes for the line speed, whose range is not stated. -/
def OpenField.least : OpenField → FieldWidth
  | .curveBeginPointer | .curveDataCount | .curveDataPointer | .servoPeriod | .servoAcc | .winchStalls | .winchTrips
  | .winchEncErrors => .one
  | .servoLeft | .servoCenter | .servoRight | .servoSlew | .servoEffSlew | .servoPulse | .servoWidth | .servoAngle | .shiftWait
  | .shiftSettle | .winchSpeed | .winchDuty | .winchCap => .two
  | .winchCounts => .four

/-- DESIGN CHOICE (log 4): the width that the part gives to such a field. Nothing is known of it; where it is less than the field
needs, `OpenField.least` takes its place. -/
opaque openWidth : OpenField → FieldWidth

end Sys2Proof.Config
end

