-- ==== Sys2Proof/Machine/Types.lean ====
section
/-! DEFINITION. The records of the ten blocks and of the working configuration, as plain data. -/

namespace Sys2Proof.Machine

/-! ## Chassis State Controller (CSC) -/

/-- The chassis state (R1). -/
inductive Chassis where
  | standby | run | hold | failsafe | cutoff
  deriving DecidableEq, Repr

/-- The motion setpoint record (R2). -/
structure Setpoint where
  throttle : Int
  steer : Int
  valid : Bool
  deriving DecidableEq, Repr

/-- The hold record; it exists only in HOLD (R3). `entry` is the time of the taking on `State.now`. -/
structure HoldRecord where
  entry : Nat
  modeChange : Bool
  deriving DecidableEq, Repr

/-- CSC's state (R1 to R4). -/
structure Csc where
  chassis : Chassis
  setpoint : Setpoint
  hold : Option HoldRecord
  linkLost : Bool
  deriving DecidableEq, Repr

/-! ## Steering Mixer (SMX) -/

/-- Steer modes (R20). -/
inductive SteerMode where
  | front | rear | counter | crab
  deriving DecidableEq, Repr

/-- What a blend starts from: a mode computed live or a fixed angle (R22). -/
inductive FromKind where
  | mode | frozen
  deriving DecidableEq, Repr

/-- One axle's blend record (R22). The shared to-mode is `Smx.target`. -/
structure Blend where
  fromKind : FromKind
  fromMode : SteerMode
  frozen : Int
  elapsedUs : Nat
  active : Bool
  deriving DecidableEq, Repr

/-- A curve table: 17 entries (R18). -/
abbrev CurveTable := Vector Int 17

/-- The three curve tables a load can name (R32). -/
inductive CurveId where
  | front | rear | throttle
  deriving DecidableEq, Repr

/-- Load state of a curve table (R32). -/
inductive LoadState where
  | closed | opened | pending
  deriving DecidableEq, Repr

/-- One table's load: state, pointer and shadow copy (R18, R32). -/
structure CurveLoad where
  state : LoadState
  pointer : Nat
  shadow : CurveTable
  deriving DecidableEq, Repr

/-- SMX's state (R16, R22, R32). -/
structure Smx where
  target : SteerMode
  frontBlend : Blend
  rearBlend : Blend
  frontAngle : Int
  rearAngle : Int
  frontLoad : CurveLoad
  rearLoad : CurveLoad
  throttleLoad : CurveLoad
  deriving DecidableEq, Repr

/-! ## Servo Pulse Generator (SPG) -/

/-- Gears (R48). -/
inductive Gear where
  | low | high
  deriving DecidableEq, Repr

/-- Phases of the shift protocol (R48). -/
inductive ShiftPhase where
  | idle | easing | moving | settling
  deriving DecidableEq, Repr

/-- The shift record (R48). -/
structure Shift where
  gear : Gear
  pending : Option Gear
  phase : ShiftPhase
  latched : Nat
  waitMs : Nat
  settleMs : Nat
  deriving DecidableEq, Repr

/-- A channel's endpoints in eighths; for SH `left` is Plo, `right` is Phi and `center` is 0 (R41, R56). -/
structure Endpoints where
  left : Int
  center : Int
  right : Int
  deriving DecidableEq, Repr

/-- One servo channel (R40, R42, R45, R46, R56). `lineWidth` is the pulse on the line in the frame in progress, 0 for none (R47). -/
structure ServoChan where
  periodMs : Nat
  waiting : Option Endpoints
  pOut : Int
  acc : Int
  lastWidth : Int
  lineWidth : Int
  effSlew : Nat
  deriving DecidableEq, Repr

/-- SPG's state (R39, R48). -/
structure Spg where
  fs : ServoChan
  rs : ServoChan
  sh : ServoChan
  shift : Shift
  deriving DecidableEq, Repr

/-! ## Drive Controller (DRC) -/

/-- Overcurrent protection state (R60). -/
inductive FaultState where
  | normal | tripped | latched
  deriving DecidableEq, Repr

/-- Dig modes (R66). -/
inductive DigMode where
  | off | lockRear | lockFront
  deriving DecidableEq, Repr

/-- One drive channel's record (R60, R65). `retry` is none outside TRIPPED. `lastTarget` and `lastOutput` are the target and the
output as the channel's last update left them, from which the BRAKE and REVERSE flags are read (R79, R118; log 33). -/
structure DriveChan where
  target : Int
  output : Int
  brake : Nat
  cap : Nat
  fault : FaultState
  history : List Clock
  retry : Option Clock
  tripCount : Nat
  assist : Bool
  lastTarget : Int
  lastOutput : Int
  deriving DecidableEq, Repr

/-- DRC's state (R60, R66). -/
structure Drc where
  df : DriveChan
  dr : DriveChan
  digRequested : DigMode
  digInForce : DigMode
  clock : Clock
  deriving DecidableEq, Repr

/-! ## Winch Controller (WNC) -/

/-- Winch record states (R91); OFF is only how BRAKED is reported in CUTOFF. -/
inductive WinchState where
  | braked | free | spoolIn | spoolOut | pull | suspended | stalled
  deriving DecidableEq, Repr

/-- Operation kinds (R91). -/
inductive WinchOp where
  | spoolIn | spoolOut | pull
  deriving DecidableEq, Repr

/-- Direction of an operation (R91). -/
inductive WinchDir where
  | inward | outward
  deriving DecidableEq, Repr

/-- The suspend reason set (R91, R97). -/
structure Reasons where
  host : Bool
  hold : Bool
  budget : Bool
  deriving DecidableEq, Repr

/-- How the most recent operation ended (R91). -/
inductive WinchResult where
  | none | reached | limit | stall | cancelled | linkLost | cutoff | reset | fault
  deriving DecidableEq, Repr

/-- The armed stall detector: start time and start position (R104). -/
structure StallArm where
  since : Clock
  position : Int
  deriving DecidableEq, Repr

/-- WNC's state (R83 to R104). `grantUnread` is true from an allocation to the first winch update after it (R102). -/
structure Wnc where
  duty : Int
  state : WinchState
  op : Option WinchOp
  speed : Nat
  target : Int
  dir : WinchDir
  reasons : Reasons
  last : WinchResult
  cap : Nat
  stall : Option StallArm
  stallCount : Nat
  tripCount : Nat
  encErrors : Nat
  position : Int
  valid : Bool
  lineSpeed : Int
  windowSum : Int
  windowStart : Clock
  clock : Clock
  enc : EncoderPins
  grantUnread : Bool
  deriving DecidableEq, Repr

/-! ## Light Control Unit (LCU) -/

/-- Trigger sources (R115). -/
inductive TriggerSource where
  | none | brake | reverse | turnLeft | turnRight | winchActive | hazard | lowBatt
  deriving DecidableEq, Repr

/-- Dither modes (R115). -/
inductive Dither where
  | truncate | frame | diffuse
  deriving DecidableEq, Repr

/-- An action of a channel map (R115). -/
inductive Action where
  | level (v : Nat)
  | pattern (p : Fin 16)
  deriving DecidableEq, Repr

/-- A channel map (R115). -/
structure LightMap where
  source : TriggerSource
  onAction : Action
  offAction : Action
  dither : Dither
  fullOn : Nat
  deriving DecidableEq, Repr

/-- The link of a step (R131). -/
inductive StepLink where
  | next (k : Nat)
  | endHold
  | endOff
  deriving DecidableEq, Repr

/-- A step record of the pool (R131). -/
structure StepRecord where
  target : Nat
  ramp : Nat
  hold : Nat
  link : StepLink
  deriving DecidableEq, Repr

/-- A pattern table entry (R132); it is DEFINED exactly when its step list is not empty. -/
structure PatternEntry where
  steps : List (Fin 64)
  refs : Nat
  deriving DecidableEq, Repr

/-- A pattern runner that is not idle (R139). -/
structure Runner where
  pattern : Fin 16
  finished : Bool
  position : Nat
  latch : StepRecord
  start : Nat
  elapsed : Nat
  complete : Bool
  finishedLevel : Nat
  deriving DecidableEq, Repr

/-- One light channel (R113). The side in force is ON exactly when `activity` is true. `restart` is set at the end of a
cutoff for a channel that was forced off, until its first period start (R126). -/
structure LightChan where
  activity : Bool
  base : Nat
  runner : Option Runner
  forcedOff : Bool
  restart : Bool
  slot : Nat
  residual : Nat
  level : Nat
  deriving DecidableEq, Repr

/-- LCU's running state (R113). -/
structure Lcu where
  chans : Vector LightChan 8
  deriving DecidableEq, Repr

/-! ## Battery Monitor (BMN) -/

/-- Protection stages (R150). -/
inductive Stage where
  | normal | warn | limit | shed | cutoff
  deriving DecidableEq, Repr

/-- A cell place of the published set: filtered voltage and number of filter entries (R159). -/
structure CellPlace where
  mv : Nat
  entries : Nat
  deriving DecidableEq, Repr

/-- The published set of the last completed sweep (R144, R149, R158). -/
structure BatterySet where
  sweep : BitVec 32
  stage : Stage
  pack : Nat
  tap1 : Nat
  tap2 : Nat
  tap3 : Nat
  packCurrent : Nat
  servoRail : Nat
  df : Nat
  dr : Nat
  winch : Nat
  cells : Vector CellPlace 4
  comp : Nat
  minVc : Nat
  weakest : Nat
  usedMah : Nat
  remaining : Nat
  deriving DecidableEq, Repr

/-- BMN's state (R145 to R158). `autoPending` holds from a power-on with AUTO to its decision (R145). -/
structure Bmn where
  cellCount : Nat
  auto : Bool
  autoPending : Bool
  filters : Vector (List Nat) 4
  tapFault : Bool
  badRun : Nat
  goodRun : Nat
  stage : Stage
  warnRun : Nat
  limitRun : Nat
  shedRun : Nat
  cutoffRun : Nat
  recoverRun : Nat
  charge : Nat
  pub : BatterySet
  deriving DecidableEq, Repr

/-! ## Power Budget Allocator (PBA) -/

/-- Budget classes (R163). -/
inductive ClassId where
  | servo | driveF | driveR | winch | lights
  deriving DecidableEq, Repr

/-- One value per class, in class order (R163). -/
structure PerClass (α : Type) where
  servo : α
  driveF : α
  driveR : α
  winch : α
  lights : α
  deriving DecidableEq, Repr

/-- A class record (R163). -/
structure ClassRecord where
  priority : Nat
  floor : Nat
  ceiling : Nat
  deriving DecidableEq, Repr

/-- The published set of the last allocation (R163, R169 to R171). `pmax` is the Pmax that the allocation used. -/
structure Allocation where
  pmax : Nat
  demand : PerClass Nat
  want : PerClass Nat
  grant : PerClass Nat
  available : Nat
  stage : Stage
  leftover : Nat
  lightScale : Nat
  servoFactor : Nat
  starved : Bool
  sweep : BitVec 32
  deriving DecidableEq, Repr

/-- PBA's state; `allocated` is false until the first allocation (R163). -/
structure Pba where
  pub : Allocation
  allocated : Bool
  deriving DecidableEq, Repr

/-! ## Link Interface (LIF) -/

/-- A received frame: type and payload (R176). -/
structure RxFrame where
  type : Byte
  payload : Payload
  deriving DecidableEq, Repr

/-- The receiver and the bytes it has gathered (R175). In CHECK the gathered bytes number L. -/
inductive Receiver where
  | hunt
  | length
  | body (len : Nat) (got : List Byte)
  | check (got : List Byte)
  deriving DecidableEq, Repr

/-- A field of a frame that the part sends (section 6.1). `unsized` is a field whose width no rule states, by its name (log 4). -/
inductive Field where
  | u8 (v : Nat)
  | u16 (v : Nat)
  | u32 (v : Nat)
  | i16 (v : Int)
  | i32 (v : Int)
  | unsized (f : Config.OpenField) (v : Int)
  deriving DecidableEq, Repr

/-- A reply or report: its type and its payload fields (R180, R181). -/
structure TxFrame where
  type : Byte
  fields : List Field
  deriving DecidableEq, Repr

/-- Which queue the frame on the line came from (R181). -/
inductive TxSource where
  | reply | report
  deriving DecidableEq, Repr

/-- The frame being sent (R181). -/
structure Transmission where
  source : TxSource
  bytes : List Byte
  deriving DecidableEq, Repr

/-- The seven link counts (R182). -/
structure LinkCounts where
  crc : Nat
  framing : Nat
  noise : Nat
  overrun : Nat
  gap : Nat
  breaks : Nat
  reportDrop : Nat
  deriving DecidableEq, Repr

/-- LIF's state (R174 to R186). `gapSince` is when the gap now timed began; `baud` is the code of the line's speed. -/
structure Lif where
  rx : Receiver
  gapSince : Option Nat
  inBreak : Bool
  intake : List RxFrame
  replies : List TxFrame
  reports : List TxFrame
  tx : Option Transmission
  lastGood : Option Nat
  loss : Bool
  counts : LinkCounts
  telSeq : BitVec 16
  telNext : Option Nat
  baud : Nat
  deriving DecidableEq, Repr

/-! ## The working configuration (section 11.1), one record per owning block -/

/-- CSC's parameters (R9). -/
structure CscCfg where
  linkTimeout : Nat
  holdLinkTimeout : Nat
  deriving DecidableEq, Repr

/-- The FAILSAFE steering option (R31). -/
inductive FailsafeSteer where
  | center | holdAngle
  deriving DecidableEq, Repr

/-- SMX's active tables and parameters (R18, R31). -/
structure SmxCfg where
  frontTable : CurveTable
  rearTable : CurveTable
  ratio : Nat
  blendMs : Nat
  turnThreshold : Nat
  failsafeSteer : FailsafeSteer
  powerOnMode : SteerMode
  deriving DecidableEq, Repr

/-- SPG's endpoints in force and parameters (R41, R57). -/
structure SpgCfg where
  fsEnds : Endpoints
  rsEnds : Endpoints
  shEnds : Endpoints
  fsPeriod : Nat
  rsPeriod : Nat
  shPeriod : Nat
  fsSlew : Nat
  rsSlew : Nat
  shSlew : Nat
  shiftThreshold : Nat
  shiftWait : Nat
  shiftSettle : Nat
  powerOnGear : Gear
  deriving DecidableEq, Repr

/-- DRC's active THROTTLE table and parameters (R62, R81). -/
structure DrcCfg where
  throttleTable : CurveTable
  neutral : Nat
  gainF : Nat
  gainR : Nat
  aUp : Nat
  aDown : Nat
  drag : Nat
  tripLevel : Nat
  assistOn : Bool
  assistGain : Nat
  assistCap : Nat
  failsafeBrake : Bool
  deriving DecidableEq, Repr

/-- WNC's soft limits and parameters (R88, R110). -/
structure WncCfg where
  inner : Int
  outer : Int
  umPerCount : Nat
  approach : Nat
  stallWindow : Nat
  stallCurrent : Nat
  tripLevel : Nat
  minimum : Nat
  deriving DecidableEq, Repr

/-- LCU's maps, step pool, pattern table and free list (R115, R131 to R133). -/
structure LcuCfg where
  maps : Vector LightMap 8
  pool : Vector StepRecord 64
  table : Vector PatternEntry 16
  free : List (Fin 64)
  deriving DecidableEq, Repr

/-- The battery levels (R150). -/
structure BatteryLevels where
  warn : Nat
  limit : Nat
  shed : Nat
  cutoff : Nat
  hysteresis : Nat
  deriving DecidableEq, Repr

/-- BMN's levels, parameters and protect lock flag (R150, R156, R160). `cellCount` 0 is AUTO. -/
structure BmnCfg where
  levels : BatteryLevels
  cellCount : Nat
  cellMilliohm : Nat
  compCap : Nat
  stageDwell : Nat
  cutoffDwell : Nat
  recoverDwell : Nat
  capacity : Nat
  lockFlag : Bool
  deriving DecidableEq, Repr

/-- PBA's class records and Pmax (R163, R165). -/
structure PbaCfg where
  classes : PerClass ClassRecord
  pmax : Nat
  deriving DecidableEq, Repr

/-- LIF's parameters (R184). -/
structure LifCfg where
  baud : Nat
  telemetryMs : Nat
  deriving DecidableEq, Repr

/-- The working configuration: the configuration in force in all blocks (section 11.1). -/
structure WorkingConfig where
  csc : CscCfg
  smx : SmxCfg
  spg : SpgCfg
  drc : DrcCfg
  wnc : WncCfg
  lcu : LcuCfg
  bmn : BmnCfg
  pba : PbaCfg
  lif : LifCfg
  deriving DecidableEq, Repr

/-! ## Profile Store (PST) -/

/-- The stored profile: an image that fails its CRC-16 check, or one that passes it and holds a configuration (R187; log 12). -/
inductive StoredImage where
  | failsCheck
  | passes (cfg : WorkingConfig)
  deriving DecidableEq, Repr

/-- A store in progress: the store state is WRITING exactly while there is one (R189). -/
structure StoreWrite where
  snapshot : WorkingConfig
  acceptedAt : Nat
  deriving DecidableEq, Repr

/-- PST's state (R187). -/
structure Pst where
  stored : StoredImage
  writing : Option StoreWrite
  valid : Bool
  defaulted : Bool
  deriving DecidableEq, Repr

/-! ## Result codes and power -/

/-- Result codes of replies (R180). -/
inductive ResultCode where
  | ok | clamped | busy | wrongState | badLength | badValue | unknownType | locked | noSpace | inUse | neutral | lowBattery
  deriving DecidableEq, Repr

/-- Causes of a STATE_CHANGE report (R14). -/
inductive Cause where
  | hostRequest | neutralSetpoint | linkTimeout | linkBreak | batteryCutoff | release
  deriving DecidableEq, Repr

/-- Results of a shift (R55). -/
inductive ShiftResult where
  | done | cancelled | abandoned | interrupted
  deriving DecidableEq, Repr

/-- Whether the part has power and is out of reset (R188). -/
inductive Power where
  | off | resetHeld | running
  deriving DecidableEq, Repr

end Sys2Proof.Machine
end

