-- ==== Sys2Proof/Machine/Runner.lean ====
section
/-! DEFINITION. The pattern runner: entering a step, following a link, one period of a step (R120, R139 to R141). -/

namespace Sys2Proof.Machine

/-- The factory step record (R131). -/
def factoryStep : StepRecord := { target := 0, ramp := 0, hold := 0, link := .endHold }

/-- The table entry is DEFINED: its step list is not empty (R132). -/
def PatternEntry.isDefined (e : PatternEntry) : Bool := !e.steps.isEmpty

/-- The pool index of the step at position `j` of pattern `p` (R132). -/
def stepIndex (cfg : LcuCfg) (p : Fin 16) (j : Nat) : Option (Fin 64) := cfg.table[p].steps[j]?

/-- The pool record of the step at position `j` of pattern `p` (R132). -/
def stepAt (cfg : LcuCfg) (p : Fin 16) (j : Nat) : StepRecord :=
  match stepIndex cfg p j with
  | some i => cfg.pool[i]
  | none => factoryStep

/-- Entering the step at position `j`: the fields are latched and the ramp starts from the base level (R139). DESIGN CHOICE (log 38):
the finished level, which R139 gives only once FINISHED, is 0 until then. -/
def enterStep (cfg : LcuCfg) (p : Fin 16) (j base : Nat) : Runner :=
  { pattern := p, finished := false, position := j, latch := stepAt cfg p j, start := base, elapsed := 0,
    complete := false, finishedLevel := 0 }

/-- Starting an action on a channel (R120). -/
def startAction (cfg : LcuCfg) (a : Action) (c : LightChan) : LightChan :=
  match a with
  | .level v => { c with runner := none, base := v }
  | .pattern p => { c with runner := some (enterStep cfg p 0 c.base) }

/-- The step length in periods (R140). -/
def stepLength (st : StepRecord) : Nat := if st.ramp + st.hold = 0 then 1 else st.ramp + st.hold

/-- Item 3 of R140: the base level at `elapsed` periods into a step. -/
def stepLevel (st : StepRecord) (start elapsed : Nat) : Nat :=
  if 0 < st.ramp ∧ elapsed ≤ st.ramp then
    ((start : Int) + Int.tdiv (((st.target : Int) - start) * elapsed) st.ramp).toNat
  else st.target

/-- Items 2 to 4 of R140: one period of the step the runner is in; `elapsed` is held at 120000 (R139). -/
def runStep (r : Runner) : Runner × Nat :=
  let elapsed := min (r.elapsed + 1) 120000
  ({ r with elapsed := elapsed, complete := decide (stepLength r.latch ≤ elapsed) }, stepLevel r.latch r.start elapsed)

/-- One period start of a channel whose runner is not idle: the runner after it and the base level (R140, R141). -/
def runPeriod (cfg : LcuCfg) (r : Runner) (base : Nat) : Runner × Nat :=
  if r.finished then (r, r.finishedLevel)
  else if r.complete then
    match r.latch.link with
    | .next k => runStep (enterStep cfg r.pattern k base)
    | .endHold => ({ r with finished := true, finishedLevel := r.latch.target }, r.latch.target)
    | .endOff => ({ r with finished := true, finishedLevel := 0 }, 0)
  else runStep r

end Sys2Proof.Machine
end

