-- ==== Sys2Proof/Machine/Factory.lean ====
section
/-! DEFINITION. The factory set of the working configuration and the power-on values of every block. -/

namespace Sys2Proof.Machine

/-! ## Per-class values -/

/-- The value of one class. -/
def PerClass.get {α : Type} (v : PerClass α) : ClassId → α
  | .servo => v.servo
  | .driveF => v.driveF
  | .driveR => v.driveR
  | .winch => v.winch
  | .lights => v.lights

/-- One value per class from a function of the class. -/
def perClass {α : Type} (f : ClassId → α) : PerClass α :=
  { servo := f .servo, driveF := f .driveF, driveR := f .driveR, winch := f .winch, lights := f .lights }

/-- The values with one class's value replaced. -/
def PerClass.set {α : Type} (v : PerClass α) (c : ClassId) (x : α) : PerClass α :=
  perClass fun d => if d = c then x else v.get d

/-- The sum over the five classes. -/
def PerClass.sum (v : PerClass Nat) : Nat := v.servo + v.driveF + v.driveR + v.winch + v.lights

/-- The floors of the class records (R163). -/
def floorsOf (cs : PerClass ClassRecord) : PerClass Nat := perClass fun c => (cs.get c).floor

/-! ## Factory values -/

/-- The linear factory table T[i] = −1000 + 125·i (R18). -/
def linearTable : CurveTable := Vector.ofFn fun i => -1000 + 125 * (i.val : Int)

/-- Factory values of the two link timer lengths (R9). -/
def factoryCsc : CscCfg := { linkTimeout := 250, holdLinkTimeout := 2000 }

/-- Factory tables and parameters of SMX (R18, R31). -/
def factorySmx : SmxCfg :=
  { frontTable := linearTable, rearTable := linearTable, ratio := 768, blendMs := 400, turnThreshold := 400,
    failsafeSteer := .center, powerOnMode := .front }

/-- Factory endpoints and parameters of SPG (R41, R57). -/
def factorySpg : SpgCfg :=
  { fsEnds := { left := 8000, center := 12000, right := 16000 },
    rsEnds := { left := 8000, center := 12000, right := 16000 },
    shEnds := { left := 9600, center := 0, right := 14400 },
    fsPeriod := 10, rsPeriod := 10, shPeriod := 20, fsSlew := 0, rsSlew := 0, shSlew := 200,
    shiftThreshold := 80, shiftWait := 1500, shiftSettle := 250, powerOnGear := .low }

/-- Factory table and parameters of DRC (R62, R81). -/
def factoryDrc : DrcCfg :=
  { throttleTable := linearTable, neutral := 30, gainF := 1000, gainR := 1000, aUp := 2, aDown := 4, drag := 300,
    tripLevel := 50000, assistOn := true, assistGain := 20, assistCap := 250, failsafeBrake := true }

/-- Factory limits and parameters of WNC (R88, R110). -/
def factoryWnc : WncCfg :=
  { inner := 0, outer := 2000000, umPerCount := 250, approach := 400, stallWindow := 300, stallCurrent := 8000,
    tripLevel := 30000, minimum := 500 }

/-- The factory map of a channel (R115). -/
def factoryMap : LightMap :=
  { source := .none, onAction := .level 0, offAction := .level 0, dither := .frame, fullOn := 0 }

/-- Factory maps, pool, table and free list of LCU (R115, R131 to R133). -/
def factoryLcu : LcuCfg :=
  { maps := Vector.replicate 8 factoryMap, pool := Vector.replicate 64 factoryStep,
    table := Vector.replicate 16 { steps := [], refs := 0 }, free := List.finRange 64 }

/-- Factory levels and parameters of BMN (R150, R156, R160). -/
def factoryBmn : BmnCfg :=
  { levels := { warn := 3500, limit := 3400, shed := 3300, cutoff := 3200, hysteresis := 100 },
    cellCount := 0, cellMilliohm := 8, compCap := 400, stageDwell := 25, cutoffDwell := 100, recoverDwell := 100,
    capacity := 0, lockFlag := false }

/-- Factory class records and Pmax of PBA (R163, R165). -/
def factoryPba : PbaCfg :=
  { classes :=
      { servo := { priority := 0, floor := 1500, ceiling := 4000 },
        driveF := { priority := 2, floor := 2000, ceiling := 25000 },
        driveR := { priority := 2, floor := 2000, ceiling := 25000 },
        winch := { priority := 3, floor := 0, ceiling := 15000 },
        lights := { priority := 5, floor := 300, ceiling := 1200 } },
    pmax := 40000 }

/-- Factory parameters of LIF (R184). -/
def factoryLif : LifCfg := { baud := 0, telemetryMs := 0 }

/-- The factory set (R188). -/
def factoryConfig : WorkingConfig :=
  { csc := factoryCsc, smx := factorySmx, spg := factorySpg, drc := factoryDrc, wnc := factoryWnc, lcu := factoryLcu,
    bmn := factoryBmn, pba := factoryPba, lif := factoryLif }

/-! ## Power-on values -/

/-- CSC after power-on (R15). -/
def powerOnCsc : Csc :=
  { chassis := .standby, setpoint := { throttle := 0, steer := 0, valid := false }, hold := none, linkLost := false }

/-- A closed load whose shadow equals the active table (R18, R32). -/
def closedLoad (t : CurveTable) : CurveLoad := { state := .closed, pointer := 0, shadow := t }

/-- An inactive blend record as at power-on (R22). -/
def restBlend (m : SteerMode) : Blend :=
  { fromKind := .mode, fromMode := m, frozen := 0, elapsedUs := 0, active := false }

/-- SMX after power-on (R22, R38). -/
def powerOnSmx (cfg : WorkingConfig) : Smx :=
  { target := cfg.smx.powerOnMode, frontBlend := restBlend cfg.smx.powerOnMode, rearBlend := restBlend cfg.smx.powerOnMode,
    frontAngle := 0, rearAngle := 0, frontLoad := closedLoad cfg.smx.frontTable, rearLoad := closedLoad cfg.smx.rearTable,
    throttleLoad := closedLoad cfg.drc.throttleTable }

/-- The endpoint of a gear: Plo for LOW, Phi for HIGH (R41, R48). -/
def gearEndpoint (e : Endpoints) : Gear → Int
  | .low => e.left
  | .high => e.right

/-- A servo channel after power-on (R59). -/
def powerOnServo (period : Nat) (p : Int) : ServoChan :=
  { periodMs := period, waiting := none, pOut := p, acc := 0, lastWidth := 0, lineWidth := 0, effSlew := 0 }

/-- SPG after power-on (R48, R59). -/
def powerOnSpg (c : SpgCfg) : Spg :=
  { fs := powerOnServo c.fsPeriod c.fsEnds.center, rs := powerOnServo c.rsPeriod c.rsEnds.center,
    sh := powerOnServo c.shPeriod (gearEndpoint c.shEnds c.powerOnGear),
    shift := { gear := c.powerOnGear, pending := none, phase := .idle, latched := 0, waitMs := 0, settleMs := 0 } }

/-- A drive channel after power-on (R82); no update has left a target or an output yet, and both read 0 (log 33). -/
def powerOnDriveChan : DriveChan :=
  { target := 0, output := 0, brake := 0, cap := 1000, fault := .normal, history := [], retry := none, tripCount := 0,
    assist := false, lastTarget := 0, lastOutput := 0 }

/-- DRC after power-on (R82). -/
def powerOnDrc : Drc :=
  { df := powerOnDriveChan, dr := powerOnDriveChan, digRequested := .off, digInForce := .off, clock := 0 }

/-- The empty suspend reason set (R91). -/
def noReasons : Reasons := { host := false, hold := false, budget := false }

/-- WNC after power-on; `enc` is the encoder pair sampled then (R85, R112). -/
def powerOnWnc (enc : EncoderPins) : Wnc :=
  { duty := 0, state := .braked, op := none, speed := 0, target := 0, dir := .inward, reasons := noReasons, last := .none,
    cap := 1000, stall := none, stallCount := 0, tripCount := 0, encErrors := 0, position := 0, valid := false,
    lineSpeed := 0, windowSum := 0, windowStart := 0, clock := 0, enc := enc, grantUnread := false }

/-- A light channel after power-on: every source is inactive, so its off-action is started (R130). -/
def powerOnLight (c : LcuCfg) (k : Fin 8) : LightChan :=
  startAction c c.maps[k].offAction
    { activity := false, base := 0, runner := none, forcedOff := false, restart := false, slot := 0, residual := 0, level := 0 }

/-- LCU after power-on (R130). -/
def powerOnLcu (c : LcuCfg) : Lcu := { chans := Vector.ofFn fun k => powerOnLight c k }

/-- The published battery set before the first sweep completion (R144, R162). -/
def emptyBatterySet : BatterySet :=
  { sweep := 0, stage := .normal, pack := 0, tap1 := 0, tap2 := 0, tap3 := 0, packCurrent := 0, servoRail := 0, df := 0,
    dr := 0, winch := 0, cells := Vector.replicate 4 { mv := 0, entries := 0 }, comp := 0, minVc := 0, weakest := 0,
    usedMah := 0, remaining := 0 }

/-- BMN after power-on (R145, R162). -/
def powerOnBmn (c : BmnCfg) : Bmn :=
  { cellCount := if c.cellCount = 0 then 2 else c.cellCount, auto := false, autoPending := decide (c.cellCount = 0),
    filters := Vector.replicate 4 [], tapFault := false, badRun := 0, goodRun := 0, stage := .normal, warnRun := 0,
    limitRun := 0, shedRun := 0, cutoffRun := 0, recoverRun := 0, charge := 0, pub := emptyBatterySet }

/-- PBA after power-on: the grants are the floors (R163, R173). -/
def powerOnPba (c : PbaCfg) : Pba :=
  { pub :=
      { pmax := c.pmax, demand := perClass fun _ => 0, want := perClass fun _ => 0, grant := floorsOf c.classes, available := 0,
        stage := .normal, leftover := 0, lightScale := 1024, servoFactor := 1024, starved := false, sweep := 0 },
    allocated := false }

/-- When the telemetry schedule started at `now` forms its first report: never with a period of 0 (R186). -/
def telemetryStart (now periodMs : Nat) : Option Nat := if periodMs = 0 then none else some (now + periodMs)

/-- The seven counts at 0 (R182). -/
def zeroCounts : LinkCounts :=
  { crc := 0, framing := 0, noise := 0, overrun := 0, gap := 0, breaks := 0, reportDrop := 0 }

/-- LIF after power-on; the line takes the baud of the configuration just loaded (R174, R182). -/
def powerOnLif (c : LifCfg) : Lif :=
  { rx := .hunt, gapSince := none, inBreak := false, intake := [], replies := [], reports := [], tx := none,
    lastGood := none, loss := false, counts := zeroCounts, telSeq := 0, telNext := telemetryStart 0 c.telemetryMs,
    baud := c.baud }

/-- The configuration loaded at power-on: the stored image if it passes its check, the factory set if not (R188). -/
def loadedConfig : StoredImage → WorkingConfig
  | .passes c => c
  | .failsCheck => factoryConfig

/-- PST after power-on with the given stored image (R188). -/
def powerOnPst (img : StoredImage) : Pst :=
  match img with
  | .passes c => { stored := .passes c, writing := none, valid := true, defaulted := false }
  | .failsCheck => { stored := .failsCheck, writing := none, valid := false, defaulted := true }

end Sys2Proof.Machine
end

