-- ==== Sys2Proof/Machine/State.lean ====
section
/-! DEFINITION. The whole state of the part, the two kinds of stop, and the state right after reset. -/

namespace Sys2Proof.Machine

/-- The state. `pending` is the queue of waiting commands, oldest first; `now` is the time in ms since power-on on which LIF,
CSC and PST measure; `freeIndex` is the model's own counter for the free values (log 3). -/
structure State where
  power : Power
  now : Nat
  freeIndex : Nat
  pending : List Instr
  cfg : WorkingConfig
  csc : Csc
  smx : Smx
  spg : Spg
  drc : Drc
  wnc : Wnc
  lcu : Lcu
  bmn : Bmn
  pba : Pba
  lif : Lif
  pst : Pst
  deriving DecidableEq, Repr

/-- Why the machine stops with a fault. No rule of the manual stops the part, so there is no constructor: no command faults. -/
inductive Fault where
  deriving DecidableEq, Repr

/-- Why a command has no meaning. -/
inductive Refusal where
  /-- Raised by an arm of `exec` whose command has no meaning yet; safe. No arm raises it in this model. -/
  | notModelled (mnemonic : String)
  deriving DecidableEq, Repr

/-- The state after a power-on with the given stored image and encoder pair: every block takes its power-on values from the
configuration just loaded (R188). -/
def State.powerOn (img : StoredImage) (enc : EncoderPins) (freeIndex : Nat) (pending : List Instr) : State :=
  { power := .running, now := 0, freeIndex := freeIndex, pending := pending, cfg := loadedConfig img, csc := powerOnCsc,
    smx := powerOnSmx (loadedConfig img), spg := powerOnSpg (loadedConfig img).spg, drc := powerOnDrc, wnc := powerOnWnc enc,
    lcu := powerOnLcu (loadedConfig img).lcu, bmn := powerOnBmn (loadedConfig img).bmn, pba := powerOnPba (loadedConfig img).pba,
    lif := powerOnLif (loadedConfig img).lif, pst := powerOnPst img }

/-- Right after the first power-on of a part that has never been stored (R187, R188). DESIGN CHOICE (log 2): the encoder lines
are sampled low and `freeIndex` starts at 0. -/
def State.reset : State := State.powerOn .failsCheck { a := false, b := false } 0 []

end Sys2Proof.Machine
end

