-- ==== Sys2Proof/Machine/Operands.lean ====
section
/-! DEFINITION. Reading the fields of a payload (little-endian, signed fields two's complement: section 6.1) and the operand
values that requests carry as codes. -/

namespace Sys2Proof.Machine

/-- The byte at an offset of a payload. -/
def byteAt (p : Payload) (i : Nat) : Byte := p.getD i 0

/-- The u8 field at an offset. -/
def u8At (p : Payload) (i : Nat) : Nat := (byteAt p i).toNat

/-- The u16 field at an offset. -/
def u16At (p : Payload) (i : Nat) : Nat := u8At p i + 256 * u8At p (i + 1)

/-- The u32 field at an offset. -/
def u32At (p : Payload) (i : Nat) : Nat := u16At p i + 65536 * u16At p (i + 2)

/-- The signed value of a 16-bit field. -/
def signed16 (v : Nat) : Int := if v < 32768 then v else (v : Int) - 65536

/-- The signed value of a 32-bit field. -/
def signed32 (v : Nat) : Int := if v < 2147483648 then v else (v : Int) - 4294967296

/-- The i16 field at an offset. -/
def i16At (p : Payload) (i : Nat) : Int := signed16 (u16At p i)

/-- The i32 field at an offset. -/
def i32At (p : Payload) (i : Nat) : Int := signed32 (u32At p i)

/-- The i16 values that fill a list of bytes (R34). -/
def i16List : List Byte → List Int
  | a :: b :: rest => signed16 (a.toNat + 256 * b.toNat) :: i16List rest
  | _ => []

/-- Steer mode of a code (R20, R23). -/
def steerModeOf : Nat → Option SteerMode
  | 0 => some .front
  | 1 => some .rear
  | 2 => some .counter
  | 3 => some .crab
  | _ => none

/-- Curve table of a code (section 2.7). -/
def curveIdOf : Nat → Option CurveId
  | 0 => some .front
  | 1 => some .rear
  | 2 => some .throttle
  | _ => none

/-- Servo channel of a code (R41). -/
def servoChOf : Nat → Option ServoCh
  | 0 => some .fs
  | 1 => some .rs
  | 2 => some .sh
  | _ => none

/-- Gear of a code (R49). -/
def gearOf : Nat → Option Gear
  | 0 => some .low
  | 1 => some .high
  | _ => none

/-- Dig mode of a code (R66). -/
def digModeOf : Nat → Option DigMode
  | 0 => some .off
  | 1 => some .lockRear
  | 2 => some .lockFront
  | _ => none

/-- Drive channel of a code (R74). -/
def driveChOf : Nat → Option DriveCh
  | 0 => some .df
  | 1 => some .dr
  | _ => none

/-- Trigger source of a code (R115). -/
def sourceOf : Nat → Option TriggerSource
  | 0 => some .none
  | 1 => some .brake
  | 2 => some .reverse
  | 3 => some .turnLeft
  | 4 => some .turnRight
  | 5 => some .winchActive
  | 6 => some .hazard
  | 7 => some .lowBatt
  | _ => none

/-- Dither mode of a code (R115). -/
def ditherOf : Nat → Option Dither
  | 0 => some .truncate
  | 1 => some .frame
  | 2 => some .diffuse
  | _ => none

/-- Budget class of a code (R163). -/
def classOf : Nat → Option ClassId
  | 0 => some .servo
  | 1 => some .driveF
  | 2 => some .driveR
  | 3 => some .winch
  | 4 => some .lights
  | _ => none

/-- Light channel of a code (R113). -/
def lightOf (n : Nat) : Option (Fin 8) := if h : n < 8 then some ⟨n, h⟩ else none

/-- Pattern of a number (R132). -/
def patternOf (n : Nat) : Option (Fin 16) := if h : n < 16 then some ⟨n, h⟩ else none

end Sys2Proof.Machine
end

