-- ==== Sys2Proof/Machine/Ops.lean ====
section
/-! DEFINITION. The named operations the commands share: codes, arithmetic, the bytes of a frame, posting a report, taking a
request, free values. -/

namespace Sys2Proof.Machine

/-! ## Arithmetic -/

/-- A value clamped into a range (section 6.3). -/
def clampInt (lo hi v : Int) : Int := max lo (min hi v)

/-- A count increased by 1 and held at its stated maximum (section 6.1). -/
def countUp (top n : Nat) : Nat := min (n + 1) top

/-! ## Codes -/

/-- Chassis state codes (R1). -/
def Chassis.code : Chassis → Nat
  | .standby => 0
  | .run => 1
  | .hold => 2
  | .failsafe => 3
  | .cutoff => 4

/-- Result codes (R180). -/
def ResultCode.code : ResultCode → Nat
  | .ok => 0
  | .clamped => 1
  | .busy => 2
  | .wrongState => 3
  | .badLength => 4
  | .badValue => 5
  | .unknownType => 6
  | .locked => 7
  | .noSpace => 8
  | .inUse => 9
  | .neutral => 10
  | .lowBattery => 11

/-- Cause codes of STATE_CHANGE (R14). -/
def Cause.code : Cause → Nat
  | .hostRequest => 0
  | .neutralSetpoint => 1
  | .linkTimeout => 2
  | .linkBreak => 3
  | .batteryCutoff => 4
  | .release => 5

/-- Result codes of SHIFT_END (R55). -/
def ShiftResult.code : ShiftResult → Nat
  | .done => 0
  | .cancelled => 1
  | .abandoned => 2
  | .interrupted => 3

/-- Steer mode codes (R20). -/
def SteerMode.code : SteerMode → Nat
  | .front => 0
  | .rear => 1
  | .counter => 2
  | .crab => 3

/-- Servo channel codes (R41). -/
def servoCode : ServoCh → Nat
  | .fs => 0
  | .rs => 1
  | .sh => 2

/-- Gear codes (R48). -/
def Gear.code : Gear → Nat
  | .low => 0
  | .high => 1

/-- Pending gear codes: 2 for none (R49). -/
def pendingGearCode : Option Gear → Nat
  | none => 2
  | some g => g.code

/-- Shift phase codes (R48). -/
def ShiftPhase.code : ShiftPhase → Nat
  | .idle => 0
  | .easing => 1
  | .moving => 2
  | .settling => 3

/-- Drive channel codes (R60). -/
def driveCode : DriveCh → Nat
  | .df => 0
  | .dr => 1

/-- Drive fault state codes (R60). -/
def FaultState.code : FaultState → Nat
  | .normal => 0
  | .tripped => 1
  | .latched => 2

/-- Dig mode codes (R66). -/
def DigMode.code : DigMode → Nat
  | .off => 0
  | .lockRear => 1
  | .lockFront => 2

/-- Winch state codes of the record (R91). -/
def WinchState.code : WinchState → Nat
  | .braked => 0
  | .free => 1
  | .spoolIn => 2
  | .spoolOut => 3
  | .pull => 4
  | .suspended => 5
  | .stalled => 6

/-- Winch result codes (R91). -/
def WinchResult.code : WinchResult → Nat
  | .none => 0
  | .reached => 1
  | .limit => 2
  | .stall => 3
  | .cancelled => 4
  | .linkLost => 5
  | .cutoff => 6
  | .reset => 7
  | .fault => 8

/-- Step link codes (R131). -/
def StepLink.code : StepLink → Nat
  | .next _ => 0
  | .endHold => 1
  | .endOff => 2

/-- Protection stage codes; a higher code is a worse stage (R150). -/
def Stage.code : Stage → Nat
  | .normal => 0
  | .warn => 1
  | .limit => 2
  | .shed => 3
  | .cutoff => 4

/-! ## Replacing one block's record -/

/-- Replaces the working configuration. -/
def State.withCfg (s : State) (x : WorkingConfig) : State := { s with cfg := x }

/-- Replaces CSC's record. -/
def State.withCsc (s : State) (x : Csc) : State := { s with csc := x }

/-- Replaces SMX's record. -/
def State.withSmx (s : State) (x : Smx) : State := { s with smx := x }

/-- Replaces SPG's record. -/
def State.withSpg (s : State) (x : Spg) : State := { s with spg := x }

/-- Replaces DRC's record. -/
def State.withDrc (s : State) (x : Drc) : State := { s with drc := x }

/-- Replaces WNC's record. -/
def State.withWnc (s : State) (x : Wnc) : State := { s with wnc := x }

/-- Replaces LCU's record. -/
def State.withLcu (s : State) (x : Lcu) : State := { s with lcu := x }

/-- Replaces BMN's record. -/
def State.withBmn (s : State) (x : Bmn) : State := { s with bmn := x }

/-- Replaces PBA's record. -/
def State.withPba (s : State) (x : Pba) : State := { s with pba := x }

/-- Replaces LIF's record. -/
def State.withLif (s : State) (x : Lif) : State := { s with lif := x }

/-- Replaces PST's record. -/
def State.withPst (s : State) (x : Pst) : State := { s with pst := x }

/-- Advances the counter of the free values by `n` (log 3). -/
def State.useFree (s : State) (n : Nat) : State := { s with freeIndex := s.freeIndex + n }

/-- The `j`-th free value that the present taking uses (log 3). -/
def State.free (s : State) (j : Nat) : Nat := Config.freeValue (s.freeIndex + j)

/-! ## The bytes of a frame -/

/-- The `n` lowest bytes of a number, least significant first (section 6.1). -/
def leBytes : Nat → Nat → List Byte
  | 0, _ => []
  | n + 1, v => BitVec.ofNat 8 v :: leBytes n (v / 256)

/-- The number of bytes of a field whose width no rule states (log 4). -/
def openBytes (f : Config.OpenField) : Nat := max f.least.bytes (Config.openWidth f).bytes

/-- The bytes of a field; a signed field is two's complement (section 6.1). -/
def Field.bytes : Field → List Byte
  | .u8 v => leBytes 1 v
  | .u16 v => leBytes 2 v
  | .u32 v => leBytes 4 v
  | .i16 v => leBytes 2 (v.emod 65536).toNat
  | .i32 v => leBytes 4 (v.emod 4294967296).toNat
  | .unsized f v => leBytes (openBytes f) (v.emod (256 ^ openBytes f)).toNat

/-- The payload bytes of a frame that the part sends. -/
def TxFrame.payload (f : TxFrame) : List Byte := f.fields.flatMap Field.bytes

/-- One bit of the CRC-8 shifted out, polynomial x⁸ + x² + x + 1 (R175). -/
def crcShift (c : Byte) : Byte := if c.msb then (c <<< 1) ^^^ 0x07#8 else c <<< 1

/-- The CRC-8 after one more byte (R175). -/
def crcByte (c b : Byte) : Byte :=
  crcShift (crcShift (crcShift (crcShift (crcShift (crcShift (crcShift (crcShift (c ^^^ b))))))))

/-- The CRC-8 of a run of bytes, from 0, with no final inversion (R175). -/
def crc8 (bs : List Byte) : Byte := bs.foldl crcByte 0

/-- A whole frame on the line: sync, length, type, payload, CRC-8 (section 10.8). -/
def frameBytes (ty : Byte) (payload : List Byte) : List Byte :=
  let body := BitVec.ofNat 8 (payload.length + 1) :: ty :: payload
  0xC3#8 :: body ++ [crc8 body]

/-! ## Reports -/

/-- Posting a report: appended while the queue holds fewer than four, otherwise dropped and counted (R181). -/
def postReport (f : TxFrame) (s : State) : State :=
  if s.lif.reports.length < 4 then s.withLif { s.lif with reports := s.lif.reports ++ [f] }
  else s.withLif { s.lif with counts := { s.lif.counts with reportDrop := countUp 255 s.lif.counts.reportDrop } }

/-! ## Taking a request -/

/-- The payload lengths that each request type allows (section 10.9). -/
def requestTable : List (Byte × List Nat) :=
  [(0x01, [4]), (0x02, [0]), (0x03, [0]), (0x04, [0]), (0x08, [1]), (0x09, [1]), (0x0A, [3, 5, 7, 9, 11, 13, 15, 17]),
   (0x0B, [1]), (0x10, [7]), (0x11, [1]), (0x12, [1]), (0x18, [1]), (0x19, [1])] ++
  [(0x20, [3]), (0x21, [6]), (0x22, [0]), (0x23, [0]), (0x24, [0]), (0x25, [8]), (0x26, [0]), (0x30, [3]), (0x31, [11]),
   (0x32, [1]), (0x33, [10]), (0x34, [1]), (0x35, [2]), (0x36, [0])] ++
  [(0x38, [10]), (0x39, [1]), (0x3A, [0]), (0x3C, [8]), (0x3D, [0]), (0x40, [5]), (0x41, [1]), (0x48, [0]), (0x49, [0]),
   (0x4A, [0]), (0x50, [1]), (0x51, [0]), (0x52, [1])]

/-- The type is a request type of the index (R179). -/
def isRequestType (ty : Byte) : Bool := (requestTable.lookup ty).isSome

/-- The index allows a payload of this length for the type (R179). -/
def lengthAllowed (ty : Byte) (n : Nat) : Bool :=
  match requestTable.lookup ty with
  | some ls => ls.contains n
  | none => false

/-- LIF takes this frame now: the part runs, the frame is the oldest of the intake queue and the reply queue has a free place
(R179). Otherwise the command waits: it changes nothing (log 6). -/
def canTake (ty : Byte) (p : Payload) (s : State) : Bool :=
  decide (s.power = .running) && decide (s.lif.intake.head? = some { type := ty, payload := p }) &&
    decide (s.lif.replies.length < 4)

/-- The oldest frame leaves the intake queue (R179). -/
def popIntake (s : State) : State := s.withLif { s.lif with intake := s.lif.intake.tail }

/-- A reply is placed in the free place (R179). -/
def putReply (f : TxFrame) (s : State) : State := s.withLif { s.lif with replies := s.lif.replies ++ [f] }

/-- The result code as the first field of a reply (R180). -/
def rc (c : ResultCode) : Field := .u8 c.code

/-- A flag as a u8 field. -/
def flag (b : Bool) : Field := .u8 b.toNat

/-- The taking of a request: the length is judged, then the owner acts and forms the reply (R179, R180). -/
def taking (ty : Byte) (p : Payload) (owner : State → State × List Field) (s : State) : State :=
  if canTake ty p s then
    let r := if lengthAllowed ty p.length then owner (popIntake s) else (popIntake s, [rc .badLength, .u8 p.length])
    putReply { type := ty + 0x80#8, fields := r.2 } r.1
  else s

/-- A profile store is running: the store state is WRITING (R187, R189). -/
def storeRunning (s : State) : Bool := s.pst.writing.isSome

/-- The part runs: it has power and is out of reset (R188). -/
def isRunning (s : State) : Bool := decide (s.power = .running)

/-- An event of the part itself: it happens only while the part runs and the event is due, and otherwise changes nothing (log 7). -/
def whenDue (due : State → Bool) (act : State → State) (s : State) : State := if isRunning s && due s then act s else s

/-- An event of the part that is due whenever it is delivered. -/
def whenRunning (act : State → State) (s : State) : State := if isRunning s then act s else s

end Sys2Proof.Machine
end

