-- ==== Sys2Proof/Machine/Steering.lean ====
section
/-! DEFINITION. Chapter 2: curve tables and their loading, the steering mix, mode blends, the turn indicators. -/

namespace Sys2Proof.Machine

/-! ## Curve tables -/

/-- Entry `k` of a table. -/
def curveAt (t : CurveTable) (k : Nat) : Int := t[k]?.getD 0

/-- The interpolated value of a table at a steer or throttle value (R19). -/
def interpolate (t : CurveTable) (s : Int) : Int :=
  let u := s + 1000
  let k := min (Int.tdiv u 125).toNat 15
  let r := u - 125 * (k : Int)
  curveAt t k + Int.tdiv ((curveAt t (k + 1) - curveAt t k) * r) 125

/-- The load of a table. -/
def Smx.load (m : Smx) : CurveId → CurveLoad
  | .front => m.frontLoad
  | .rear => m.rearLoad
  | .throttle => m.throttleLoad

/-- Replaces the load of a table. -/
def Smx.setLoad (m : Smx) (id : CurveId) (l : CurveLoad) : Smx :=
  match id with
  | .front => { m with frontLoad := l }
  | .rear => { m with rearLoad := l }
  | .throttle => { m with throttleLoad := l }

/-- The active copy of a table (R18, R62). -/
def activeTable (cfg : WorkingConfig) : CurveId → CurveTable
  | .front => cfg.smx.frontTable
  | .rear => cfg.smx.rearTable
  | .throttle => cfg.drc.throttleTable

/-- Replaces the active copy of a table. -/
def setActiveTable (cfg : WorkingConfig) (id : CurveId) (t : CurveTable) : WorkingConfig :=
  match id with
  | .front => { cfg with smx := { cfg.smx with frontTable := t } }
  | .rear => { cfg with smx := { cfg.smx with rearTable := t } }
  | .throttle => { cfg with drc := { cfg.drc with throttleTable := t } }

/-- The changeover of a PENDING table at its next use; the shadow then equals the active copy (R36). -/
def curveChangeover (id : CurveId) (s : State) : State :=
  if (s.smx.load id).state = .pending then
    (s.withCfg (setActiveTable s.cfg id (s.smx.load id).shadow)).withSmx
      (s.smx.setLoad id (closedLoad (s.smx.load id).shadow))
  else s

/-! ## Angles -/

/-- The rear value scaled by the ratio K, truncated and clamped (R20). -/
def scaledRear (cfg : SmxCfg) (s : Int) : Int :=
  clampInt (-1000) 1000 (Int.tdiv (interpolate cfg.rearTable s * cfg.ratio) 1024)

/-- The angle of an axle under a mode (R20). -/
def modeAngle (cfg : SmxCfg) (axle : Axle) (m : SteerMode) (s : Int) : Int :=
  match axle, m with
  | .front, .rear => 0
  | .front, _ => interpolate cfg.frontTable s
  | .rear, .front => 0
  | .rear, .rear => interpolate cfg.rearTable s
  | .rear, .counter => scaledRear cfg s
  | .rear, .crab => -scaledRear cfg s

/-- The steer value of the setpoint record: 0 while it is not valid (R17). -/
def steerValue (sp : Setpoint) : Int := if sp.valid then sp.steer else 0

/-! ## Blends -/

/-- The blend record of an axle. -/
def Smx.blend (m : Smx) : Axle → Blend
  | .front => m.frontBlend
  | .rear => m.rearBlend

/-- Replaces the blend record of an axle. -/
def Smx.setBlend (m : Smx) (axle : Axle) (b : Blend) : Smx :=
  match axle with
  | .front => { m with frontBlend := b }
  | .rear => { m with rearBlend := b }

/-- The last computed angle of an axle. -/
def Smx.angle (m : Smx) : Axle → Int
  | .front => m.frontAngle
  | .rear => m.rearAngle

/-- Replaces the last computed angle of an axle. -/
def Smx.setAngle (m : Smx) (axle : Axle) (a : Int) : Smx :=
  match axle with
  | .front => { m with frontAngle := a }
  | .rear => { m with rearAngle := a }

/-- The elapsed time of a blend after one advance, held at its stated maximum (R22, R24). -/
def blendElapsed (b : Blend) (periodMs : Nat) : Nat := min (b.elapsedUs + 1000 * periodMs) 2020000

/-- The blend weight, 256 at once with B = 0 (R24, R25). -/
def blendWeight (elapsedUs blendMs : Nat) : Nat :=
  if blendMs = 0 then 256 else min 256 (elapsedUs * 256 / (blendMs * 1000))

/-- The angle of a blend at a weight (R24). -/
def blendAngle (cfg : SmxCfg) (axle : Axle) (target : SteerMode) (b : Blend) (s : Int) (w : Nat) : Int :=
  let a := match b.fromKind with
    | .mode => modeAngle cfg axle b.fromMode s
    | .frozen => b.frozen
  let z := modeAngle cfg axle target s
  a + Int.tdiv ((z - a) * w) 256

/-- The weight that the axle's next advance reaches (R24). -/
def nextWeight (axle : Axle) (periodMs : Nat) (s : State) : Nat :=
  blendWeight (blendElapsed (s.smx.blend axle) periodMs) s.cfg.smx.blendMs

/-- The computation of an axle in RUN: the blend is advanced if it is active, the angle is stored (R16, R24). -/
def smxRun (axle : Axle) (periodMs : Nat) (s : State) : State :=
  let b := s.smx.blend axle
  let v := steerValue s.csc.setpoint
  if b.active then
    let w := nextWeight axle periodMs s
    let b' := { b with elapsedUs := blendElapsed b periodMs, active := decide (w ≠ 256) }
    s.withSmx ((s.smx.setBlend axle b').setAngle axle (blendAngle s.cfg.smx axle s.smx.target b v w))
  else s.withSmx (s.smx.setAngle axle (modeAngle s.cfg.smx axle s.smx.target v))

/-- SMX's computation at a frame start, by the chassis state (R16). -/
def smxCompute (axle : Axle) (periodMs : Nat) (s : State) : State :=
  match s.csc.chassis with
  | .run => smxRun axle periodMs s
  | .failsafe =>
    match s.cfg.smx.failsafeSteer with
    | .center => s.withSmx (s.smx.setAngle axle (modeAngle s.cfg.smx axle s.smx.target 0))
    | .holdAngle => s
  | .standby | .hold | .cutoff => s

/-- The curve table of an axle. -/
def axleCurve : Axle → CurveId
  | .front => .front
  | .rear => .rear

/-- SMX's work at the frame start of an axle's servo channel (R16, R36). -/
def smxFrame (axle : Axle) (periodMs : Nat) (s : State) : State :=
  smxCompute axle periodMs (curveChangeover (axleCurve axle) s)

/-- A blend record made inactive with no time elapsed. -/
def stoppedBlend (b : Blend) : Blend := { b with active := false, elapsedUs := 0 }

/-- On entry into FAILSAFE or CUTOFF each active record becomes inactive (R27, R28). -/
def dropBlends (s : State) : State :=
  let drop := fun b : Blend => if b.active then stoppedBlend b else b
  s.withSmx { s.smx with frontBlend := drop s.smx.frontBlend, rearBlend := drop s.smx.rearBlend }

/-- The record of an axle as a new target mode sets it: from the live mode left, or frozen at the last computed angle (R23). -/
def startedBlend (b : Blend) (left : SteerMode) (angle : Int) : Blend :=
  if b.active then { b with fromKind := .frozen, frozen := angle, elapsedUs := 0, active := true }
  else { b with fromKind := .mode, fromMode := left, elapsedUs := 0, active := true }

/-- The hold record's mode-change flag is set while there is a hold record (R3, R26). -/
def noteModeChange (s : State) : State :=
  match s.csc.hold with
  | some h => if s.csc.chassis = .hold then s.withCsc { s.csc with hold := some { h with modeChange := true } } else s
  | none => s

/-- A requested mode taken while it differs from the target mode (R23, R26 to R28).
DEDUCED, unsafe for `elapsedUs` (log 43): in STANDBY, FAILSAFE and CUTOFF both records become inactive with elapsed_us 0, as R23 gives it
for B = 0; R27 and R28 say there only that both are inactive. -/
def changeMode (m : SteerMode) (s : State) : State :=
  let x := s.smx
  let blends := decide (s.csc.chassis = .run) || decide (s.csc.chassis = .hold)
  if blends && decide (s.cfg.smx.blendMs ≠ 0) then
    noteModeChange (s.withSmx { x with
      target := m
      frontBlend := startedBlend x.frontBlend x.target x.frontAngle
      rearBlend := startedBlend x.rearBlend x.target x.rearAngle })
  else
    noteModeChange (s.withSmx { x with
      target := m, frontBlend := stoppedBlend x.frontBlend, rearBlend := stoppedBlend x.rearBlend })

/-- The fields of a STEER_MODE reply (R23). -/
def steerModeReply (c : ResultCode) (s : State) : List Field :=
  [rc c, .u8 s.smx.target.code, flag s.smx.frontBlend.active, flag s.smx.rearBlend.active]

/-- SMX's part of a STEER_MODE (R23). -/
def steerModeOwner (p : Payload) (s : State) : State × List Field :=
  match steerModeOf (u8At p 0) with
  | none => (s, steerModeReply .badValue s)
  | some m =>
    let s' := if m = s.smx.target then s else changeMode m s
    (s', steerModeReply .ok s')

/-! ## Curve loading -/

/-- The reply of a curve request that finds no table or a running store: what no rule states is free (log 3). -/
def curveBeginRefusal (c : ResultCode) (p : Payload) (s : State) : State × List Field :=
  match curveIdOf (u8At p 0) with
  | some id => (s, [rc c, .u8 (u8At p 0), .unsized .curveBeginPointer (s.smx.load id).pointer])
  | none => (s.useFree 1, [rc c, .u8 (u8At p 0), .unsized .curveBeginPointer (s.free 0)])

/-- SMX's part of a CURVE_BEGIN (R32, R33). -/
def curveBeginOwner (p : Payload) (s : State) : State × List Field :=
  if storeRunning s then curveBeginRefusal .busy p s
  else match curveIdOf (u8At p 0) with
    | none => curveBeginRefusal .badValue p s
    | some id =>
      if (s.smx.load id).state = .pending then curveBeginRefusal .busy p s
      else
        (s.withSmx (s.smx.setLoad id { state := .opened, pointer := 0, shadow := activeTable s.cfg id }),
          [rc .ok, .u8 (u8At p 0), .unsized .curveBeginPointer 0])

/-- The values of a CURVE_DATA written in order while the pointer is below 17 (R34). -/
def writeCurve : List Int → CurveLoad → CurveLoad
  | [], l => l
  | v :: rest, l =>
    if h : l.pointer < 17 then
      writeCurve rest { l with shadow := l.shadow.set l.pointer (clampInt (-1000) 1000 v), pointer := l.pointer + 1 }
    else l

/-- The result code of a CURVE_DATA in OPEN (R34). -/
def curveDataCode (vs : List Int) (l : CurveLoad) : ResultCode :=
  if 17 < l.pointer + vs.length then .noSpace
  else if vs.all fun v => decide (clampInt (-1000) 1000 v = v) then .ok else .clamped

/-- A refused CURVE_DATA: nothing written (R32, R34). -/
def curveDataRefusal (c : ResultCode) (p : Payload) (s : State) : State × List Field :=
  match curveIdOf (u8At p 0) with
  | some id => (s, [rc c, .unsized .curveDataCount 0, .unsized .curveDataPointer (s.smx.load id).pointer])
  | none => (s.useFree 1, [rc c, .unsized .curveDataCount 0, .unsized .curveDataPointer (s.free 0)])

/-- SMX's part of a CURVE_DATA (R32, R34). -/
def curveDataOwner (p : Payload) (s : State) : State × List Field :=
  if storeRunning s then curveDataRefusal .busy p s
  else match curveIdOf (u8At p 0) with
    | none => curveDataRefusal .badValue p s
    | some id =>
      let l := s.smx.load id
      if l.state = .opened then
        let vs := i16List (p.drop 1)
        let l' := writeCurve vs l
        (s.withSmx (s.smx.setLoad id l'),
          [rc (curveDataCode vs l), .unsized .curveDataCount ((l'.pointer : Int) - l.pointer), .unsized .curveDataPointer l'.pointer])
      else curveDataRefusal .wrongState p s

/-- The lowest index whose entry is below the entry before it (R35). -/
def orderFault (t : CurveTable) : Option Nat :=
  ((List.range 16).find? fun i => decide (curveAt t (i + 1) < curveAt t i)).map (· + 1)

/-- The commit check: check code and index, (0, 0) when it passes (R35). -/
def commitCheck (t : CurveTable) : Nat × Nat :=
  if curveAt t 8 ≠ 0 then (1, 8)
  else match orderFault t with
    | some i => (2, i)
    | none => (0, 0)

/-- A CURVE_COMMIT at which no check is made: check code and index are free (R35; log 3). -/
def curveCommitRefusal (c : ResultCode) (s : State) : State × List Field :=
  (s.useFree 2, [rc c, .u8 (s.free 0), .u8 (s.free 1)])

/-- SMX's part of a CURVE_COMMIT (R32, R35). -/
def curveCommitOwner (p : Payload) (s : State) : State × List Field :=
  if storeRunning s then curveCommitRefusal .busy s
  else match curveIdOf (u8At p 0) with
    | none => curveCommitRefusal .badValue s
    | some id =>
      let l := s.smx.load id
      if l.state = .opened then
        let k := commitCheck l.shadow
        if k.1 = 0 then (s.withSmx (s.smx.setLoad id { l with state := .pending }), [rc .ok, .u8 0, .u8 0])
        else (s, [rc .badValue, .u8 k.1, .u8 k.2])
      else curveCommitRefusal .wrongState s

/-- Every load closed with its shadow equal to the active copy (R37). -/
def closeAllLoads (s : State) : State :=
  s.withSmx { s.smx with
    frontLoad := closedLoad s.cfg.smx.frontTable
    rearLoad := closedLoad s.cfg.smx.rearTable
    throttleLoad := closedLoad s.cfg.drc.throttleTable }

/-- A load after UNIT_RESET STEER: OPEN becomes CLOSED, the rest is kept (R38). -/
def resetLoad (l : CurveLoad) (active : CurveTable) : CurveLoad := if l.state = .opened then closedLoad active else l

/-- SMX's part of UNIT_RESET STEER (R38). -/
def smxUnitReset (s : State) : State :=
  let x := s.smx
  s.withSmx { x with
    frontBlend := stoppedBlend x.frontBlend
    rearBlend := stoppedBlend x.rearBlend
    frontLoad := resetLoad x.frontLoad s.cfg.smx.frontTable
    rearLoad := resetLoad x.rearLoad s.cfg.smx.rearTable
    throttleLoad := resetLoad x.throttleLoad s.cfg.drc.throttleTable }

/-! ## The commands -/

/-- STEER_MODE (R23). -/
def execSteerMode (p : Payload) (s : State) : Host.Outcome State Fault Refusal := .next (taking 0x08 p (steerModeOwner p) s)

/-- CURVE_BEGIN (R33). -/
def execCurveBegin (p : Payload) (s : State) : Host.Outcome State Fault Refusal := .next (taking 0x09 p (curveBeginOwner p) s)

/-- CURVE_DATA (R34). -/
def execCurveData (p : Payload) (s : State) : Host.Outcome State Fault Refusal := .next (taking 0x0A p (curveDataOwner p) s)

/-- CURVE_COMMIT (R35). -/
def execCurveCommit (p : Payload) (s : State) : Host.Outcome State Fault Refusal := .next (taking 0x0B p (curveCommitOwner p) s)

end Sys2Proof.Machine
end

