-- ==== Sys2Proof/Machine/Servo.lean ====
section
/-! DEFINITION. Chapter 3: servo channels, endpoints, slew, pulse emission and the gear shift. -/

namespace Sys2Proof.Machine

/-! ## Channels -/

/-- A servo channel's record. -/
def Spg.chan (g : Spg) : ServoCh → ServoChan
  | .fs => g.fs
  | .rs => g.rs
  | .sh => g.sh

/-- Replaces a servo channel's record. -/
def Spg.setChan (g : Spg) (ch : ServoCh) (c : ServoChan) : Spg :=
  match ch with
  | .fs => { g with fs := c }
  | .rs => { g with rs := c }
  | .sh => { g with sh := c }

/-- Replaces a servo channel's record in the state. -/
def setServo (ch : ServoCh) (c : ServoChan) (s : State) : State := s.withSpg (s.spg.setChan ch c)

/-- Replaces the shift record in the state. -/
def setShift (x : Shift) (s : State) : State := s.withSpg { s.spg with shift := x }

/-- The endpoints in force of a channel (R41). -/
def SpgCfg.ends (c : SpgCfg) : ServoCh → Endpoints
  | .fs => c.fsEnds
  | .rs => c.rsEnds
  | .sh => c.shEnds

/-- Replaces the endpoints in force of a channel. -/
def SpgCfg.setEnds (c : SpgCfg) (ch : ServoCh) (e : Endpoints) : SpgCfg :=
  match ch with
  | .fs => { c with fsEnds := e }
  | .rs => { c with rsEnds := e }
  | .sh => { c with shEnds := e }

/-- The frame period parameter of a channel (R40). -/
def SpgCfg.period (c : SpgCfg) : ServoCh → Nat
  | .fs => c.fsPeriod
  | .rs => c.rsPeriod
  | .sh => c.shPeriod

/-- The slew parameter of a channel (R44). -/
def SpgCfg.slew (c : SpgCfg) : ServoCh → Nat
  | .fs => c.fsSlew
  | .rs => c.rsSlew
  | .sh => c.shSlew

/-- The steering servo channel of an axle. -/
def axleServo : Axle → ServoCh
  | .front => .fs
  | .rear => .rs

/-! ## Endpoints -/

/-- The lower bound of a channel's range (R42). -/
def Endpoints.lo (e : Endpoints) : Int := min e.left e.right

/-- The upper bound of a channel's range (R42). -/
def Endpoints.hi (e : Endpoints) : Int := max e.left e.right

/-- The period parameter comes into force for the frame that begins (R40). -/
def latchPeriod (ch : ServoCh) (s : State) : State :=
  setServo ch { s.spg.chan ch with periodMs := s.cfg.spg.period ch } s

/-- Step 1 of a frame start: an accepted set comes into force and p_out is clamped into the new range (R39, R42). -/
def endpointChangeover (ch : ServoCh) (s : State) : State :=
  let c := s.spg.chan ch
  match c.waiting with
  | none => s
  | some e =>
    setServo ch { c with waiting := none, pOut := clampInt e.lo e.hi c.pOut }
      (s.withCfg { s.cfg with spg := s.cfg.spg.setEnds ch e })

/-- The set that a SERVO_ENDS asks for, clamped; the centre of SH is not used (R41, R56). -/
def askedEnds (ch : ServoCh) (p : Payload) : Endpoints :=
  let cl := fun i => clampInt 4000 20000 (u16At p i)
  { left := cl 1, center := if ch = .sh then 0 else cl 3, right := cl 5 }

/-- A used value of a SERVO_ENDS was outside 4000..20000 (R41). -/
def endsClamped (ch : ServoCh) (p : Payload) : Bool :=
  let out := fun i => decide (clampInt 4000 20000 (u16At p i) ≠ (u16At p i : Int))
  out 1 || out 5 || (decide (ch ≠ .sh) && out 3)

/-- The order check (R41). -/
def endsOrdered (ch : ServoCh) (e : Endpoints) : Bool :=
  match ch with
  | .sh => decide (e.left ≠ e.right)
  | .fs | .rs => decide ((e.left < e.center ∧ e.center < e.right) ∨ (e.right < e.center ∧ e.center < e.left))

/-- The fit check: at most frame period − 500 µs, in eighths (R41). -/
def endsFit (periodMs : Nat) (e : Endpoints) : Bool := decide (e.hi ≤ ((periodMs : Int) * 1000 - 500) * 8)

/-- The set last accepted on a channel: the waiting one, or the one in force (R56). -/
def lastEnds (ch : ServoCh) (s : State) : Endpoints := (s.spg.chan ch).waiting.getD (s.cfg.spg.ends ch)

/-- The fields of a SERVO_ENDS reply on a channel (R41). DESIGN CHOICE (log 34): where a refused request finds a set that waits, "the
values as kept" are those of the waiting set, the one last accepted. -/
def servoEndsReply (c : ResultCode) (ch : ServoCh) (s : State) : List Field :=
  let e := lastEnds ch s
  [rc c, .u8 (servoCode ch), .u16 e.left.toNat, .u16 e.center.toNat, .u16 e.right.toNat]

/-- A SERVO_ENDS that names no channel: the three values are free (R41; log 3). -/
def servoEndsNoChannel (c : ResultCode) (p : Payload) (s : State) : State × List Field :=
  (s.useFree 3, [rc c, .u8 (u8At p 0), .u16 (s.free 0), .u16 (s.free 1), .u16 (s.free 2)])

/-- SPG's part of a SERVO_ENDS (R41). -/
def servoEndsOwner (p : Payload) (s : State) : State × List Field :=
  match servoChOf (u8At p 0) with
  | none => servoEndsNoChannel (if storeRunning s then .busy else .badValue) p s
  | some ch =>
    if storeRunning s then (s, servoEndsReply .busy ch s)
    else
      let c := s.spg.chan ch
      let e := askedEnds ch p
      if endsOrdered ch e && endsFit c.periodMs e then
        let s' := setServo ch { c with waiting := some e } s
        (s', servoEndsReply (if endsClamped ch p then .clamped else .ok) ch s')
      else (s, servoEndsReply .badValue ch s)

/-! ## Target, slew, emission -/

/-- The target pulse of an angle (R43). -/
def anglePulse (e : Endpoints) (a : Int) : Int :=
  if 0 ≤ a then e.center + Int.tdiv ((e.right - e.center) * a) 1000
  else e.center + Int.tdiv ((e.center - e.left) * a) 1000

/-- The gear to be held: the gear in IDLE and EASING, the pending gear in MOVING and SETTLING (R48). -/
def Shift.held (x : Shift) : Gear :=
  match x.phase with
  | .idle | .easing => x.gear
  | .moving | .settling => x.pending.getD x.gear

/-- The target pulse of a channel (R43, R48). -/
def targetPulse (ch : ServoCh) (s : State) : Int :=
  match ch with
  | .fs => anglePulse s.cfg.spg.fsEnds s.smx.frontAngle
  | .rs => anglePulse s.cfg.spg.rsEnds s.smx.rearAngle
  | .sh => gearEndpoint s.cfg.spg.shEnds s.spg.shift.held

/-- The effective slew of a slew parameter under a servo factor (R44). -/
def effectiveSlew (slew factor : Nat) : Nat := max 1 ((if slew = 0 then 16000 else slew) * factor / 1024)

/-- p_out moved toward the target by at most the effective slew (R45). -/
def slewToward (x target step : Int) : Int :=
  if target - x ≤ step ∧ x - target ≤ step then target
  else if x < target then x + step else x - step

/-- Step 3 of a frame start: in RUN and FAILSAFE p_out is slewed toward the target (R39, R45). -/
def slewStep (ch : ServoCh) (s : State) : State :=
  match s.csc.chassis with
  | .run | .failsafe =>
    let c := s.spg.chan ch
    let e := effectiveSlew (s.cfg.spg.slew ch) s.pba.pub.servoFactor
    setServo ch { c with pOut := slewToward c.pOut (targetPulse ch s) e, effSlew := e } s
  | .standby | .hold | .cutoff => s

/-- The emitted width and the accumulator after it (R46). -/
def emission (pOut acc : Int) : Int × Int :=
  let i := Int.tdiv pOut 8
  let sum := acc + (pOut - 8 * i)
  if 8 ≤ sum then (i + 1, sum - 8) else (i, sum)

/-- Step 5 of a frame start: a pulse in RUN, HOLD and FAILSAFE, an inactive line otherwise (R39, R46, R47). -/
def emitPulse (ch : ServoCh) (s : State) : State :=
  let c := s.spg.chan ch
  match s.csc.chassis with
  | .run | .hold | .failsafe =>
    let w := emission c.pOut c.acc
    setServo ch { c with acc := w.2, lastWidth := w.1, lineWidth := w.1 } s
  | .standby | .cutoff => setServo ch { c with lineWidth := 0 } s

/-! ## The shift -/

/-- The SHIFT_END report (R55). -/
def shiftEndReport (r : ShiftResult) (gear : Gear) (pending : Option Gear) : TxFrame :=
  { type := 0xE2, fields := [.u8 r.code, .u8 gear.code, .u8 (pendingGearCode pending)] }

/-- Ends the shift: phase IDLE, pending none, both elapsed times 0, the ease released; SHIFT_END is posted (R50, R51, R54, R55). -/
def endShift (r : ShiftResult) (gear : Gear) (s : State) : State :=
  let x := s.spg.shift
  postReport (shiftEndReport r gear x.pending)
    (setShift { x with gear := gear, pending := none, phase := .idle, waitMs := 0, settleMs := 0 } s)

/-- The shift completes: the gear becomes the pending gear (R51). -/
def completeShift (s : State) : State := endShift .done (s.spg.shift.pending.getD s.spg.shift.gear) s

/-- The shift is abandoned: the gear is unchanged (R50, R53). -/
def abandonShift (s : State) : State := endShift .abandoned s.spg.shift.gear s

/-- Both drive outputs are within the latched threshold (R50). -/
def outputsEased (s : State) : Bool :=
  decide (s.drc.df.output.natAbs ≤ s.spg.shift.latched) && decide (s.drc.dr.output.natAbs ≤ s.spg.shift.latched)

/-- Time spent in EASING after one more SH frame, held at its stated maximum (R48, R50). -/
def nextWait (s : State) : Nat := min (s.spg.shift.waitMs + s.spg.sh.periodMs) 5020

/-- Time spent in SETTLING after one more SH frame, held at its stated maximum (R48, R51). -/
def nextSettle (s : State) : Nat := min (s.spg.shift.settleMs + s.spg.sh.periodMs) 1020

/-- Step 2 of an SH frame start: the shift record's step for the phase it is in (R39, R50, R51, R53). -/
def shiftStep (s : State) : State :=
  let x := s.spg.shift
  match s.csc.chassis, x.phase with
  | .run, .easing =>
    if outputsEased s then setShift { x with phase := .moving } s
    else
      let s' := setShift { x with waitMs := nextWait s } s
      if s.cfg.spg.shiftWait ≤ nextWait s then abandonShift s' else s'
  | .run, .settling | .failsafe, .settling =>
    let s' := setShift { x with settleMs := nextSettle s } s
    if s.cfg.spg.shiftSettle ≤ nextSettle s then completeShift s' else s'
  | _, _ => s

/-- Step 4 of an SH frame start: a MOVING shift whose p_out equals its target enters SETTLING, and completes there with a settle
time of 0 (R39, R51). -/
def settleEntry (s : State) : State :=
  let x := s.spg.shift
  match s.csc.chassis, x.phase with
  | .run, .moving | .failsafe, .moving =>
    if s.spg.sh.pOut = targetPulse .sh s then
      let s' := setShift { x with phase := .settling, settleMs := 0 } s
      if s.cfg.spg.shiftSettle = 0 then completeShift s' else s'
    else s
  | _, _ => s

/-- On entry into FAILSAFE a shift in EASING is abandoned (R53). -/
def shiftFailsafe (s : State) : State := if s.spg.shift.phase = .easing then abandonShift s else s

/-- On entry into CUTOFF and at UNIT_RESET STEER the shift record is brought to IDLE (R54). -/
def shiftToIdle (s : State) : State :=
  match s.spg.shift.phase with
  | .idle => setShift { s.spg.shift with pending := none, waitMs := 0, settleMs := 0 } s
  | .easing => abandonShift s
  | .moving | .settling => endShift .interrupted (s.spg.shift.pending.getD s.spg.shift.gear) s

/-- The fields of a GEAR reply (R49). -/
def gearReply (c : ResultCode) (s : State) : List Field :=
  let x := s.spg.shift
  [rc c, .u8 x.gear.code, .u8 (pendingGearCode x.pending), .u8 x.phase.code, .u16 x.latched]

/-- A GEAR request in RUN or HOLD, by the shift record (R49). -/
def gearInRecord (g : Gear) (s : State) : State × ResultCode :=
  let x := s.spg.shift
  match x.phase with
  | .idle =>
    if g = x.gear then (s, .ok)
    else
      (setShift { x with phase := .easing, pending := some g, latched := s.cfg.spg.shiftThreshold, waitMs := 0, settleMs := 0 } s,
        .ok)
  | .easing => if some g = x.pending then (s, .ok) else (endShift .cancelled x.gear s, .ok)
  | .moving | .settling => if some g = x.pending then (s, .ok) else (s, .busy)

/-- SPG's part of a GEAR (R49). DESIGN CHOICE (log 35): a value above 1 is judged before the chassis state. -/
def gearOwner (p : Payload) (s : State) : State × List Field :=
  match gearOf (u8At p 0) with
  | none => (s, gearReply .badValue s)
  | some g =>
    match s.csc.chassis with
    | .run | .hold =>
      let r := gearInRecord g s
      (r.1, gearReply r.2 r.1)
    | .standby | .failsafe | .cutoff => (s, gearReply .wrongState s)

/-! ## Queries, restore, reset -/

/-- The fields that a GET_SERVO reply adds for its channel (R56). DEDUCED (log 5): the latched threshold is a u16, as R49 gives it in a
GEAR reply. -/
def servoExtra (ch : ServoCh) (s : State) : List Field :=
  match ch with
  | .fs => [.unsized .servoAngle s.smx.frontAngle]
  | .rs => [.unsized .servoAngle s.smx.rearAngle]
  | .sh =>
    let x := s.spg.shift
    [.u8 x.gear.code, .u8 (pendingGearCode x.pending), .u8 x.phase.code, .u16 x.latched, .unsized .shiftWait x.waitMs,
      .unsized .shiftSettle x.settleMs]

/-- SPG's part of a GET_SERVO (R56). -/
def getServoOwner (p : Payload) (s : State) : State × List Field :=
  match servoChOf (u8At p 0) with
  | none => (s, [rc .badValue])
  | some ch =>
    let c := s.spg.chan ch
    let e := lastEnds ch s
    (s, [rc .ok, .unsized .servoPeriod c.periodMs, .unsized .servoLeft e.left, .unsized .servoCenter e.center,
        .unsized .servoRight e.right, flag c.waiting.isSome, .unsized .servoSlew (s.cfg.spg.slew ch),
        .unsized .servoEffSlew c.effSlew, .unsized .servoPulse c.pOut, .unsized .servoAcc c.acc,
        .unsized .servoWidth c.lastWidth] ++
      servoExtra ch s)

/-- A restored endpoint set waits on every channel as an accepted set (R58). -/
def acceptRestoredEnds (new : SpgCfg) (s : State) : State :=
  let g := s.spg
  s.withSpg { g with
    fs := { g.fs with waiting := some new.fsEnds }
    rs := { g.rs with waiting := some new.rsEnds }
    sh := { g.sh with waiting := some new.shEnds } }

/-- SPG's part of UNIT_RESET STEER (R54, R59). -/
def spgUnitReset (s : State) : State :=
  let s' := shiftToIdle s
  let g := s'.spg
  s'.withSpg { g with fs := { g.fs with acc := 0 }, rs := { g.rs with acc := 0 }, sh := { g.sh with acc := 0 } }

/-! ## The commands -/

/-- Step 2 of a frame start, by channel (R39). -/
def channelWork (ch : ServoCh) (s : State) : State :=
  match ch with
  | .fs => smxFrame .front s.spg.fs.periodMs s
  | .rs => smxFrame .rear s.spg.rs.periodMs s
  | .sh => shiftStep s

/-- The frame start of a channel, in the order of R39. -/
def frameStart (ch : ServoCh) (s : State) : State :=
  let s2 := channelWork ch (endpointChangeover ch (latchPeriod ch s))
  let s3 := slewStep ch s2
  let s4 := if ch = .sh then settleEntry s3 else s3
  emitPulse ch s4

/-- The blend of an axle ends at the frame start now beginning (R24). -/
def blendEndDue (axle : Axle) (s : State) : Bool :=
  decide (s.csc.chassis = .run) && (s.smx.blend axle).active &&
    decide (nextWeight axle (s.cfg.spg.period (axleServo axle)) s = 256)

/-- The wait time is reached at the SH frame start now beginning (R50). -/
def shiftWaitDue (s : State) : Bool :=
  decide (s.csc.chassis = .run) && decide (s.spg.shift.phase = .easing) && !outputsEased s &&
    decide (s.cfg.spg.shiftWait ≤ nextWait (latchPeriod .sh s))

/-- The shift completes at the SH frame start now beginning (R51). -/
def shiftSettleDue (s : State) : Bool :=
  decide (s.spg.shift.phase ≠ .idle) && !shiftWaitDue s && decide ((frameStart .sh s).spg.shift.phase = .idle)

/-- SERVO_FRAME_START (R39). -/
def execServoFrameStart (ch : ServoCh) (s : State) : Host.Outcome State Fault Refusal := .next (whenRunning (frameStart ch) s)

/-- BLEND_END: the frame start at which the axle's blend ends (R24; log 8). -/
def execBlendEnd (axle : Axle) (s : State) : Host.Outcome State Fault Refusal :=
  .next (whenDue (blendEndDue axle) (frameStart (axleServo axle)) s)

/-- SHIFT_WAIT_EXPIRY: the SH frame start at which the shift is abandoned (R50; log 8). -/
def execShiftWaitExpiry (s : State) : Host.Outcome State Fault Refusal := .next (whenDue shiftWaitDue (frameStart .sh) s)

/-- SHIFT_SETTLE_EXPIRY: the SH frame start at which the shift completes (R51; log 8). -/
def execShiftSettleExpiry (s : State) : Host.Outcome State Fault Refusal := .next (whenDue shiftSettleDue (frameStart .sh) s)

/-- SERVO_ENDS (R41). -/
def execServoEnds (p : Payload) (s : State) : Host.Outcome State Fault Refusal := .next (taking 0x10 p (servoEndsOwner p) s)

/-- GEAR (R49). -/
def execGear (p : Payload) (s : State) : Host.Outcome State Fault Refusal := .next (taking 0x11 p (gearOwner p) s)

/-- GET_SERVO (R56). -/
def execGetServo (p : Payload) (s : State) : Host.Outcome State Fault Refusal := .next (taking 0x12 p (getServoOwner p) s)

end Sys2Proof.Machine
end

