-- ==== Sys2Proof/Machine/Drive.lean ====
section
/-! DEFINITION. Chapter 4: the drive channels. -/

namespace Sys2Proof.Machine

/-! ## Channels -/

/-- A drive channel's record. -/
def Drc.chan (d : Drc) : DriveCh → DriveChan
  | .df => d.df
  | .dr => d.dr

/-- Replaces a drive channel's record. -/
def Drc.setChan (d : Drc) (ch : DriveCh) (c : DriveChan) : Drc :=
  match ch with
  | .df => { d with df := c }
  | .dr => { d with dr := c }

/-- Replaces a drive channel's record in the state. -/
def setDrive (ch : DriveCh) (c : DriveChan) (s : State) : State := s.withDrc (s.drc.setChan ch c)

/-- The gain of a channel (R64). -/
def DrcCfg.gain (c : DrcCfg) : DriveCh → Nat
  | .df => c.gainF
  | .dr => c.gainR

/-- The budget grant of a channel (R61). -/
def driveGrant (ch : DriveCh) (s : State) : Nat :=
  match ch with
  | .df => s.pba.pub.grant.driveF
  | .dr => s.pba.pub.grant.driveR

/-- The axle of a channel is locked by a dig mode (R66). -/
def digLocks (m : DigMode) (ch : DriveCh) : Bool :=
  match m, ch with
  | .lockRear, .dr => true
  | .lockFront, .df => true
  | _, _ => false

/-- A channel at rest with a brake strength. -/
def DriveChan.atRest (c : DriveChan) (brake : Nat) : DriveChan := { c with target := 0, output := 0, brake := brake }

/-! ## From throttle to target -/

/-- The throttle of the setpoint record, 0 while it is not valid (R62). -/
def throttleValue (sp : Setpoint) : Int := if sp.valid then sp.throttle else 0

/-- The neutral band applied to the curved throttle (R63). -/
def rescale (band : Nat) (tc : Int) : Int :=
  if tc.natAbs ≤ band then 0
  else tc.sign * Int.tdiv (((tc.natAbs : Int) - band) * 1000) (1000 - band)

/-- The rescaled throttle t' (R62, R63). -/
def shapedThrottle (s : State) : Int :=
  rescale s.cfg.drc.neutral (interpolate s.cfg.drc.throttleTable (throttleValue s.csc.setpoint))

/-- The throttle target of a channel (R64). -/
def throttleTarget (ch : DriveCh) (s : State) : Int :=
  clampInt (-1000) 1000 (Int.tdiv (shapedThrottle s * s.cfg.drc.gain ch) 1000)

/-- Winch assist applies at an update in RUN (R65). -/
def assistApplies (s : State) : Bool :=
  s.cfg.drc.assistOn && decide (shapedThrottle s = 0) &&
    (decide (s.wnc.state = .spoolIn) || (decide (s.wnc.state = .pull) && decide (s.wnc.dir = .inward)))

/-- The assist target from the inward line speed (R65). -/
def assistTarget (s : State) : Int :=
  let vIn : Int := if s.wnc.lineSpeed < 0 then -s.wnc.lineSpeed else 0
  min (s.cfg.drc.assistCap : Int) (Int.tdiv (vIn * s.cfg.drc.assistGain) 10)

/-- Step 3 of R61 in RUN: the target before dig and ease. -/
def runTarget (ch : DriveCh) (s : State) : Int := if assistApplies s then assistTarget s else throttleTarget ch s

/-- Step 5 of R61: the target capped while the shift asks for the ease (R52, R67). -/
def easeTarget (x : Shift) (target : Int) : Int :=
  if x.phase = .idle then target else clampInt (-x.latched) x.latched target

/-! ## Slew, cap, brake -/

/-- Step 6 of R61: the output moved toward the target (R68). -/
def slewOutput (up down : Nat) (output target : Int) : Int :=
  if output = 0 then
    if 0 ≤ target then min target up else max target (-(up : Int))
  else if 0 < output then
    if target < 0 then (if output ≤ down then 0 else output - down)
    else if output < target then min target (output + up)
    else max target (output - down)
  else
    if 0 < target then (if -output ≤ down then 0 else output + down)
    else if target < output then max target (output - up)
    else min target (output + down)

/-- Step 7 of R61: the output's magnitude limited to the cap (R70). -/
def capOutput (cap : Nat) (output : Int) : Int := clampInt (-cap) cap output

/-- Step 8 of R61: the rest brake when target and output are both 0, otherwise none (R69). -/
def restBrake (strength : Nat) (target output : Int) : Nat := if target = 0 ∧ output = 0 then strength else 0

/-- Steps 4 to 8 of R61 for a target formed at step 3; `strength` is the brake at rest (R66 to R69). -/
def driveToward (target : Int) (strength : Nat) (locked : Bool) (s : State) (c : DriveChan) : DriveChan :=
  if locked then c.atRest 1000
  else
    let t := easeTarget s.spg.shift target
    let o := capOutput c.cap (slewOutput s.cfg.drc.aUp s.cfg.drc.aDown c.output t)
    { c with target := t, output := o, brake := restBrake strength t o }

/-! ## Foldback and trips -/

/-- A foldback cap after one update (R70, R103). -/
def foldCap (cap current grant : Nat) : Nat :=
  if grant < current then cap - 20
  else if current ≤ grant * 15 / 16 then min (cap + 2) 1000
  else cap

/-- A time on a wrapping clock has come (R60). -/
def clockReached (clock t : Clock) : Bool := decide ((clock - t).toNat < 2147483648)

/-- The retry time of a TRIPPED channel has come (R72). -/
def retryDue (clock : Clock) (c : DriveChan) : Bool :=
  decide (c.fault = .tripped) && (match c.retry with | some t => clockReached clock t | none => false)

/-- A trip history with a new trip, at most three entries (R71). -/
def pushTrip (h : List Clock) (t : Clock) : List Clock :=
  if 3 ≤ h.length then h.tail ++ [t] else h ++ [t]

/-- The history holds three entries whose span is at most 5000 ms (R71, R73). -/
def tripsClose (h : List Clock) : Bool :=
  decide (h.length = 3) && decide ((h.getLastD 0 - h.headD 0).toNat ≤ 5000)

/-- The record after a trip: latched with three close trips, tripped otherwise (R71, R73). -/
def trippedChan (clock : Clock) (c : DriveChan) : DriveChan :=
  let h := pushTrip c.history clock
  { c with
    target := 0, output := 0, brake := 0, history := h, tripCount := countUp 255 c.tripCount
    fault := if tripsClose h then .latched else .tripped
    retry := if tripsClose h then none else some (clock + 500) }

/-- The DRIVE_FAULT report (R73). -/
def driveFaultReport (ch : DriveCh) (h : List Clock) (current : Nat) : TxFrame :=
  { type := 0xE4, fields := .u8 (driveCode ch) :: h.map (fun t => .u32 t.toNat) ++ [.u16 current] }

/-- The record after the retry part of the fault step (R72). -/
def retriedChan (clock : Clock) (c : DriveChan) : DriveChan :=
  if retryDue clock c then { c with fault := .normal, retry := none } else c

/-- Step 1 of R61: retry, then the trip check of a NORMAL channel (R71 to R73). -/
def faultStep (ch : DriveCh) (current : Nat) (s : State) : State :=
  let c := retriedChan s.drc.clock (s.drc.chan ch)
  if c.fault = .normal ∧ s.cfg.drc.tripLevel < current then
    let c' := trippedChan s.drc.clock c
    let s' := setDrive ch c' s
    if c'.fault = .latched then postReport (driveFaultReport ch c'.history current) s' else s'
  else setDrive ch c s

/-! ## The update -/

/-- The requested dig mode comes into force (R66). -/
def digIntoForce (s : State) : State := s.withDrc { s.drc with digInForce := s.drc.digRequested }

/-- Step 2 of R61: the cap against the grant (R70). -/
def driveFoldback (ch : DriveCh) (current : Nat) (s : State) : State :=
  let c := s.drc.chan ch
  setDrive ch { c with cap := foldCap c.cap current (driveGrant ch s) } s

/-- The failsafe brake strength (R77). -/
def failsafeStrength (c : DrcCfg) : Nat := if c.failsafeBrake then 1000 else 0

/-- Steps 3 to 8 of R61 by the chassis state; a TRIPPED or LATCHED channel coasts (R61, R75 to R77). DEDUCED (log 36): at the update of
such a channel assist does not apply, since step 3 is not taken, and its record is false. -/
def driveMove (ch : DriveCh) (s : State) : DriveChan :=
  let c := { s.drc.chan ch with assist := false }
  if c.fault ≠ .normal then c.atRest 0
  else match s.csc.chassis with
    | .standby | .cutoff => c.atRest 0
    | .hold => c.atRest 1000
    | .run => driveToward (runTarget ch s) s.cfg.drc.drag (digLocks s.drc.digInForce ch) s { c with assist := assistApplies s }
    | .failsafe => driveToward 0 (failsafeStrength s.cfg.drc) (digLocks s.drc.digInForce ch) s c

/-- The target and the output that an update leaves stand for the flags of R79 until the next update. -/
def DriveChan.leaveUpdate (c : DriveChan) : DriveChan := { c with lastTarget := c.target, lastOutput := c.output }

/-- The drive update of a channel in the order of R61; `current` is the sensed current, saturating at 65000. -/
def driveUpdate (ch : DriveCh) (current : Nat) (s : State) : State :=
  let i := min current 65000
  let s1 := digIntoForce (curveChangeover .throttle s)
  let s2 := driveFoldback ch i (faultStep ch i s1)
  setDrive ch (driveMove ch s2).leaveUpdate s2

/-! ## Transitions and requests -/

/-- Both channels replaced by a function of each. -/
def mapDrive (f : DriveCh → DriveChan → DriveChan) (s : State) : State :=
  s.withDrc { s.drc with df := f .df s.drc.df, dr := f .dr s.drc.dr }

/-- On entering CUTOFF both channels are set to 0 at once (R75). -/
def driveCutoff (s : State) : State := mapDrive (fun _ c => c.atRest 0) s

/-- On entering HOLD both channels are stopped and braked at once; a TRIPPED or LATCHED channel coasts (R76, R78; log 9). -/
def driveHold (s : State) : State := mapDrive (fun _ c => c.atRest (if c.fault = .normal then 1000 else 0)) s

/-- The fields of a DIG reply (R66). -/
def digReply (c : ResultCode) (s : State) : List Field := [rc c, .u8 s.drc.digRequested.code]

/-- DRC's part of a DIG (R66). -/
def digOwner (p : Payload) (s : State) : State × List Field :=
  match digModeOf (u8At p 0) with
  | none => (s, digReply .badValue s)
  | some m =>
    let s' := s.withDrc { s.drc with digRequested := m }
    (s', digReply .ok s')

/-- DRC's part of a FAULT_CLEAR (R74). DESIGN CHOICE (log 41): R74 gives the channel and its fault state to the OK reply alone, so a
BAD_VALUE reply carries the result code alone. -/
def faultClearOwner (p : Payload) (s : State) : State × List Field :=
  match driveChOf (u8At p 0) with
  | none => (s, [rc .badValue])
  | some ch =>
    let c := s.drc.chan ch
    let s' := if c.fault = .latched then setDrive ch { c with fault := .normal, history := [] } s else s
    (s', [rc .ok, .u8 (driveCode ch), .u8 (s'.drc.chan ch).fault.code])

/-- A channel's record after UNIT_RESET DRIVE (R82). What its last update left for the flags of R79 is not in R82's table and stands
until the next update (log 33). -/
def driveChanReset (s : State) (ch : DriveCh) (c : DriveChan) : DriveChan :=
  let brake : Nat := match s.csc.chassis with
    | .hold => 1000
    | .run | .failsafe => if digLocks s.drc.digInForce ch then 1000 else 0
    | .standby | .cutoff => 0
  { powerOnDriveChan with brake := brake, lastTarget := c.lastTarget, lastOutput := c.lastOutput }

/-- DRC's part of UNIT_RESET DRIVE (R82). -/
def driveUnitReset (s : State) : State := mapDrive (driveChanReset s) s

/-- The assist-active flag (R65). -/
def assistActive (s : State) : Bool := s.drc.df.assist || s.drc.dr.assist

/-! ## The commands -/

/-- DRIVE_UPDATE (R61). -/
def execDriveUpdate (ch : DriveCh) (current : Nat) (s : State) : Host.Outcome State Fault Refusal :=
  .next (whenRunning (driveUpdate ch current) s)

/-- DRIVE_RETRY: the update at which a TRIPPED channel's retry time has come (R72; log 8). -/
def execDriveRetry (ch : DriveCh) (current : Nat) (s : State) : Host.Outcome State Fault Refusal :=
  .next (whenDue (fun s => retryDue s.drc.clock (s.drc.chan ch)) (driveUpdate ch current) s)

/-- DIG (R66). -/
def execDig (p : Payload) (s : State) : Host.Outcome State Fault Refusal := .next (taking 0x18 p (digOwner p) s)

/-- FAULT_CLEAR (R74). -/
def execFaultClear (p : Payload) (s : State) : Host.Outcome State Fault Refusal := .next (taking 0x19 p (faultClearOwner p) s)

end Sys2Proof.Machine
end

