-- ==== Sys2Proof/Machine/Winch.lean ====
section
/-! DEFINITION. Chapter 5: the winch. -/

namespace Sys2Proof.Machine

/-! ## The record -/

/-- The state is one of the driving states (R84). -/
def WinchState.driving : WinchState → Bool
  | .spoolIn | .spoolOut | .pull => true
  | .braked | .free | .suspended | .stalled => false

/-- The driving state an operation kind runs in (R91). -/
def WinchOp.driveState : WinchOp → WinchState
  | .spoolIn => .spoolIn
  | .spoolOut => .spoolOut
  | .pull => .pull

/-- Operation kind codes: the code of the state it runs in (R91; log 5). -/
def winchOpCode : Option WinchOp → Nat
  | none => 0
  | some k => k.driveState.code

/-- An operation exists: the state is driving or SUSPENDED (R91). -/
def Wnc.hasOp (w : Wnc) : Bool := w.state.driving || decide (w.state = .suspended)

/-- The suspend reason set is empty. -/
def Reasons.isEmpty (r : Reasons) : Bool := !r.host && !r.hold && !r.budget

/-- Counts to mm, truncating toward zero (R88). -/
def countsToMm (um : Nat) (c : Int) : Int := Int.tdiv (c * um) 1000

/-- Millimetres to counts, truncating toward zero (R88). -/
def mmToCounts (um : Nat) (mm : Int) : Int := Int.tdiv (mm * 1000) um

/-- The line position in mm (R88). -/
def positionMm (s : State) : Int := countsToMm s.cfg.wnc.umPerCount s.wnc.position

/-- The state code as reported: OFF for BRAKED in CUTOFF (R91, R107). -/
def winchCode (s : State) : Nat :=
  if s.wnc.state = .braked ∧ s.csc.chassis = .cutoff then 7 else s.wnc.state.code

/-- The beyond-limit flag (R90). -/
def beyondLimit (s : State) : Bool :=
  s.wnc.valid && (decide (s.cfg.wnc.outer < s.wnc.position) || decide (s.wnc.position < s.cfg.wnc.inner))

/-- A reason set as three u8 flags (R108). -/
def reasonFields (r : Reasons) : List Field := [flag r.host, flag r.hold, flag r.budget]

/-! ## Ending and suspending an operation -/

/-- The WINCH_END report (R108). -/
def winchEndReport (r : WinchResult) (s : State) : TxFrame :=
  { type := 0xE3
    fields := [.u8 r.code, .i32 (positionMm s), flag s.wnc.valid] ++
      reasonFields (if s.wnc.state = .suspended then s.wnc.reasons else noReasons) }

/-- The winch at rest in a state without an operation: duty 0, no reasons, detector disarmed (R91, R97, R104). -/
def Wnc.rest (w : Wnc) (st : WinchState) : Wnc :=
  { w with state := st, duty := 0, op := none, reasons := noReasons, stall := none }

/-- An operation ends with a result: WINCH_END is posted and the winch rests in the state given (R91, R108). -/
def endOp (r : WinchResult) (st : WinchState) (s : State) : State :=
  postReport (winchEndReport r s) (s.withWnc { s.wnc.rest st with last := r })

/-- Ends the operation if there is one; a FREE or STALLED winch becomes BRAKED without a report (R106, R107, R112). -/
def endAnyOp (r : WinchResult) (s : State) : State :=
  if s.wnc.hasOp then endOp r .braked s else s.withWnc (s.wnc.rest .braked)

/-- A driving operation is suspended with the reasons given (R97). -/
def suspendOp (r : Reasons) (w : Wnc) : Wnc := { w with state := .suspended, duty := 0, stall := none, reasons := r }

/-! ## Limits and completion -/

/-- A pull's position has reached its target or passed it in its direction (R96). -/
def pullReached (w : Wnc) : Bool :=
  match w.dir with
  | .inward => decide (w.position ≤ w.target)
  | .outward => decide (w.target ≤ w.position)

/-- The stop a direction runs into is reached (R89). -/
def atStop (cfg : WncCfg) (d : WinchDir) (pos : Int) : Bool :=
  match d with
  | .inward => decide (pos ≤ cfg.inner)
  | .outward => decide (cfg.outer ≤ pos)

/-- The direction a duty drives, none for 0 (R83). -/
def dutyDir (duty : Int) : Option WinchDir :=
  if duty < 0 then some .inward else if 0 < duty then some .outward else none

/-- The limit check (R89). -/
def limitCheck (s : State) : State :=
  let w := s.wnc
  if w.valid && w.state.driving then
    match dutyDir w.duty with
    | some d =>
      if atStop s.cfg.wnc d w.position then
        if w.dir = d then endOp .limit .braked s else s.withWnc { w with duty := 0 }
      else s
    | none => if atStop s.cfg.wnc w.dir w.position then endOp .limit .braked s else s
  else s

/-- An operation whose last reason has gone is restored, then the completion check and the limit check are made (R98). -/
def restoreOp (s : State) : State :=
  let w := s.wnc
  match w.op with
  | none => s
  | some k =>
    let s' := s.withWnc { w with state := k.driveState, duty := 0, stall := none }
    if k = .pull && pullReached w then endOp .reached .braked s' else limitCheck s'

/-- A reason set is replaced on a SUSPENDED winch; an empty one restores the operation (R97, R98). -/
def dropReason (r : Reasons) (s : State) : State :=
  let s' := s.withWnc { s.wnc with reasons := r }
  if s.wnc.state = .suspended && r.isEmpty then restoreOp s' else s'

/-- HOLD joins the reasons at the transition from RUN to HOLD (R101). -/
def winchHold (s : State) : State :=
  let w := s.wnc
  if w.state.driving then s.withWnc (suspendOp { noReasons with hold := true } w)
  else if w.state = .suspended then s.withWnc { w with reasons := { w.reasons with hold := true } }
  else s

/-- HOLD leaves the reasons at the transition from HOLD to RUN (R101). -/
def winchUnhold (s : State) : State :=
  if s.wnc.state = .suspended then dropReason { s.wnc.reasons with hold := false } s else s

/-! ## Commands on the operation -/

/-- A taken WINCH_RUN or WINCH_PULL replaces the operation: a PULL or SUSPENDED one ends CANCELLED, a spool ends silently; the
reasons are emptied and the detector disarmed (R93). -/
def replaceOp (s : State) : State :=
  if s.wnc.state = .pull ∨ s.wnc.state = .suspended then endOp .cancelled .braked s
  else s.withWnc { s.wnc with reasons := noReasons, stall := none }

/-- A new operation runs, or starts SUSPENDED with HOLD in HOLD (R93, R94). The duty goes on from that of a replaced spool. -/
def startOp (k : WinchOp) (d : WinchDir) (speed : Nat) (target : Int) (s : State) : State :=
  let w := { s.wnc with op := some k, dir := d, speed := speed, target := target, reasons := noReasons, stall := none }
  if s.csc.chassis = .hold then s.withWnc (suspendOp { noReasons with hold := true } w)
  else s.withWnc { w with state := k.driveState }

/-- The modes of a WINCH_RUN (R92). -/
def runModeAllowed (mode : Nat) : Chassis → Bool
  | .run | .hold => true
  | .standby => decide (2 ≤ mode)
  | .failsafe => decide (mode = 2)
  | .cutoff => false

/-- The speed that a spool takes (R92). -/
def spoolSpeed (valid : Bool) (asked : Nat) : Nat :=
  let v := max 1 (min asked 1000)
  if valid then v else min v 300

/-- A spool in the direction asked is refused at its stop (R92). -/
def spoolRefused (d : WinchDir) (s : State) : Bool := s.wnc.valid && atStop s.cfg.wnc d s.wnc.position

/-- The fields of a reply with the state code and the reason set (R92, R99, R100). -/
def winchReply (c : ResultCode) (s : State) : List Field := [rc c, .u8 (winchCode s)] ++ reasonFields s.wnc.reasons

/-- A spool is started (R92, R93). -/
def runSpool (k : WinchOp) (d : WinchDir) (asked : Nat) (s : State) : State × ResultCode :=
  if spoolRefused d s then (s, .wrongState)
  else
    let v := spoolSpeed s.wnc.valid asked
    (startOp k d v s.wnc.target (replaceOp s), if v = asked then .ok else .clamped)

/-- A WINCH_RUN by its mode (R92, R93). -/
def winchRunMode (mode asked : Nat) (s : State) : State × ResultCode :=
  if 3 < mode then (s, .badValue)
  else if !runModeAllowed mode s.csc.chassis then (s, .wrongState)
  else if mode = 0 then runSpool .spoolIn .inward asked s
  else if mode = 1 then runSpool .spoolOut .outward asked s
  else
    let s' := replaceOp s
    (s'.withWnc (s'.wnc.rest (if mode = 2 then .braked else .free)), .ok)

/-- WNC's part of a WINCH_RUN (R92). -/
def winchRunOwner (p : Payload) (s : State) : State × List Field :=
  let r := winchRunMode (u8At p 0) (u16At p 1) s
  (r.1, winchReply r.2 r.1)

/-- The chassis states that refuse a pull (R94). -/
def pullRefusedIn : Chassis → Bool
  | .standby | .failsafe | .cutoff => true
  | .run | .hold => false

/-- The pull target in counts, clamped into the limits (R94). -/
def pullTarget (s : State) (mm : Int) : Int :=
  clampInt s.cfg.wnc.inner s.cfg.wnc.outer (mmToCounts s.cfg.wnc.umPerCount mm)

/-- The effect of a WINCH_PULL that passes its judgement (R94). -/
def startPull (target : Int) (speed : Nat) (s : State) : State :=
  let s' := replaceOp s
  if (target - s'.wnc.position).natAbs ≤ 4 then endOp .reached .braked s'
  else startOp .pull (if s'.wnc.position < target then .outward else .inward) speed target s'

/-- WNC's part of a WINCH_PULL (R94). -/
def winchPullOwner (p : Payload) (s : State) : State × List Field :=
  if pullRefusedIn s.csc.chassis || !s.wnc.valid then
    (s.useFree 1, [rc .wrongState, .u8 (winchCode s), .i32 (s.free 0), .i32 (positionMm s)])
  else
    let target := pullTarget s (i32At p 0)
    let speed := max 1 (min (u16At p 4) 1000)
    let clamped := decide (target ≠ mmToCounts s.cfg.wnc.umPerCount (i32At p 0)) || decide (speed ≠ u16At p 4)
    let s' := startPull target speed s
    (s', [rc (if clamped then .clamped else .ok), .u8 (winchCode s'), .i32 (countsToMm s.cfg.wnc.umPerCount target),
      .i32 (positionMm s')])

/-- WNC's part of a WINCH_SUSPEND (R97, R99). -/
def winchSuspendOwner (s : State) : State × List Field :=
  let w := s.wnc
  let r : State × ResultCode :=
    if w.state.driving then (s.withWnc (suspendOp { noReasons with host := true } w), .ok)
    else if w.state = .suspended then (s.withWnc { w with reasons := { w.reasons with host := true } }, .ok)
    else (s, .wrongState)
  (r.1, winchReply r.2 r.1)

/-- WNC's part of a WINCH_RESUME (R100). -/
def winchResumeOwner (s : State) : State × List Field :=
  if s.wnc.reasons.host then
    let s' := dropReason { s.wnc.reasons with host := false } s
    (s', winchReply .ok s')
  else (s, winchReply .wrongState s)

/-- WNC's part of a WINCH_ZERO (R86). DESIGN CHOICE (log 37): R86 gives the position and the flag to the OK reply alone, so a BUSY
reply carries the result code alone. -/
def winchZeroOwner (s : State) : State × List Field :=
  let w := s.wnc
  if w.state = .pull ∨ (w.state = .suspended ∧ w.op = some .pull) then (s, [rc .busy])
  else
    let s' := limitCheck (s.withWnc { w with position := 0, valid := true, stall := none })
    (s', [rc .ok, .i32 (positionMm s'), flag s'.wnc.valid])

/-- A limit in mm as converted and clamped (R88). -/
def limitCounts (um : Nat) (mm : Int) : Int := clampInt (-2000000) 2000000 (mmToCounts um mm)

/-- The fields of a WINCH_LIMITS reply (R88). -/
def winchLimitsReply (c : ResultCode) (s : State) : List Field :=
  let g := s.cfg.wnc
  [rc c, .i32 (countsToMm g.umPerCount g.inner), .i32 (countsToMm g.umPerCount g.outer)]

/-- WNC's part of a WINCH_LIMITS (R88). -/
def winchLimitsOwner (p : Payload) (s : State) : State × List Field :=
  if storeRunning s then (s, winchLimitsReply .busy s)
  else
    let um := s.cfg.wnc.umPerCount
    let a := limitCounts um (i32At p 0)
    let b := limitCounts um (i32At p 4)
    if b ≤ a then (s, winchLimitsReply .badValue s)
    else
      let clamped := decide (a ≠ mmToCounts um (i32At p 0)) || decide (b ≠ mmToCounts um (i32At p 4))
      let s' := limitCheck (s.withCfg { s.cfg with wnc := { s.cfg.wnc with inner := a, outer := b } })
      (s', winchLimitsReply (if clamped then .clamped else .ok) s')

/-- WNC's part of a GET_WINCH (R109). -/
def getWinchOwner (s : State) : State × List Field :=
  let w := s.wnc
  let um := s.cfg.wnc.umPerCount
  (s, [rc .ok, .u8 (winchCode s), .u8 (winchOpCode w.op), .i32 (positionMm s), .unsized .winchCounts w.position, flag w.valid,
      flag (beyondLimit s), .unsized .winchSpeed w.lineSpeed] ++ reasonFields w.reasons ++
    [.i32 (countsToMm um s.cfg.wnc.inner), .i32 (countsToMm um s.cfg.wnc.outer), .u8 w.last.code, .unsized .winchDuty w.duty,
      .unsized .winchCap w.cap] ++ (if w.op = some .pull then [.i32 (countsToMm um w.target)] else []) ++
    [.unsized .winchStalls w.stallCount, .unsized .winchTrips w.tripCount, .unsized .winchEncErrors w.encErrors])

/-! ## The winch update -/

/-- The BUDGET reason is added at this grant read, from the grant and the starved flag that the allocation published and the stage of the
battery set it was made from (R102, R144, R169).
DEDUCED, unsafe (log 39): after a CUTOFF_RELEASE taken since that allocation the stage read is SHED, as R154 gives it to every reader of
the battery set; R102 and R169 speak of the stage as published at the allocation. -/
def budgetAdds (current : Nat) (s : State) : Bool :=
  let w := s.wnc
  (decide (s.bmn.pub.stage = .shed) && w.hasOp) ||
    (w.state.driving && s.pba.pub.starved && decide (s.pba.pub.grant.winch < current))

/-- The BUDGET reason is removed at this grant read (R102). -/
def budgetRemoves (s : State) : Bool :=
  s.wnc.reasons.budget && decide (2 * s.cfg.wnc.minimum ≤ s.pba.pub.grant.winch) && decide (s.bmn.pub.stage.code ≤ 2)

/-- Step 1 of R84: the grant read, at the first update after an allocation (R102). -/
def grantRead (current : Nat) (s : State) : State :=
  if s.wnc.grantUnread then
    let s' := s.withWnc { s.wnc with grantUnread := false }
    let w := s'.wnc
    if budgetAdds current s then
      if w.state.driving then s'.withWnc (suspendOp { noReasons with budget := true } w)
      else s'.withWnc { w with reasons := { w.reasons with budget := true } }
    else if budgetRemoves s then dropReason { w.reasons with budget := false } s'
    else s'
  else s

/-- Step 2 of R84: the cap against the grant (R103). -/
def winchFoldback (current : Nat) (s : State) : State :=
  s.withWnc { s.wnc with cap := foldCap s.wnc.cap current s.pba.pub.grant.winch }

/-- The speed magnitude of a spool: at most 300 while the position is invalid (R93). -/
def spoolMagnitude (w : Wnc) : Nat := if w.valid then w.speed else min w.speed 300

/-- The magnitude of a pull's duty target (R95). -/
def pullMagnitude (approach : Nat) (w : Wnc) : Nat :=
  let r := (w.target - w.position).natAbs
  if 0 < approach ∧ r ≤ approach then min (max 150 (w.speed * r / approach)) w.speed else w.speed

/-- Step 4 of R84: the duty target of the operation in force (R93, R95). -/
def dutyTarget (approach : Nat) (w : Wnc) : Int :=
  let m : Int := if w.state = .pull then pullMagnitude approach w else spoolMagnitude w
  match w.dir with
  | .inward => -m
  | .outward => m

/-- Step 5 of R84: the duty moved by at most 5. -/
def slewDuty (duty target : Int) : Int :=
  if target - duty ≤ 5 ∧ duty - target ≤ 5 then target else if duty < target then duty + 5 else duty - 5

/-- The stall detector's answer at one update. -/
inductive StallStep where
  | disarmed
  | armed (a : StallArm)
  | stalled
  deriving DecidableEq, Repr

/-- Step 6 of R84: the stall detector against the commanded duty. An outward operation whose duty is still inward may arm the
detector, but it is never declared stalled (R104). -/
def stallCheck (cfg : WncCfg) (current : Nat) (duty : Int) (w : Wnc) : StallStep :=
  if duty ≤ -200 ∧ cfg.stallCurrent < current then
    match w.stall with
    | none => .armed { since := w.clock, position := w.position }
    | some a =>
      if 2 ≤ (w.position - a.position).natAbs then .armed { since := w.clock, position := w.position }
      else if cfg.stallWindow ≤ (w.clock - a.since).toNat ∧ w.dir = .inward then .stalled
      else .armed a
  else .disarmed

/-- A trip ends the operation FAULT (R105). -/
def winchTrip (s : State) : State :=
  let s' := endOp .fault .braked s
  s'.withWnc { s'.wnc with tripCount := countUp 255 s'.wnc.tripCount }

/-- A stall ends the operation STALL (R104). -/
def winchStalls (s : State) : State :=
  let s' := endOp .stall .stalled s
  s'.withWnc { s'.wnc with stallCount := countUp 255 s'.wnc.stallCount }

/-- Steps 7 and 8 of R84 with the slewed duty and the detector left by step 6. -/
def capAndLimit (duty : Int) (arm : Option StallArm) (s : State) : State :=
  limitCheck (s.withWnc { s.wnc with stall := arm, duty := capOutput s.wnc.cap duty })

/-- Steps 3 to 8 of R84 for a driving winch. -/
def winchDrive (current : Nat) (s : State) : State :=
  if s.cfg.wnc.tripLevel < current then winchTrip s
  else
    let duty := slewDuty s.wnc.duty (dutyTarget s.cfg.wnc.approach s.wnc)
    match stallCheck s.cfg.wnc current duty s.wnc with
    | .stalled => winchStalls s
    | .armed a => capAndLimit duty (some a) s
    | .disarmed => capAndLimit duty none s

/-- The winch update in the order of R84; `current` is the sensed current, saturating at 65000. -/
def winchUpdate (current : Nat) (s : State) : State :=
  let i := min current 65000
  let s' := winchFoldback i (grantRead i s)
  if s'.wnc.state.driving then winchDrive i s' else s'.withWnc { s'.wnc with duty := 0 }

/-- The winch stalls at the update now made (R104). -/
def winchStallDue (current : Nat) (s : State) : Bool :=
  let i := min current 65000
  let s' := winchFoldback i (grantRead i s)
  s'.wnc.state.driving && decide (i ≤ s.cfg.wnc.tripLevel) &&
    decide (stallCheck s.cfg.wnc i (slewDuty s'.wnc.duty (dutyTarget s.cfg.wnc.approach s'.wnc)) s'.wnc = .stalled)

/-! ## The encoder and the line speed -/

/-- The place of an encoder pair in the sequence (0,0), (1,0), (1,1), (0,1) (R85). -/
def encPhase (e : EncoderPins) : Nat :=
  match e.a, e.b with
  | false, false => 0
  | true, false => 1
  | true, true => 2
  | false, true => 3

/-- The completion check and the limit check of a count (R89, R96). -/
def countChecks (s : State) : State :=
  if s.wnc.state = .pull && pullReached s.wnc then endOp .reached .braked s else limitCheck s

/-- The position has become invalid: a PULL, running or SUSPENDED, ends FAULT (R86, R96). -/
def loseValidity (s : State) : State :=
  let s' := s.withWnc { s.wnc with valid := false }
  if s'.wnc.hasOp && decide (s'.wnc.op = some .pull) then endOp .fault .braked s' else s'

/-- A count of `d`, +1 or −1: into the window sum and the position, saturating at ±2,000,000 (R85, R87). -/
def encoderStep (d : Int) (s : State) : State :=
  let w := { s.wnc with windowSum := s.wnc.windowSum + d }
  let x := w.position + d
  if 2000000 < x ∨ x < -2000000 then countChecks (loseValidity (s.withWnc { w with position := clampInt (-2000000) 2000000 x }))
  else countChecks (s.withWnc { w with position := x })

/-- A change of both lines: an encoder error (R85). -/
def encoderError (s : State) : State :=
  loseValidity (s.withWnc { s.wnc with encErrors := countUp 255 s.wnc.encErrors })

/-- A detection of the encoder pair, judged against the pair before it (R85). -/
def encoderChange (e : EncoderPins) (s : State) : State :=
  let was := encPhase s.wnc.enc
  let s' := s.withWnc { s.wnc with enc := e }
  if encPhase e = was then s
  else if encPhase e = (was + 1) % 4 then encoderStep 1 s'
  else if encPhase e = (was + 3) % 4 then encoderStep (-1) s'
  else encoderError s'

/-- The line-speed window in progress has lasted 50 ms on the winch clock (R87). -/
def windowDue (s : State) : Bool := decide (50 ≤ (s.wnc.clock - s.wnc.windowStart).toNat)

/-- The end of a line-speed window: the speed is published and the next window begins (R87). -/
def windowEnd (s : State) : State :=
  let w := s.wnc
  s.withWnc { w with
    lineSpeed := Int.tdiv (w.windowSum * s.cfg.wnc.umPerCount) 50, windowSum := 0, windowStart := w.windowStart + 50 }

/-- WNC's part of UNIT_RESET WINCH (R112). -/
def winchUnitReset (s : State) : State :=
  let s' := endAnyOp .reset s
  s'.withWnc { s'.wnc with
    speed := 0, target := 0, dir := .inward, cap := 1000, stallCount := 0, tripCount := 0, encErrors := 0 }

/-! ## The commands -/

/-- WINCH_RUN (R92). -/
def execWinchRun (p : Payload) (s : State) : Host.Outcome State Fault Refusal := .next (taking 0x20 p (winchRunOwner p) s)

/-- WINCH_PULL (R94). -/
def execWinchPull (p : Payload) (s : State) : Host.Outcome State Fault Refusal := .next (taking 0x21 p (winchPullOwner p) s)

/-- WINCH_SUSPEND (R99). -/
def execWinchSuspend (p : Payload) (s : State) : Host.Outcome State Fault Refusal := .next (taking 0x22 p winchSuspendOwner s)

/-- WINCH_RESUME (R100). -/
def execWinchResume (p : Payload) (s : State) : Host.Outcome State Fault Refusal := .next (taking 0x23 p winchResumeOwner s)

/-- WINCH_ZERO (R86). -/
def execWinchZero (p : Payload) (s : State) : Host.Outcome State Fault Refusal := .next (taking 0x24 p winchZeroOwner s)

/-- WINCH_LIMITS (R88). -/
def execWinchLimits (p : Payload) (s : State) : Host.Outcome State Fault Refusal := .next (taking 0x25 p (winchLimitsOwner p) s)

/-- GET_WINCH (R109). -/
def execGetWinch (p : Payload) (s : State) : Host.Outcome State Fault Refusal := .next (taking 0x26 p getWinchOwner s)

/-- WINCH_UPDATE (R84). -/
def execWinchUpdate (current : Nat) (s : State) : Host.Outcome State Fault Refusal := .next (whenRunning (winchUpdate current) s)

/-- WINCH_STALL: the winch update at which the winch stalls (R104; log 8). -/
def execWinchStall (current : Nat) (s : State) : Host.Outcome State Fault Refusal :=
  .next (whenDue (winchStallDue current) (winchUpdate current) s)

/-- ENCODER_COUNT (R85). -/
def execEncoderCount (enc : EncoderPins) (s : State) : Host.Outcome State Fault Refusal := .next (whenRunning (encoderChange enc) s)

/-- LINE_SPEED_WINDOW_END (R87). -/
def execLineSpeedWindowEnd (s : State) : Host.Outcome State Fault Refusal := .next (whenDue windowDue windowEnd s)

end Sys2Proof.Machine
end

