-- ==== Sys2Proof/Machine/Flags.lean ====
section
/-! DEFINITION. The flags that blocks publish for one another: BRAKE, REVERSE, the turn indicators, the light triggers, the
protect lock. -/

namespace Sys2Proof.Machine

/-- A drive channel is slowing: |target| < |output|, both as its last update left them (R79). -/
def slowing (c : DriveChan) : Bool := decide (c.lastTarget.natAbs < c.lastOutput.natAbs)

/-- The BRAKE flag (R79). -/
def brakeFlag (s : State) : Bool := slowing s.drc.df || slowing s.drc.dr || decide (s.csc.chassis = .hold)

/-- The REVERSE flag: an output is negative as the last update of its channel left it (R79, R118). -/
def reverseFlag (s : State) : Bool := decide (s.drc.df.lastOutput < 0) || decide (s.drc.dr.lastOutput < 0)

/-- The TURN_LEFT indicator (R30). -/
def turnLeft (s : State) : Bool :=
  s.csc.setpoint.valid && decide (s.csc.setpoint.steer ≤ -(s.cfg.smx.turnThreshold : Int))

/-- The TURN_RIGHT indicator (R30). -/
def turnRight (s : State) : Bool :=
  s.csc.setpoint.valid && decide ((s.cfg.smx.turnThreshold : Int) ≤ s.csc.setpoint.steer)

/-- The HAZARD trigger: HOLD or FAILSAFE (R118). -/
def hazard (s : State) : Bool := decide (s.csc.chassis = .hold) || decide (s.csc.chassis = .failsafe)

/-- The LOWBATT trigger, from the stage of the last completed sweep (R118). -/
def lowBattery (s : State) : Bool := decide (s.bmn.pub.stage ≠ .normal)

/-- A trigger source is active at the moment of the read (R118). -/
def sourceActive (s : State) : TriggerSource → Bool
  | .none => false
  | .brake => brakeFlag s
  | .reverse => reverseFlag s
  | .turnLeft => turnLeft s
  | .turnRight => turnRight s
  | .winchActive => s.wnc.state.driving
  | .hazard => hazard s
  | .lowBatt => lowBattery s

/-- The protect lock is active: the flag is set and the strap is low (R156). -/
def lockActive (strap : PinLevel) (s : State) : Bool := s.cfg.bmn.lockFlag && decide (strap = .low)

/-- The blend-active status (R22). -/
def blendActive (s : State) : Bool := s.smx.frontBlend.active || s.smx.rearBlend.active

/-- The hold age in ms, saturating; 0 with no hold record (R3). -/
def holdAge (s : State) : Nat :=
  match s.csc.hold with
  | some h => min (s.now - h.entry) 65535
  | none => 0

/-- The hold mode-change flag; false with no hold record (R3). -/
def holdModeChange (s : State) : Bool :=
  match s.csc.hold with
  | some h => h.modeChange
  | none => false

end Sys2Proof.Machine
end

