-- ==== Sys2Proof/Machine/Lights.lean ====
section
/-! DEFINITION. Chapters 6 and 7: the light channels, their maps, and the pattern requests. -/

namespace Sys2Proof.Machine

/-! ## Channels and maps -/

/-- The map of a channel (R115). -/
def mapOf (s : State) (k : Fin 8) : LightMap := s.cfg.lcu.maps[k]

/-- A light channel's record. -/
def lightOfState (s : State) (k : Fin 8) : LightChan := s.lcu.chans[k]

/-- Replaces a light channel's record. -/
def setLight (k : Fin 8) (c : LightChan) (s : State) : State := s.withLcu { chans := s.lcu.chans.set k c }

/-- Replaces LCU's part of the working configuration. -/
def setLcuCfg (c : LcuCfg) (s : State) : State := s.withCfg { s.cfg with lcu := c }

/-- The action of a side: the on-action while the activity is true (R113). -/
def LightMap.action (m : LightMap) (activity : Bool) : Action := if activity then m.onAction else m.offAction

/-- The channel reads its source, sets its activity and starts the action of that side (R116, R126, R130). -/
def restartLight (s : State) (k : Fin 8) (c : LightChan) : LightChan :=
  let m := mapOf s k
  let a := sourceActive s m.source
  startAction s.cfg.lcu (m.action a) { c with activity := a }

/-- A channel forced off: runner idle, level 0, base level 0 (R125). -/
def LightChan.dark (c : LightChan) : LightChan :=
  { c with forcedOff := true, restart := false, runner := none, level := 0, base := 0 }

/-- The channel of a map that has just been replaced: residual 0 and runner idle; forced off in CUTOFF unless the source is
LOWBATT; otherwise restarted (R116, R125, R129). -/
def remapLight (s : State) (k : Fin 8) (c : LightChan) : LightChan :=
  let c' := { c with runner := none, residual := 0, activity := sourceActive s (mapOf s k).source }
  if s.csc.chassis = .cutoff ∧ (mapOf s k).source ≠ .lowBatt then c'.dark
  else restartLight s k { c' with forcedOff := false }

/-! ## The period start -/

/-- Step 1 of R114: a channel left by a cutoff restarts (R126); one whose source reads differently switches (R119). -/
def lightEvaluate (s : State) (k : Fin 8) (c : LightChan) : LightChan :=
  if c.restart then { restartLight s k c with restart := false }
  else if sourceActive s (mapOf s k).source ≠ c.activity then restartLight s k c
  else c

/-- Step 2 of R114: the base level of the period; a running pattern advances by one period. -/
def lightAction (s : State) (k : Fin 8) (c : LightChan) : LightChan :=
  match c.runner with
  | some r =>
    let x := runPeriod s.cfg.lcu r c.base
    { c with runner := some x.1, base := x.2 }
  | none =>
    match (mapOf s k).action c.activity with
    | .level v => { c with base := v }
    | .pattern _ => c

/-- Step 3 of R114: the scaled brightness; a LOWBATT channel is unscaled in CUTOFF (R121). -/
def scaledLight (s : State) (k : Fin 8) (base : Nat) : Nat :=
  if s.csc.chassis = .cutoff ∧ (mapOf s k).source = .lowBatt then base else base * s.pba.pub.lightScale / 1024

/-- The FRAME thresholds THR[c] (R123). -/
def frameThreshold (c : Nat) : Nat := [0, 8, 4, 12, 2, 10, 6, 14, 1, 9, 5, 13, 3, 11, 7, 15].getD c 0

/-- Step 4 of R114: the level of the period and the residual after it (R122 to R124). -/
def ditherLevel (d : Dither) (b slot residual : Nat) : Nat × Nat :=
  match d with
  | .truncate => (b / 16, residual)
  | .frame => (if frameThreshold slot < b - 16 * (b / 16) then b / 16 + 1 else b / 16, residual)
  | .diffuse =>
    let level := min ((b + residual) / 16) 64
    (level, b + residual - 16 * level)

/-- A channel's period start in the order of R114; a forced-off channel takes none of the steps. -/
def lightPeriod (s : State) (k : Fin 8) (c : LightChan) : LightChan :=
  if c.forcedOff then c
  else
    let c2 := lightAction s k (lightEvaluate s k c)
    let d := ditherLevel (mapOf s k).dither (scaledLight s k c2.base) c2.slot c2.residual
    { c2 with level := d.1, residual := d.2, slot := if 15 ≤ c2.slot then 0 else c2.slot + 1 }

/-- The period start of channel `k`. -/
def lightPeriodStart (k : Fin 8) (s : State) : State := setLight k (lightPeriod s k (lightOfState s k)) s

/-- The period start now beginning completes a step of the channel's pattern (R140). -/
def stepCompleteDue (k : Fin 8) (s : State) : Bool :=
  !(lightOfState s k).forcedOff &&
    (match (lightPeriod s k (lightOfState s k)).runner with
      | some r => r.complete && !r.finished
      | none => false)

/-! ## All channels -/

/-- Every channel replaced by a function of its number and record. -/
def mapLights (f : Fin 8 → LightChan → LightChan) (s : State) : State :=
  s.withLcu { chans := Vector.ofFn fun k => f k (lightOfState s k) }

/-- On entry into CUTOFF every channel whose source is not LOWBATT is forced off (R125). -/
def lightsCutoff (s : State) : State :=
  mapLights (fun k c => if (mapOf s k).source = .lowBatt then c else c.dark) s

/-- When the chassis leaves CUTOFF the forced-off channels are freed, to restart at their next period start (R126). -/
def lightsRelease (s : State) : State :=
  mapLights (fun _ c => if c.forcedOff then { c with forcedOff := false, restart := true } else c) s

/-- Every channel restarts under maps that have just been replaced (R129). -/
def lightsRestored (s : State) : State := mapLights (remapLight s) s

/-- LCU's part of UNIT_RESET LIGHTS (R130).
DEDUCED, unsafe for the activity flag (log 42): a forced-off channel keeps its activity, since the text of R130 reads the
source of the channels alone that are not forced off; R118 and the table of R130 read it with no such exception. -/
def lightsUnitReset (s : State) : State :=
  mapLights (fun k c =>
    if c.forcedOff then { c with residual := 0 }
    else restartLight s k { c with runner := none, residual := 0 }) s

/-- The LIGHTS demand: each channel's full-on current at its base level, truncated, summed (R127, R166). -/
def lightsDemand (s : State) : Nat :=
  ((List.finRange 8).map fun k => (mapOf s k).fullOn * (lightOfState s k).base / 1024).sum

/-! ## LIGHT_MAP and LIGHT_LEVEL -/

/-- An action asked for by kind and value, a level clamped; none if it is invalid (R116). -/
def askedAction (cfg : LcuCfg) (kind v : Nat) : Option Action :=
  match kind with
  | 0 => some (.level (min v 1024))
  | 1 =>
    match patternOf v with
    | some q => if cfg.table[q].isDefined then some (.pattern q) else none
    | none => none
  | _ => none

/-- How many of a map's two actions name a pattern (R115). -/
def mapRefs (m : LightMap) (q : Fin 16) : Nat :=
  (if m.onAction = .pattern q then 1 else 0) + (if m.offAction = .pattern q then 1 else 0)

/-- The pattern table after a map is replaced: the counts follow the actions (R116). -/
def tableAfterMap (old new : LightMap) (t : Vector PatternEntry 16) : Vector PatternEntry 16 :=
  Vector.ofFn fun q : Fin 16 => { t[q] with refs := t[q].refs + mapRefs new q - mapRefs old q }

/-- The map of a channel replaced, with the reference counts (R116). -/
def replaceMap (k : Fin 8) (m : LightMap) (s : State) : State :=
  let c := s.cfg.lcu
  setLcuCfg { c with maps := c.maps.set k m, table := tableAfterMap c.maps[k] m c.table } s

/-- The map that a LIGHT_MAP asks for, clamped; none if the request is invalid (R116). -/
def askedMap (cfg : LcuCfg) (p : Payload) : Option LightMap := do
  let source ← sourceOf (u8At p 1)
  let onA ← askedAction cfg (u8At p 2) (u16At p 3)
  let offA ← askedAction cfg (u8At p 5) (u16At p 6)
  let dither ← ditherOf (u8At p 8)
  some { source := source, onAction := onA, offAction := offA, dither := dither, fullOn := min (u16At p 9) 2000 }

/-- A LEVEL value or the full-on current of a LIGHT_MAP was clamped (R116). -/
def mapClamped (p : Payload) : Bool :=
  (decide (u8At p 2 = 0) && decide (1024 < u16At p 3)) || (decide (u8At p 5 = 0) && decide (1024 < u16At p 6)) ||
    decide (2000 < u16At p 9)

/-- The fields of a LIGHT_MAP reply on a channel (R116). -/
def lightMapReply (c : ResultCode) (k : Fin 8) (s : State) : List Field :=
  let a := (lightOfState s k).activity
  [rc c, .u8 k.val, flag a, flag a]

/-- A LIGHT_MAP that names no channel: activity and side are free (R116; log 3). -/
def lightMapNoChannel (c : ResultCode) (p : Payload) (s : State) : State × List Field :=
  (s.useFree 2, [rc c, .u8 (u8At p 0), .u8 (s.free 0), .u8 (s.free 1)])

/-- LCU's part of a LIGHT_MAP (R116). -/
def lightMapOwner (p : Payload) (s : State) : State × List Field :=
  match lightOf (u8At p 0) with
  | none => lightMapNoChannel (if storeRunning s then .busy else .badValue) p s
  | some k =>
    if storeRunning s then (s, lightMapReply .busy k s)
    else match askedMap s.cfg.lcu p with
      | none => (s, lightMapReply .badValue k s)
      | some m =>
        let s1 := replaceMap k m s
        let s2 := setLight k (remapLight s1 k (lightOfState s1 k)) s1
        (s2, lightMapReply (if mapClamped p then .clamped else .ok) k s2)

/-- The effect of a LIGHT_LEVEL on the channel: on the OFF side of a channel that is not forced off the off-pattern stops and the
base level becomes the new level (R117). -/
def levelLight (v : Nat) (c : LightChan) : LightChan :=
  if c.forcedOff || c.activity then c else { c with runner := none, base := v }

/-- LCU's part of a LIGHT_LEVEL (R117). -/
def lightLevelOwner (p : Payload) (s : State) : State × List Field :=
  match lightOf (u8At p 0) with
  | none => (s.useFree 1, [rc .badValue, .u8 (u8At p 0), .u16 (s.free 0)])
  | some k =>
    let v := min (u16At p 1) 1024
    let s1 := replaceMap k { mapOf s k with offAction := .level v } s
    (setLight k (levelLight v (lightOfState s1 k)) s1, [rc (if v = u16At p 1 then .ok else .clamped), .u8 k.val, .u16 v])

/-! ## Patterns -/

/-- The number of EMPTY table entries (R134). -/
def emptyCount (c : LcuCfg) : Nat := ((List.finRange 16).filter fun q : Fin 16 => !c.table[q].isDefined).length

/-- The lowest-numbered EMPTY entry (R134). -/
def firstEmpty (c : LcuCfg) : Option (Fin 16) := (List.finRange 16).find? fun q : Fin 16 => !c.table[q].isDefined

/-- The initial record of position `j` of an `n`-step pattern (R134). -/
def allocStep (n j : Nat) : StepRecord :=
  { target := 0, ramp := 0, hold := 0, link := if j + 1 < n then .next (j + 1) else .endHold }

/-- The records of a new step list initialised in order (R134). -/
def initSteps (n : Nat) : Nat → List (Fin 64) → Vector StepRecord 64 → Vector StepRecord 64
  | _, [], pool => pool
  | j, i :: rest, pool => initSteps n (j + 1) rest (pool.set i (allocStep n j))

/-- The configuration after `n` steps are allocated to entry `q` (R134). -/
def allocPattern (q : Fin 16) (n : Nat) (c : LcuCfg) : LcuCfg :=
  { c with
    table := c.table.set q { steps := c.free.take n, refs := 0 }
    free := c.free.drop n
    pool := initSteps n 0 (c.free.take n) c.pool }

/-- The two counts that a PATTERN_ALLOC reply carries (R134). -/
def allocCounts (c : LcuCfg) : List Field := [.u8 (emptyCount c), .u8 c.free.length]

/-- Pool indices as u8 fields. -/
def indexFields (l : List (Fin 64)) : List Field := l.map fun i => .u8 i.val

/-- LCU's part of a PATTERN_ALLOC (R134). -/
def patternAllocOwner (p : Payload) (s : State) : State × List Field :=
  let c := s.cfg.lcu
  let n := u8At p 0
  let refuse := fun r : ResultCode => (s, rc r :: allocCounts c)
  if storeRunning s then refuse .busy
  else if n < 1 ∨ 16 < n then refuse .badValue
  else match firstEmpty c with
    | none => refuse .noSpace
    | some q =>
      if c.free.length < n then refuse .noSpace
      else
        let c' := allocPattern q n c
        (setLcuCfg c' s, rc .ok :: allocCounts c' ++ [.u8 q.val, .u8 n] ++ indexFields (c.free.take n))

/-- The link that a PATTERN_STEP asks for in a pattern of `n` steps; none if it is invalid (R135). -/
def askedLink (n kind pos : Nat) : Option StepLink :=
  match kind with
  | 0 => if pos < n then some (.next pos) else none
  | 1 => some .endHold
  | 2 => some .endOff
  | _ => none

/-- The step record that a PATTERN_STEP asks for, clamped (R135). -/
def askedStep (p : Payload) (l : StepLink) : StepRecord :=
  { target := min (u16At p 2) 1024, ramp := min (u16At p 4) 60000, hold := min (u16At p 6) 60000, link := l }

/-- A target, ramp or hold of a PATTERN_STEP was clamped (R135). -/
def stepClamped (p : Payload) : Bool :=
  decide (1024 < u16At p 2) || decide (60000 < u16At p 4) || decide (60000 < u16At p 6)

/-- Where a valid PATTERN_STEP writes, and its link; none if the request is invalid (R135). -/
def stepPlace (c : LcuCfg) (p : Payload) : Option (Fin 64 × StepLink) := do
  let q ← patternOf (u8At p 0)
  let i ← stepIndex c q (u8At p 1)
  let l ← askedLink c.table[q].steps.length (u8At p 8) (u8At p 9)
  some (i, l)

/-- The link position of a record as a field: that of NEXT; for END_HOLD and END_OFF no rule states one (R131; log 3). -/
def linkPosition (l : StepLink) (freeValue : Nat) : Field :=
  match l with
  | .next k => .u8 k
  | .endHold | .endOff => .u8 freeValue

/-- The fields of a step record in a reply (R135, R137). -/
def stepFields (r : StepRecord) (freeValue : Nat) : List Field :=
  [.u16 r.target, .u16 r.ramp, .u16 r.hold, .u8 r.link.code, linkPosition r.link freeValue]

/-- A refused PATTERN_STEP: nothing is written, so what it carries as written is free (R135; log 3). -/
def patternStepRefusal (c : ResultCode) (p : Payload) (s : State) : State × List Field :=
  (s.useFree 6, [rc c, .u8 (u8At p 0), .u8 (u8At p 1), .u8 (s.free 0), .u16 (s.free 1), .u16 (s.free 2), .u16 (s.free 3),
    .u8 (s.free 4), .u8 (s.free 5)])

/-- LCU's part of a PATTERN_STEP (R135). -/
def patternStepOwner (p : Payload) (s : State) : State × List Field :=
  let c := s.cfg.lcu
  if storeRunning s then patternStepRefusal .busy p s
  else match stepPlace c p with
    | none => patternStepRefusal .badValue p s
    | some (i, l) =>
      let r := askedStep p l
      ((setLcuCfg { c with pool := c.pool.set i r } s).useFree 1,
        [rc (if stepClamped p then .clamped else .ok), .u8 (u8At p 0), .u8 (u8At p 1), .u8 i.val] ++ stepFields r (s.free 0))

/-- The configuration after a pattern is freed (R136). -/
def freePattern (q : Fin 16) (c : LcuCfg) : LcuCfg :=
  { c with table := c.table.set q { steps := [], refs := 0 }, free := c.free ++ c.table[q].steps }

/-- LCU's part of a PATTERN_FREE (R136). -/
def patternFreeOwner (p : Payload) (s : State) : State × List Field :=
  let c := s.cfg.lcu
  match patternOf (u8At p 0) with
  | none =>
    (s.useFree 1, [rc (if storeRunning s then .busy else .badValue), .u8 (u8At p 0), .u8 (s.free 0), .u8 c.free.length])
  | some q =>
    let e := c.table[q]
    let answer := fun (r : ResultCode) (c' : LcuCfg) => [rc r, .u8 q.val, .u8 e.refs, .u8 c'.free.length]
    if storeRunning s then (s, answer .busy c)
    else if !e.isDefined then (s, answer .badValue c)
    else if 0 < e.refs then (s, answer .inUse c)
    else (setLcuCfg (freePattern q c) s, answer .ok (freePattern q c))

/-- LCU's part of a GET_PATTERN (R137). -/
def getPatternOwner (p : Payload) (s : State) : State × List Field :=
  let c := s.cfg.lcu
  match patternOf (u8At p 0) with
  | none => (s, [rc .badValue])
  | some q =>
    let e := c.table[q]
    let front := [rc .ok, .u8 q.val, flag e.isDefined, .u8 e.refs, .u8 e.steps.length] ++ indexFields e.steps
    match stepIndex c q (u8At p 1) with
    | none => (s, front ++ [flag false])
    | some i => (s.useFree 1, front ++ [flag true, .u8 (u8At p 1)] ++ stepFields c.pool[i] (s.free 0))

/-- LCU's part of a GET_FREE (R138). -/
def getFreeOwner (s : State) : State × List Field :=
  let f := s.cfg.lcu.free
  (s, [rc .ok, .u8 f.length] ++ indexFields (f.take 16))

/-! ## Status -/

/-- The three status bytes of a light channel (R127, section 10.8). -/
def lightStatus (s : State) (k : Fin 8) : List Field :=
  let c := lightOfState s k
  let named : Nat := match (mapOf s k).action c.activity with
    | .level _ => 255
    | .pattern q => q.val
  let finished := match c.runner with
    | some r => r.finished
    | none => false
  [.u8 c.level, .u8 named, .u8 (c.activity.toNat + 2 * c.activity.toNat + 4 * finished.toNat + 8 * c.forcedOff.toNat)]

/-! ## The commands -/

/-- LIGHT_LEVEL (R117). -/
def execLightLevel (p : Payload) (s : State) : Host.Outcome State Fault Refusal := .next (taking 0x30 p (lightLevelOwner p) s)

/-- LIGHT_MAP (R116). -/
def execLightMap (p : Payload) (s : State) : Host.Outcome State Fault Refusal := .next (taking 0x31 p (lightMapOwner p) s)

/-- PATTERN_ALLOC (R134). -/
def execPatternAlloc (p : Payload) (s : State) : Host.Outcome State Fault Refusal := .next (taking 0x32 p (patternAllocOwner p) s)

/-- PATTERN_STEP (R135). -/
def execPatternStep (p : Payload) (s : State) : Host.Outcome State Fault Refusal := .next (taking 0x33 p (patternStepOwner p) s)

/-- PATTERN_FREE (R136). -/
def execPatternFree (p : Payload) (s : State) : Host.Outcome State Fault Refusal := .next (taking 0x34 p (patternFreeOwner p) s)

/-- GET_PATTERN (R137). -/
def execGetPattern (p : Payload) (s : State) : Host.Outcome State Fault Refusal := .next (taking 0x35 p (getPatternOwner p) s)

/-- GET_FREE (R138). -/
def execGetFree (p : Payload) (s : State) : Host.Outcome State Fault Refusal := .next (taking 0x36 p getFreeOwner s)

/-- LIGHT_PERIOD_START (R114). -/
def execLightPeriodStart (k : Fin 8) (s : State) : Host.Outcome State Fault Refusal := .next (whenRunning (lightPeriodStart k) s)

/-- PATTERN_STEP_COMPLETE: the period start at which a step of the channel's pattern completes (R140; log 8). -/
def execPatternStepComplete (k : Fin 8) (s : State) : Host.Outcome State Fault Refusal :=
  .next (whenDue (stepCompleteDue k) (lightPeriodStart k) s)

end Sys2Proof.Machine
end

