-- ==== Sys2Proof/Machine/Chassis.lean ====
section
/-! DEFINITION. Chapter 1: the chassis transitions and the requests that CSC owns. -/

namespace Sys2Proof.Machine

/-- The cleared setpoint record (R2). -/
def clearedSetpoint : Setpoint := { throttle := 0, steer := 0, valid := false }

/-- The STATE_CHANGE report (R14). -/
def stateChangeReport (old new : Chassis) (cause : Cause) : TxFrame :=
  { type := 0xE0, fields := [.u8 old.code, .u8 new.code, .u8 cause.code] }

/-- CSC's own part of a transition: the new state, STATE_CHANGE posted (R14). -/
def moveChassis (new : Chassis) (cause : Cause) (s : State) : State :=
  postReport (stateChangeReport s.csc.chassis new cause) (s.withCsc { s.csc with chassis := new })

/-- The setpoint record cleared and the hold record discarded (R10, R12). -/
def clearMotion (s : State) : State := s.withCsc { s.csc with setpoint := clearedSetpoint, hold := none }

/-- Entry into FAILSAFE with the teardown of every block, their reports in the order of R14 (R10, R27, R53, R106). -/
def enterFailsafe (cause : Cause) (s : State) : State :=
  endAnyOp .linkLost (shiftFailsafe (dropBlends (moveChassis .failsafe cause (clearMotion s))))

/-- A cutoff-entry event: entry into CUTOFF from any other state (R12, R28, R54, R75, R107, R125). -/
def enterCutoff (s : State) : State :=
  if s.csc.chassis = .cutoff then s
  else lightsCutoff (endAnyOp .cutoff
    (driveCutoff (shiftToIdle (dropBlends (moveChassis .cutoff .batteryCutoff (clearMotion s))))))

/-- A link-lost event at CSC: the flag is set; in RUN and HOLD the chassis enters FAILSAFE (R4, R10, R11). -/
def linkLost (cause : Cause) (s : State) : State :=
  let s' := s.withCsc { s.csc with linkLost := true }
  match s.csc.chassis with
  | .run | .hold => enterFailsafe cause s'
  | .standby | .failsafe | .cutoff => s'

/-- A link-regained event at CSC (R4, R11). -/
def linkRegained (s : State) : State := s.withCsc { s.csc with linkLost := false }

/-- Entry into HOLD from RUN (R7, R76, R101). -/
def enterHold (s : State) : State :=
  let s' := s.withCsc { s.csc with hold := some { entry := s.now, modeChange := false } }
  winchHold (driveHold (moveChassis .hold .hostRequest s'))

/-- The return from HOLD to RUN (R8, R101). -/
def resumeRun (s : State) : State :=
  winchUnhold (moveChassis .run .hostRequest (s.withCsc { s.csc with hold := none }))

/-! ## SET_MOTION -/

/-- The throttle of a SET_MOTION, clamped (R2). -/
def askedThrottle (p : Payload) : Int := clampInt (-1000) 1000 (i16At p 0)

/-- The steer of a SET_MOTION, clamped (R2). -/
def askedSteer (p : Payload) : Int := clampInt (-1000) 1000 (i16At p 2)

/-- A field of a SET_MOTION was clamped (R2). -/
def motionClamped (p : Payload) : Bool := decide (askedThrottle p ≠ i16At p 0) || decide (askedSteer p ≠ i16At p 2)

/-- The neutral check on the clamped throttle; one that needed clamping always fails it (R6). -/
def neutralCheck (p : Payload) (s : State) : Bool :=
  decide ((askedThrottle p).natAbs ≤ s.cfg.drc.neutral) && decide (askedThrottle p = i16At p 0)

/-- The record is written and made valid (R2, R5). -/
def writeSetpoint (p : Payload) (s : State) : State :=
  s.withCsc { s.csc with setpoint := { throttle := askedThrottle p, steer := askedSteer p, valid := true } }

/-- The fields of a reply that carries the chassis state code (R5, R7, R8). -/
def chassisReply (c : ResultCode) (s : State) : List Field := [rc c, .u8 s.csc.chassis.code]

/-- CSC's part of a SET_MOTION (R5). -/
def setMotionOwner (p : Payload) (s : State) : State × List Field :=
  let code := if motionClamped p then ResultCode.clamped else .ok
  match s.csc.chassis with
  | .standby | .failsafe =>
    if neutralCheck p s then
      let s' := moveChassis .run .neutralSetpoint (writeSetpoint p s)
      (s', chassisReply code s')
    else (s, chassisReply .neutral s)
  | .run | .hold => (writeSetpoint p s, chassisReply code s)
  | .cutoff => (s, chassisReply .wrongState s)

/-- CSC's part of a HOLD (R7). -/
def holdOwner (s : State) : State × List Field :=
  match s.csc.chassis with
  | .run => (enterHold s, chassisReply .ok (enterHold s))
  | .hold => (s, chassisReply .ok s)
  | .standby | .failsafe | .cutoff => (s, chassisReply .wrongState s)

/-- CSC's part of a RESUME (R8). -/
def resumeOwner (s : State) : State × List Field :=
  match s.csc.chassis with
  | .hold => (resumeRun s, chassisReply .ok (resumeRun s))
  | .standby | .run | .failsafe | .cutoff => (s, chassisReply .wrongState s)

/-! ## The commands -/

/-- SET_MOTION (R5). -/
def execSetMotion (p : Payload) (s : State) : Host.Outcome State Fault Refusal := .next (taking 0x01 p (setMotionOwner p) s)

/-- HOLD (R7). -/
def execHold (p : Payload) (s : State) : Host.Outcome State Fault Refusal := .next (taking 0x02 p holdOwner s)

/-- RESUME (R8). -/
def execResume (p : Payload) (s : State) : Host.Outcome State Fault Refusal := .next (taking 0x03 p resumeOwner s)

end Sys2Proof.Machine
end

