-- ==== Sys2Proof/Machine/Budget.lean ====
section
/-! DEFINITION. Chapter 9: the power budget. -/

namespace Sys2Proof.Machine

/-- The classes in class order (R163). -/
def classOrder : List ClassId := [.servo, .driveF, .driveR, .winch, .lights]

/-- The priority levels in the order they are served (R168). -/
def priorityLevels : List Nat := [0, 1, 2, 3, 4, 5, 6, 7]

/-- The available current under a stage (R165). -/
def availableCurrent (pmax : Nat) : Stage → Nat
  | .normal | .warn => pmax
  | .limit => pmax * 3 / 4
  | .shed => pmax / 2
  | .cutoff => 0

/-- The demand of each class (R166). -/
def demandsOf (s : State) : PerClass Nat :=
  { servo := s.bmn.pub.servoRail, driveF := s.bmn.pub.df, driveR := s.bmn.pub.dr, winch := s.bmn.pub.winch,
    lights := lightsDemand s }

/-- The classes of a priority level, in class order (R168). -/
def levelClasses (cs : PerClass ClassRecord) (level : Nat) : List ClassId :=
  classOrder.filter fun c => decide ((cs.get c).priority = level)

/-- The classes in priority order, equal priorities in class order (R167). -/
def servingOrder (cs : PerClass ClassRecord) : List ClassId := priorityLevels.flatMap (levelClasses cs)

/-- A running share-out: what each class has been given and what remains. -/
structure ShareOut where
  given : PerClass Nat
  left : Nat
  deriving DecidableEq, Repr

/-- The floor grants, taken in serving order from A (R167). -/
def shareFloors (cs : PerClass ClassRecord) (a : Nat) : ShareOut :=
  (servingOrder cs).foldl
    (fun x c =>
      let f := min (cs.get c).floor x.left
      { given := x.given.set c f, left := x.left - f })
    { given := perClass fun _ => 0, left := a }

/-- The want of a class beyond its floor grant (R167). -/
def wantOf (r : ClassRecord) (demand floorGrant : Nat) : Nat :=
  min r.ceiling (max (demand * 5 / 4) r.floor) - floorGrant

/-- The sum of the wants of a group of classes (R168). -/
def groupWant (wants : PerClass Nat) (group : List ClassId) : Nat := (group.map wants.get).sum

/-- The extra of a class of a level whose wants sum to `w`, from the remaining current at the level's start (R168). -/
def levelExtra (r w want : Nat) : Nat := if w ≤ r then want else r * want / w

/-- One priority level served: the shares are formed together from one remaining current (R168). -/
def serveLevel (cs : PerClass ClassRecord) (wants : PerClass Nat) (x : ShareOut) (level : Nat) : ShareOut :=
  let group := levelClasses cs level
  let w := groupWant wants group
  let extra := fun c : ClassId => if c ∈ group then levelExtra x.left w (wants.get c) else 0
  { given := perClass fun c => x.given.get c + extra c, left := x.left - (perClass extra).sum }

/-- The extras of every class and the leftover current, from the current remaining after the floors (R168). -/
def shareWants (cs : PerClass ClassRecord) (wants : PerClass Nat) (r : Nat) : ShareOut :=
  priorityLevels.foldl (serveLevel cs wants) { given := perClass fun _ => 0, left := r }

/-- The light scale (R170). -/
def lightScaleOf (demand grant : Nat) : Nat := if demand = 0 then 1024 else min 1024 (grant * 1024 / demand)

/-- The servo factor (R170). -/
def servoFactorOf (demand grant : Nat) : Nat := if demand ≤ grant then 1024 else grant * 1024 / demand

/-- The published set of an allocation (R167 to R170). -/
def allocationOf (cfg : PbaCfg) (winchMin : Nat) (stage : Stage) (sweep : BitVec 32) (demand : PerClass Nat) : Allocation :=
  let cs := cfg.classes
  let floors := shareFloors cs (availableCurrent cfg.pmax stage)
  let wants := perClass fun c => wantOf (cs.get c) (demand.get c) (floors.given.get c)
  let shares := shareWants cs wants floors.left
  let grant := perClass fun c => floors.given.get c + shares.given.get c
  { pmax := cfg.pmax, demand := demand, want := wants, grant := grant, available := availableCurrent cfg.pmax stage, stage := stage,
    leftover := shares.left, lightScale := lightScaleOf demand.lights grant.lights,
    servoFactor := servoFactorOf demand.servo grant.servo, starved := decide (grant.winch < winchMin), sweep := sweep }

/-- The allocation at a sweep completion, from the set just published; WNC reads it at its next update (R102, R169). -/
def allocate (s : State) : State :=
  let x := allocationOf s.cfg.pba s.cfg.wnc.minimum s.bmn.pub.stage s.bmn.pub.sweep (demandsOf s)
  (s.withPba { pub := x, allocated := true }).withWnc { s.wnc with grantUnread := true }

/-- Before the first allocation the published grants follow the floors in force (R163). -/
def followFloors (s : State) : State :=
  if s.pba.allocated then s
  else s.withPba { s.pba with pub := { s.pba.pub with grant := floorsOf s.cfg.pba.classes } }

/-! ## BUDGET_CLASS and GET_BUDGET -/

/-- The record that a BUDGET_CLASS asks for, clamped (R164). -/
def askedClass (p : Payload) : ClassRecord :=
  { priority := min (u8At p 1) 7, floor := min (u16At p 2) 20000, ceiling := min (u32At p 4) 120000 }

/-- A value of a BUDGET_CLASS was clamped (R164). -/
def classClamped (p : Payload) : Bool :=
  decide (7 < u8At p 1) || decide (20000 < u16At p 2) || decide (120000 < u32At p 4)

/-- The five floors fit under half of a Pmax (R163, R164). -/
def floorsFit (cs : PerClass ClassRecord) (pmax : Nat) : Bool := decide ((floorsOf cs).sum ≤ pmax / 2)

/-- The fields of a BUDGET_CLASS reply on a class (R164). -/
def budgetClassReply (c : ResultCode) (n : Nat) (id : ClassId) (s : State) : List Field :=
  let r := s.cfg.pba.classes.get id
  [rc c, .u8 n, .u8 r.priority, .u16 r.floor, .u32 r.ceiling, .u32 (floorsOf s.cfg.pba.classes).sum]

/-- A BUDGET_CLASS that names no class: priority, floor and ceiling are free (R164; log 3). -/
def budgetNoClass (c : ResultCode) (p : Payload) (s : State) : State × List Field :=
  (s.useFree 3, [rc c, .u8 (u8At p 0), .u8 (s.free 0), .u16 (s.free 1), .u32 (s.free 2),
    .u32 (floorsOf s.cfg.pba.classes).sum])

/-- PBA's part of a BUDGET_CLASS (R164). -/
def budgetClassOwner (p : Payload) (s : State) : State × List Field :=
  match classOf (u8At p 0) with
  | none => budgetNoClass (if storeRunning s then .busy else .badValue) p s
  | some id =>
    let reply := fun (c : ResultCode) (t : State) => budgetClassReply c (u8At p 0) id t
    if storeRunning s then (s, reply .busy s)
    else
      let r := askedClass p
      let cs := s.cfg.pba.classes.set id r
      if r.ceiling < r.floor || !floorsFit cs s.cfg.pba.pmax then (s, reply .badValue s)
      else
        let s' := followFloors (s.withCfg { s.cfg with pba := { s.cfg.pba with classes := cs } })
        (s', reply (if classClamped p then .clamped else .ok) s')

/-- The Pmax of the last published set; before the first allocation, for which R163 names none, the Pmax in force (R171; DESIGN
CHOICE, log 40). -/
def publishedPmax (s : State) : Nat := if s.pba.allocated then s.pba.pub.pmax else s.cfg.pba.pmax

/-- PBA's part of a GET_BUDGET (R171). -/
def getBudgetOwner (s : State) : State × List Field :=
  let a := s.pba.pub
  let recs := classOrder.flatMap fun c =>
    let r := s.cfg.pba.classes.get c
    [Field.u8 r.priority, .u16 r.floor, .u32 r.ceiling]
  let lasts := classOrder.flatMap fun c => [Field.u32 (a.demand.get c), .u32 (a.want.get c), .u32 (a.grant.get c)]
  (s, [rc .ok, .u32 a.sweep.toNat, .u8 a.stage.code, .u32 (publishedPmax s), .u32 a.available, .u32 a.leftover,
      .u16 a.lightScale, .u16 a.servoFactor, flag a.starved] ++ recs ++ lasts)

/-! ## The commands -/

/-- BUDGET_CLASS (R164). -/
def execBudgetClass (p : Payload) (s : State) : Host.Outcome State Fault Refusal := .next (taking 0x3C p (budgetClassOwner p) s)

/-- GET_BUDGET (R171). -/
def execGetBudget (p : Payload) (s : State) : Host.Outcome State Fault Refusal := .next (taking 0x3D p getBudgetOwner s)

end Sys2Proof.Machine
end

