-- ==== Sys2Proof/Machine/Battery.lean ====
section
/-! DEFINITION. Chapter 8: the battery monitor. -/

namespace Sys2Proof.Machine

/-! ## The sweep -/

/-- The samples held at the top of each range (R144). -/
def saturateSamples (x : SweepSamples) : SweepSamples :=
  { pack := min x.pack 25000, tap1 := min x.tap1 5000, tap2 := min x.tap2 10000, tap3 := min x.tap3 15000,
    packCurrent := min x.packCurrent 120000, servoRail := min x.servoRail 65000, df := min x.df 65000,
    dr := min x.dr 65000, winch := min x.winch 65000 }

/-- AUTO's cell count: pack / 4350 rounded up, limited to 2..4 (R145). -/
def autoCellCount (pack : Nat) : Nat := max 2 (min ((pack + 4349) / 4350) 4)

/-- The filters and tap fault run counters emptied (R145, R148). -/
def emptyFilters (b : Bmn) : Bmn := { b with filters := Vector.replicate 4 [], badRun := 0, goodRun := 0 }

/-- The cell count in force from this completion on (R145). -/
def sweepCellCount (cfg : BmnCfg) (pack : Nat) (b : Bmn) : Nat :=
  if cfg.cellCount ≠ 0 then cfg.cellCount else if b.autoPending then autoCellCount pack else b.cellCount

/-- The cell count step: a change of N empties the filters and the run counters (R145). -/
def cellCountStep (cfg : BmnCfg) (pack : Nat) (b : Bmn) : Bmn :=
  let n := sweepCellCount cfg pack b
  let auto := if cfg.cellCount ≠ 0 then false else b.autoPending || b.auto
  { (if n = b.cellCount then b else emptyFilters b) with cellCount := n, auto := auto, autoPending := false }

/-- The reading of tap `k` (R146). -/
def tapOf (x : SweepSamples) (k : Nat) : Nat :=
  match k with
  | 1 => x.tap1
  | 2 => x.tap2
  | _ => x.tap3

/-- Some expected tap, 1 to N − 1, reads below 500 mV (R148). -/
def tapLow (x : SweepSamples) (n : Nat) : Bool := (List.range (n - 1)).any fun i => decide (tapOf x (i + 1) < 500)

/-- The tap fault check: 25 bad sweeps set the flag, 25 good ones clear it (R148). -/
def tapFaultStep (x : SweepSamples) (b : Bmn) : Bmn :=
  let bad := if tapLow x b.cellCount then min (b.badRun + 1) 255 else 0
  let good := if tapLow x b.cellCount then 0 else min (b.goodRun + 1) 255
  if !b.tapFault && decide (25 ≤ bad) then { emptyFilters b with tapFault := true }
  else if b.tapFault && decide (25 ≤ good) then { emptyFilters b with tapFault := false }
  else { b with badRun := bad, goodRun := good }

/-- The raw reading of cell `k` of `n`, counted from 1 (R146). -/
def rawReading (x : SweepSamples) (n : Nat) (fault : Bool) (k : Nat) : Nat :=
  if fault then x.pack / n
  else if k = 1 then x.tap1
  else if k < n then tapOf x k - tapOf x (k - 1)
  else x.pack - tapOf x (n - 1)

/-- A filter with a new reading, at most four entries (R147). -/
def pushReading (f : List Nat) (r : Nat) : List Nat := if 4 ≤ f.length then f.tail ++ [r] else f ++ [r]

/-- The filtered voltage of a cell (R147). -/
def filteredMv (f : List Nat) : Nat := f.sum / f.length

/-- The filters of the N cells each take their raw reading (R146, R147). -/
def filterStep (x : SweepSamples) (b : Bmn) : Bmn :=
  { b with
    filters := Vector.ofFn fun i : Fin 4 =>
      if i.val < b.cellCount then pushReading b.filters[i] (rawReading x b.cellCount b.tapFault (i.val + 1)) else b.filters[i] }

/-- The sag compensation (R149). -/
def compensation (cfg : BmnCfg) (packCurrent : Nat) : Nat := min (packCurrent * cfg.cellMilliohm / 1000) cfg.compCap

/-- The filtered voltage of cell `k`, counted from 1. -/
def cellMv (b : Bmn) (k : Nat) : Nat := filteredMv (b.filters[k - 1]?.getD [])

/-- The weakest of cells 1 to `n`: the lowest voltage, the lowest number on a tie (R149). -/
def weakestCell (b : Bmn) : Nat → Nat
  | 0 => 1
  | 1 => 1
  | n + 2 => if cellMv b (n + 2) < cellMv b (weakestCell b (n + 1)) then n + 2 else weakestCell b (n + 1)

/-- min Vc: the lowest compensated cell (R149). -/
def lowestCell (cfg : BmnCfg) (packCurrent : Nat) (b : Bmn) : Nat :=
  cellMv b (weakestCell b b.cellCount) + compensation cfg packCurrent

/-- A counter of consecutive sweeps, held at 65535 (R150). -/
def runCount (held : Bool) (n : Nat) : Nat := if held then min (n + 1) 65535 else 0

/-- The worst stage whose worsening counter has reached its dwell; NORMAL if none has (R151). -/
def worstDue (cfg : BmnCfg) (b : Bmn) : Stage :=
  if cfg.cutoffDwell ≤ b.cutoffRun then .cutoff
  else if cfg.stageDwell ≤ b.shedRun then .shed
  else if cfg.stageDwell ≤ b.limitRun then .limit
  else if cfg.stageDwell ≤ b.warnRun then .warn
  else .normal

/-- The threshold of a recovering stage (R150, R152). -/
def stageThreshold (l : BatteryLevels) : Stage → Nat
  | .normal => 0
  | .warn => l.warn
  | .limit => l.limit
  | .shed => l.shed
  | .cutoff => l.cutoff

/-- The stage one step better (R152). -/
def betterStage : Stage → Stage
  | .normal | .warn => .normal
  | .limit => .warn
  | .shed => .limit
  | .cutoff => .cutoff

/-- The stage recovers: WARN, LIMIT and SHED do, NORMAL and CUTOFF do not (R152). -/
def recovers : Stage → Bool
  | .warn | .limit | .shed => true
  | .normal | .cutoff => false

/-- The four worsening counters after a sweep (R151). -/
def worseningStep (cfg : BmnCfg) (v : Nat) (b : Bmn) : Bmn :=
  { b with
    warnRun := runCount (decide (v < cfg.levels.warn)) b.warnRun
    limitRun := runCount (decide (v < cfg.levels.limit)) b.limitRun
    shedRun := runCount (decide (v < cfg.levels.shed)) b.shedRun
    cutoffRun := runCount (decide (v < cfg.levels.cutoff)) b.cutoffRun }

/-- The stage after the counters: worsening first, otherwise recovery (R151, R152). -/
def stageStep (cfg : BmnCfg) (v : Nat) (b : Bmn) : Bmn :=
  if b.stage.code < (worstDue cfg b).code then { b with stage := worstDue cfg b, recoverRun := 0 }
  else if recovers b.stage then
    let r := runCount (decide (stageThreshold cfg.levels b.stage + cfg.levels.hysteresis ≤ v)) b.recoverRun
    if cfg.recoverDwell ≤ r then { b with stage := betterStage b.stage, recoverRun := 0 } else { b with recoverRun := r }
  else { b with recoverRun := 0 }

/-- The charge accumulator after a sweep, held at 65535 mAh (R158). -/
def chargeAfter (packCurrent charge : Nat) : Nat := min (charge + packCurrent * 20) 235926000000

/-- The used charge in mAh (R158). -/
def usedCharge (charge : Nat) : Nat := charge / 3600000

/-- The remaining charge in percent, 255 when the capacity is unknown (R158). -/
def remainingPercent (capacity used : Nat) : Nat :=
  if capacity = 0 then 255 else if used < capacity then (capacity - used) * 100 / capacity else 0

/-- The cell places of the published set (R159). -/
def cellPlaces (b : Bmn) : Vector CellPlace 4 :=
  Vector.ofFn fun i : Fin 4 =>
    if i.val < b.cellCount then { mv := filteredMv b.filters[i], entries := b.filters[i].length } else { mv := 0, entries := 0 }

/-- The set published at a completion (R144, R149, R158). -/
def publishedSet (cfg : BmnCfg) (x : SweepSamples) (v : Nat) (b : Bmn) : BatterySet :=
  { sweep := b.pub.sweep + 1, stage := b.stage, pack := x.pack, tap1 := x.tap1, tap2 := x.tap2, tap3 := x.tap3,
    packCurrent := x.packCurrent, servoRail := x.servoRail, df := x.df, dr := x.dr, winch := x.winch, cells := cellPlaces b,
    comp := compensation cfg x.packCurrent, minVc := v, weakest := weakestCell b b.cellCount, usedMah := usedCharge b.charge,
    remaining := remainingPercent cfg.capacity (usedCharge b.charge) }

/-- BMN's cells after the count, the tap check and the filters of a completion (R144). -/
def cellsStep (cfg : BmnCfg) (x : SweepSamples) (b : Bmn) : Bmn :=
  filterStep x (tapFaultStep x (cellCountStep cfg x.pack b))

/-- BMN's record after a sweep completion with saturated samples, in the order of R144. -/
def bmnSweep (cfg : BmnCfg) (x : SweepSamples) (b : Bmn) : Bmn :=
  let b1 := cellsStep cfg x b
  let v := lowestCell cfg x.packCurrent b1
  let b2 := stageStep cfg v (worseningStep cfg v b1)
  let b3 := { b2 with charge := chargeAfter x.packCurrent b2.charge }
  { b3 with pub := publishedSet cfg x v b3 }

/-- The STAGE_CHANGE report (R153). -/
def stageChangeReport (old new : Stage) (minVc : Nat) : TxFrame :=
  { type := 0xE1, fields := [.u8 old.code, .u8 new.code, .u16 minVc] }

/-- A stage change is reported; one to CUTOFF then sends cutoff-entry to CSC (R153). -/
def reportStage (old : Stage) (s : State) : State :=
  if s.bmn.stage = old then s
  else
    let s' := postReport (stageChangeReport old s.bmn.stage s.bmn.pub.minVc) s
    if s.bmn.stage = .cutoff then enterCutoff s' else s'

/-- BMN's record after the completion of a sweep that measured `x`. -/
def sweptBmn (x : SweepSamples) (s : State) : Bmn := bmnSweep s.cfg.bmn (saturateSamples x) s.bmn

/-- A sweep completion: BMN's steps, the stage change and its consequences, then the allocation (R144, R153, R166). -/
def sweepComplete (x : SweepSamples) (s : State) : State := allocate (reportStage s.bmn.stage (s.withBmn (sweptBmn x s)))

/-- The tap fault flag changes at the sweep now completed (R148). -/
def tapFaultDue (x : SweepSamples) (s : State) : Bool := decide ((sweptBmn x s).tapFault ≠ s.bmn.tapFault)

/-- The stage worsens at the sweep now completed (R151). -/
def stageWorsenDue (x : SweepSamples) (s : State) : Bool := decide (s.bmn.stage.code < (sweptBmn x s).stage.code)

/-- The stage recovers at the sweep now completed (R152). -/
def stageRecoverDue (x : SweepSamples) (s : State) : Bool := decide ((sweptBmn x s).stage.code < s.bmn.stage.code)

/-! ## The release -/

/-- The five counters of the stages set to 0 (R154, R155, R162). -/
def zeroStageRuns (b : Bmn) : Bmn := { b with warnRun := 0, limitRun := 0, shedRun := 0, cutoffRun := 0, recoverRun := 0 }

/-- The release level: the SHED threshold plus the hysteresis (R13, R154). -/
def releaseLevel (s : State) : Nat := s.cfg.bmn.levels.shed + s.cfg.bmn.levels.hysteresis

/-- The release check (R154). -/
def releasePasses (s : State) : Bool := decide (releaseLevel s ≤ s.bmn.pub.minVc)

/-- BMN's record after an accepted release (R154). -/
def releasedBmn (b : Bmn) : Bmn := { zeroStageRuns b with stage := .shed, pub := { b.pub with stage := .shed } }

/-- An accepted release: STAGE_CHANGE, then STANDBY and STATE_CHANGE; the lights are freed (R13, R126, R154). -/
def releaseCutoff (s : State) : State :=
  lightsRelease (moveChassis .standby .release
    (postReport (stageChangeReport .cutoff .shed s.bmn.pub.minVc) (s.withBmn (releasedBmn s.bmn))))

/-- The fields of a CUTOFF_RELEASE reply (R13). -/
def releaseReply (c : ResultCode) (s : State) : List Field :=
  [rc c, .u8 s.csc.chassis.code, .u16 s.bmn.pub.minVc, .u16 (releaseLevel s)]

/-- CSC's and BMN's part of a CUTOFF_RELEASE (R13, R154). -/
def cutoffReleaseOwner (s : State) : State × List Field :=
  match s.csc.chassis with
  | .cutoff =>
    if releasePasses s then (releaseCutoff s, releaseReply .ok (releaseCutoff s)) else (s, releaseReply .lowBattery s)
  | .standby | .run | .hold | .failsafe => (s, releaseReply .wrongState s)

/-! ## Levels and the protect lock -/

/-- The levels that a BATTERY_LEVELS asks for, the hysteresis clamped (R155). -/
def askedLevels (p : Payload) : BatteryLevels :=
  { warn := u16At p 0, limit := u16At p 2, shed := u16At p 4, cutoff := u16At p 6, hysteresis := max 20 (min (u16At p 8) 300) }

/-- The four thresholds are a set in 2500..4300, each at least 50 below the one before it (R155). -/
def levelsValid (l : BatteryLevels) : Bool :=
  decide (l.warn ≤ 4300 ∧ 2500 ≤ l.cutoff ∧ l.limit + 50 ≤ l.warn ∧ l.shed + 50 ≤ l.limit ∧ l.cutoff + 50 ≤ l.shed)

/-- The five battery levels as fields (R155, R159). -/
def levelFields (l : BatteryLevels) : List Field :=
  [.u16 l.warn, .u16 l.limit, .u16 l.shed, .u16 l.cutoff, .u16 l.hysteresis]

/-- The levels replaced; the stage counters become 0 (R155). -/
def setLevels (l : BatteryLevels) (s : State) : State :=
  (s.withCfg { s.cfg with bmn := { s.cfg.bmn with levels := l } }).withBmn (zeroStageRuns s.bmn)

/-- BMN's part of a BATTERY_LEVELS (R155, R156). -/
def batteryLevelsOwner (strap : PinLevel) (p : Payload) (s : State) : State × List Field :=
  let reply := fun (c : ResultCode) (t : State) => rc c :: levelFields t.cfg.bmn.levels
  if storeRunning s then (s, reply .busy s)
  else if lockActive strap s then (s, reply .locked s)
  else
    let l := askedLevels p
    if levelsValid l then
      let s' := setLevels l s
      (s', reply (if l.hysteresis = u16At p 8 then .ok else .clamped) s')
    else (s, reply .badValue s)

/-- The lock fields: flag, strap level and lock-active state (R157, R159). -/
def lockFields (strap : PinLevel) (s : State) : List Field :=
  [flag s.cfg.bmn.lockFlag, flag (decide (strap = .high)), flag (lockActive strap s)]

/-- The protect lock flag replaced. -/
def setLockFlag (b : Bool) (s : State) : State := s.withCfg { s.cfg with bmn := { s.cfg.bmn with lockFlag := b } }

/-- BMN's part of a PROT_LOCK (R157). -/
def protLockOwner (strap : PinLevel) (p : Payload) (s : State) : State × List Field :=
  let v := u8At p 0
  let r : State × ResultCode :=
    if storeRunning s then (s, .busy)
    else if 1 < v then (s, .badValue)
    else if v = 1 then (setLockFlag true s, .ok)
    else if lockActive strap s then (s, .locked)
    else (setLockFlag false s, .ok)
  (r.1, rc r.2 :: lockFields strap r.1)

/-! ## Queries and reset -/

/-- BMN's part of a GET_CELLS (R159). DEDUCED (log 23): the five levels and the lock are those in force at the taking. -/
def getCellsOwner (strap : PinLevel) (s : State) : State × List Field :=
  let b := s.bmn.pub
  (s, [rc .ok, .u32 b.sweep.toNat, .u8 s.bmn.cellCount, flag s.bmn.auto, flag s.bmn.tapFault, .u16 b.pack, .u16 b.tap1,
      .u16 b.tap2, .u16 b.tap3, .u32 b.packCurrent] ++
    (b.cells.toList.flatMap fun c => [Field.u16 c.mv, .u8 c.entries]) ++
    [.u16 b.comp, .u16 b.minVc, .u8 b.weakest, .u8 b.stage.code] ++ levelFields s.cfg.bmn.levels ++
    [.u16 b.usedMah, .u8 b.remaining] ++ lockFields strap s)

/-- BMN's record after UNIT_RESET BATTERY (R162). -/
def resetBmn (b : Bmn) : Bmn := { zeroStageRuns b with filters := Vector.replicate 4 [], charge := 0 }

/-! ## The commands -/

/-- CUTOFF_RELEASE (R13, R154). -/
def execCutoffRelease (p : Payload) (s : State) : Host.Outcome State Fault Refusal := .next (taking 0x04 p cutoffReleaseOwner s)

/-- BATTERY_LEVELS (R155). -/
def execBatteryLevels (strap : PinLevel) (p : Payload) (s : State) : Host.Outcome State Fault Refusal :=
  .next (taking 0x38 p (batteryLevelsOwner strap p) s)

/-- PROT_LOCK (R157). -/
def execProtLock (strap : PinLevel) (p : Payload) (s : State) : Host.Outcome State Fault Refusal :=
  .next (taking 0x39 p (protLockOwner strap p) s)

/-- GET_CELLS (R159). -/
def execGetCells (strap : PinLevel) (p : Payload) (s : State) : Host.Outcome State Fault Refusal :=
  .next (taking 0x3A p (getCellsOwner strap) s)

/-- SWEEP_COMPLETION (R144). -/
def execSweepCompletion (x : SweepSamples) (s : State) : Host.Outcome State Fault Refusal := .next (whenRunning (sweepComplete x) s)

/-- TAP_FAULT_CHANGE: the sweep completion at which the tap fault flag changes (R148; log 8). -/
def execTapFaultChange (x : SweepSamples) (s : State) : Host.Outcome State Fault Refusal :=
  .next (whenDue (tapFaultDue x) (sweepComplete x) s)

/-- STAGE_WORSEN: the sweep completion at which the stage worsens (R151; log 8). -/
def execStageWorsen (x : SweepSamples) (s : State) : Host.Outcome State Fault Refusal :=
  .next (whenDue (stageWorsenDue x) (sweepComplete x) s)

/-- STAGE_RECOVER: the sweep completion at which the stage improves (R152; log 8). -/
def execStageRecover (x : SweepSamples) (s : State) : Host.Outcome State Fault Refusal :=
  .next (whenDue (stageRecoverDue x) (sweepComplete x) s)

end Sys2Proof.Machine
end

