-- ==== Sys2Proof/Machine/Params.lean ====
section
/-! DEFINITION. Parameter access: SET_PARAM and GET_PARAM over the parameters of every block. -/

namespace Sys2Proof.Machine

/-! ## The parameters -/

/-- The parameters with an id (R9, R31, R57, R81, R110, R128, R160, R165, R184). -/
inductive ParamId where
  | linkTimeout | holdLinkTimeout
  | ratio | blendMs | turnThreshold | failsafeSteer | powerOnMode
  | fsPeriod | rsPeriod | shPeriod | fsSlew | rsSlew | shSlew | shiftThreshold | shiftWait | shiftSettle | powerOnGear
  | neutral | gainF | gainR | aUp | aDown | drag | driveTrip | assistOn | assistGain | assistCap | failsafeBrake
  | umPerCount | approach | stallWindow | stallCurrent | winchTrip | winchMin
  | fullOn (k : Fin 8)
  | cellCount | cellMilliohm | compCap | stageDwell | cutoffDwell | recoverDwell | capacity
  | pmax
  | baud | telemetryMs
  deriving DecidableEq, Repr

/-- The ids 0x1_ and 0x2_: CSC and SMX (R9, R31). -/
def paramLow : Nat → Option ParamId
  | 0x10 => some .linkTimeout
  | 0x11 => some .holdLinkTimeout
  | 0x20 => some .ratio
  | 0x21 => some .blendMs
  | 0x22 => some .turnThreshold
  | 0x23 => some .failsafeSteer
  | 0x24 => some .powerOnMode
  | _ => none

/-- The ids 0x3_: SPG (R57). -/
def paramServo : Nat → Option ParamId
  | 0x30 => some .fsPeriod
  | 0x31 => some .rsPeriod
  | 0x32 => some .shPeriod
  | 0x33 => some .fsSlew
  | 0x34 => some .rsSlew
  | 0x35 => some .shSlew
  | 0x36 => some .shiftThreshold
  | 0x37 => some .shiftWait
  | 0x38 => some .shiftSettle
  | 0x39 => some .powerOnGear
  | _ => none

/-- The ids 0x4_: DRC (R81). -/
def paramDrive : Nat → Option ParamId
  | 0x40 => some .neutral
  | 0x41 => some .gainF
  | 0x42 => some .gainR
  | 0x43 => some .aUp
  | 0x44 => some .aDown
  | 0x45 => some .drag
  | 0x46 => some .driveTrip
  | 0x47 => some .assistOn
  | 0x48 => some .assistGain
  | 0x49 => some .assistCap
  | 0x4A => some .failsafeBrake
  | _ => none

/-- The ids 0x5_ and 0x6_: WNC and LCU (R110, R128). -/
def paramWinch : Nat → Option ParamId
  | 0x50 => some .umPerCount
  | 0x51 => some .approach
  | 0x52 => some .stallWindow
  | 0x53 => some .stallCurrent
  | 0x54 => some .winchTrip
  | 0x55 => some .winchMin
  | 0x60 => some (.fullOn 0)
  | 0x61 => some (.fullOn 1)
  | 0x62 => some (.fullOn 2)
  | 0x63 => some (.fullOn 3)
  | 0x64 => some (.fullOn 4)
  | 0x65 => some (.fullOn 5)
  | 0x66 => some (.fullOn 6)
  | 0x67 => some (.fullOn 7)
  | _ => none

/-- The ids 0x7_, 0x8_ and 0x9_: BMN, PBA and LIF (R160, R165, R184). -/
def paramHigh : Nat → Option ParamId
  | 0x70 => some .cellCount
  | 0x71 => some .cellMilliohm
  | 0x72 => some .compCap
  | 0x73 => some .stageDwell
  | 0x74 => some .cutoffDwell
  | 0x75 => some .recoverDwell
  | 0x76 => some .capacity
  | 0x80 => some .pmax
  | 0x90 => some .baud
  | 0x91 => some .telemetryMs
  | _ => none

/-- The parameter of an id; none for an id that no chapter lists (R183). The upper digit names the owner. -/
def paramOf (n : Nat) : Option ParamId :=
  match n / 16 with
  | 1 | 2 => paramLow n
  | 3 => paramServo n
  | 4 => paramDrive n
  | 5 | 6 => paramWinch n
  | 7 | 8 | 9 => paramHigh n
  | _ => none

/-- The parameter is refused LOCKED while the protect lock is active: an id of BMN, or Pmax (R156, R183). -/
def ParamId.protected : ParamId → Bool
  | .cellCount | .cellMilliohm | .compCap | .stageDwell | .cutoffDwell | .recoverDwell | .capacity | .pmax => true
  | .linkTimeout | .holdLinkTimeout | .ratio | .blendMs | .turnThreshold | .failsafeSteer | .powerOnMode | .fsPeriod
  | .rsPeriod | .shPeriod | .fsSlew | .rsSlew | .shSlew | .shiftThreshold | .shiftWait | .shiftSettle | .powerOnGear
  | .neutral | .gainF | .gainR | .aUp | .aDown | .drag | .driveTrip | .assistOn | .assistGain | .assistCap
  | .failsafeBrake | .umPerCount | .approach | .stallWindow | .stallCurrent | .winchTrip | .winchMin | .fullOn _ | .baud
  | .telemetryMs => false

/-! ## Ranges -/

/-- A frame period brought to an allowed value: 3, 5, 10 or 20 (R57). -/
def periodClamp (v : Int) : Int := if v < 5 then 3 else if v < 10 then 5 else if v < 20 then 10 else 20

/-- A blend length clamped to 0..2000, then truncated to a multiple of 10 (R31). -/
def blendClamp (v : Int) : Int := 10 * Int.tdiv (clampInt 0 2000 v) 10

/-- A cell count brought to an allowed value: 0, 2, 3 or 4 (R160). -/
def cellClamp (v : Int) : Int := if v ≤ 0 then 0 else clampInt 2 4 v

/-- A telemetry period brought to 0 or 20..1000 (R184). -/
def telemetryClamp (v : Int) : Int := if v ≤ 0 then 0 else clampInt 20 1000 v

/-- The value clamped into the parameter's range (R9, R31, R57, R81, R110, R128, R160, R165, R184). -/
def paramClamp : ParamId → Int → Int
  | .linkTimeout => clampInt 100 2000
  | .holdLinkTimeout => clampInt 250 10000
  | .ratio => clampInt 0 2048
  | .blendMs => blendClamp
  | .turnThreshold => clampInt 100 1000
  | .failsafeSteer => clampInt 0 1
  | .powerOnMode => clampInt 0 3
  | .fsPeriod | .rsPeriod | .shPeriod => periodClamp
  | .fsSlew | .rsSlew | .shSlew => clampInt 0 16000
  | .shiftThreshold => clampInt 0 300
  | .shiftWait => clampInt 200 5000
  | .shiftSettle => clampInt 0 1000
  | .powerOnGear => clampInt 0 1
  | .neutral => clampInt 0 100
  | .gainF | .gainR => clampInt 0 1200
  | .aUp | .aDown => clampInt 1 1000
  | .drag => clampInt 0 1000
  | .driveTrip => clampInt 10000 65000
  | .assistOn => clampInt 0 1
  | .assistGain => clampInt 0 100
  | .assistCap => clampInt 0 500
  | .failsafeBrake => clampInt 0 1
  | .umPerCount => clampInt 10 5000
  | .approach => clampInt 0 20000
  | .stallWindow => clampInt 100 2000
  | .stallCurrent => clampInt 1000 30000
  | .winchTrip => clampInt 5000 65000
  | .winchMin => clampInt 0 5000
  | .fullOn _ => clampInt 0 2000
  | .cellCount => cellClamp
  | .cellMilliohm => clampInt 0 50
  | .compCap => clampInt 0 600
  | .stageDwell => clampInt 1 250
  | .cutoffDwell | .recoverDwell => clampInt 10 1000
  | .capacity => clampInt 0 20000
  | .pmax => clampInt 5000 120000
  | .baud => clampInt 0 3
  | .telemetryMs => telemetryClamp

/-! ## Reading and writing -/

/-- Code of the FAILSAFE steering option (R31). -/
def FailsafeSteer.code : FailsafeSteer → Nat
  | .center => 0
  | .holdAngle => 1

/-- The FAILSAFE steering option of a value in 0..1 (R31). -/
def failsafeSteerOf (v : Nat) : FailsafeSteer := if v = 0 then .center else .holdAngle

/-- The value of a parameter in the working configuration (R183). -/
def readParam (c : WorkingConfig) : ParamId → Nat
  | .linkTimeout => c.csc.linkTimeout
  | .holdLinkTimeout => c.csc.holdLinkTimeout
  | .ratio => c.smx.ratio
  | .blendMs => c.smx.blendMs
  | .turnThreshold => c.smx.turnThreshold
  | .failsafeSteer => c.smx.failsafeSteer.code
  | .powerOnMode => c.smx.powerOnMode.code
  | .fsPeriod => c.spg.fsPeriod
  | .rsPeriod => c.spg.rsPeriod
  | .shPeriod => c.spg.shPeriod
  | .fsSlew => c.spg.fsSlew
  | .rsSlew => c.spg.rsSlew
  | .shSlew => c.spg.shSlew
  | .shiftThreshold => c.spg.shiftThreshold
  | .shiftWait => c.spg.shiftWait
  | .shiftSettle => c.spg.shiftSettle
  | .powerOnGear => c.spg.powerOnGear.code
  | .neutral => c.drc.neutral
  | .gainF => c.drc.gainF
  | .gainR => c.drc.gainR
  | .aUp => c.drc.aUp
  | .aDown => c.drc.aDown
  | .drag => c.drc.drag
  | .driveTrip => c.drc.tripLevel
  | .assistOn => c.drc.assistOn.toNat
  | .assistGain => c.drc.assistGain
  | .assistCap => c.drc.assistCap
  | .failsafeBrake => c.drc.failsafeBrake.toNat
  | .umPerCount => c.wnc.umPerCount
  | .approach => c.wnc.approach
  | .stallWindow => c.wnc.stallWindow
  | .stallCurrent => c.wnc.stallCurrent
  | .winchTrip => c.wnc.tripLevel
  | .winchMin => c.wnc.minimum
  | .fullOn k => c.lcu.maps[k].fullOn
  | .cellCount => c.bmn.cellCount
  | .cellMilliohm => c.bmn.cellMilliohm
  | .compCap => c.bmn.compCap
  | .stageDwell => c.bmn.stageDwell
  | .cutoffDwell => c.bmn.cutoffDwell
  | .recoverDwell => c.bmn.recoverDwell
  | .capacity => c.bmn.capacity
  | .pmax => c.pba.pmax
  | .baud => c.lif.baud
  | .telemetryMs => c.lif.telemetryMs

/-- The full-on current of one map replaced; nothing else of the channel changes (R128). -/
def setFullOn (c : LcuCfg) (k : Fin 8) (v : Nat) : LcuCfg :=
  { c with maps := c.maps.set k { c.maps[k] with fullOn := v } }

/-- The working configuration with a parameter replaced by a value already in its range (R183). -/
def writeParam (c : WorkingConfig) (i : ParamId) (v : Nat) : WorkingConfig :=
  match i with
  | .linkTimeout => { c with csc := { c.csc with linkTimeout := v } }
  | .holdLinkTimeout => { c with csc := { c.csc with holdLinkTimeout := v } }
  | .ratio => { c with smx := { c.smx with ratio := v } }
  | .blendMs => { c with smx := { c.smx with blendMs := v } }
  | .turnThreshold => { c with smx := { c.smx with turnThreshold := v } }
  | .failsafeSteer => { c with smx := { c.smx with failsafeSteer := failsafeSteerOf v } }
  | .powerOnMode => { c with smx := { c.smx with powerOnMode := (steerModeOf v).getD .front } }
  | .fsPeriod => { c with spg := { c.spg with fsPeriod := v } }
  | .rsPeriod => { c with spg := { c.spg with rsPeriod := v } }
  | .shPeriod => { c with spg := { c.spg with shPeriod := v } }
  | .fsSlew => { c with spg := { c.spg with fsSlew := v } }
  | .rsSlew => { c with spg := { c.spg with rsSlew := v } }
  | .shSlew => { c with spg := { c.spg with shSlew := v } }
  | .shiftThreshold => { c with spg := { c.spg with shiftThreshold := v } }
  | .shiftWait => { c with spg := { c.spg with shiftWait := v } }
  | .shiftSettle => { c with spg := { c.spg with shiftSettle := v } }
  | .powerOnGear => { c with spg := { c.spg with powerOnGear := (gearOf v).getD .low } }
  | .neutral => { c with drc := { c.drc with neutral := v } }
  | .gainF => { c with drc := { c.drc with gainF := v } }
  | .gainR => { c with drc := { c.drc with gainR := v } }
  | .aUp => { c with drc := { c.drc with aUp := v } }
  | .aDown => { c with drc := { c.drc with aDown := v } }
  | .drag => { c with drc := { c.drc with drag := v } }
  | .driveTrip => { c with drc := { c.drc with tripLevel := v } }
  | .assistOn => { c with drc := { c.drc with assistOn := decide (v = 1) } }
  | .assistGain => { c with drc := { c.drc with assistGain := v } }
  | .assistCap => { c with drc := { c.drc with assistCap := v } }
  | .failsafeBrake => { c with drc := { c.drc with failsafeBrake := decide (v = 1) } }
  | .umPerCount => { c with wnc := { c.wnc with umPerCount := v } }
  | .approach => { c with wnc := { c.wnc with approach := v } }
  | .stallWindow => { c with wnc := { c.wnc with stallWindow := v } }
  | .stallCurrent => { c with wnc := { c.wnc with stallCurrent := v } }
  | .winchTrip => { c with wnc := { c.wnc with tripLevel := v } }
  | .winchMin => { c with wnc := { c.wnc with minimum := v } }
  | .fullOn k => { c with lcu := setFullOn c.lcu k v }
  | .cellCount => { c with bmn := { c.bmn with cellCount := v } }
  | .cellMilliohm => { c with bmn := { c.bmn with cellMilliohm := v } }
  | .compCap => { c with bmn := { c.bmn with compCap := v } }
  | .stageDwell => { c with bmn := { c.bmn with stageDwell := v } }
  | .cutoffDwell => { c with bmn := { c.bmn with cutoffDwell := v } }
  | .recoverDwell => { c with bmn := { c.bmn with recoverDwell := v } }
  | .capacity => { c with bmn := { c.bmn with capacity := v } }
  | .pmax => { c with pba := { c.pba with pmax := v } }
  | .baud => { c with lif := { c.lif with baud := v } }
  | .telemetryMs => { c with lif := { c.lif with telemetryMs := v } }

/-! ## The telemetry schedule -/

/-- The telemetry schedule starts again from now with the period in force; a period of 0 stops it (R186). -/
def restartTelemetry (s : State) : State :=
  s.withLif { s.lif with telNext := telemetryStart s.now s.cfg.lif.telemetryMs }

/-! ## The requests -/

/-- The further check an owner makes: the floors fit under half of a new Pmax (R165, R183). -/
def ownerCheck (i : ParamId) (v : Nat) (s : State) : Bool :=
  match i with
  | .pmax => floorsFit s.cfg.pba.classes v
  | _ => true

/-- A parameter takes a value of its range; the telemetry period restarts its schedule (R183, R186). -/
def setParam (i : ParamId) (v : Nat) (s : State) : State :=
  let s' := s.withCfg (writeParam s.cfg i v)
  if i = .telemetryMs then restartTelemetry s' else s'

/-- The fields of a SET_PARAM or GET_PARAM reply on a listed id (R183). -/
def paramReply (c : ResultCode) (n : Nat) (i : ParamId) (s : State) : List Field := [rc c, .u8 n, .i32 (readParam s.cfg i)]

/-- A SET_PARAM on a listed id while no store runs, in the order of R183. -/
def setListed (strap : PinLevel) (n : Nat) (i : ParamId) (asked : Int) (s : State) : State × List Field :=
  let v := paramClamp i asked
  if i.protected && lockActive strap s then (s, paramReply .locked n i s)
  else if !ownerCheck i v.toNat s then (s, paramReply .badValue n i s)
  else
    let s' := setParam i v.toNat s
    (s', paramReply (if v = asked then .ok else .clamped) n i s')

/-- The owner's part of a SET_PARAM (R183). For an unlisted id while a store runs the value is free (log 3). -/
def setParamOwner (strap : PinLevel) (p : Payload) (s : State) : State × List Field :=
  let n := u8At p 0
  match paramOf n with
  | none =>
    if storeRunning s then (s.useFree 1, [rc .busy, .u8 n, .i32 (s.free 0)]) else (s, [rc .badValue, .u8 n, .i32 0])
  | some i => if storeRunning s then (s, paramReply .busy n i s) else setListed strap n i (i32At p 1) s

/-- The owner's part of a GET_PARAM (R183). -/
def getParamOwner (p : Payload) (s : State) : State × List Field :=
  match paramOf (u8At p 0) with
  | none => (s, [rc .badValue, .u8 (u8At p 0), .i32 0])
  | some i => (s, paramReply .ok (u8At p 0) i s)

/-! ## The commands -/

/-- SET_PARAM (R183). -/
def execSetParam (strap : PinLevel) (p : Payload) (s : State) : Host.Outcome State Fault Refusal :=
  .next (taking 0x40 p (setParamOwner strap p) s)

/-- GET_PARAM (R183). -/
def execGetParam (p : Payload) (s : State) : Host.Outcome State Fault Refusal := .next (taking 0x41 p (getParamOwner p) s)

end Sys2Proof.Machine
end

