-- ==== Sys2Proof/Machine/Profile.lean ====
section
/-! DEFINITION. Chapter 11: power, storing, restoring and unit resets. -/

namespace Sys2Proof.Machine

/-! ## Power -/

/-- A store in progress is abandoned: the image it was writing fails its check (R188). -/
def abandonStore (p : Pst) : Pst :=
  match p.writing with
  | some _ => { p with stored := .failsCheck, writing := none }
  | none => p

/-- Power-on: the stored image is loaded and every block takes its power-on values (R188). The free values and the waiting
commands are the model's own and go on. -/
def powerOn (enc : EncoderPins) (s : State) : State :=
  State.powerOn (abandonStore s.pst).stored enc s.freeIndex s.pending

/-- The part leaves the running state; every block stops and a store is abandoned (R188). -/
def stopPart (p : Power) (s : State) : State := { s with power := p, pst := abandonStore s.pst }

/-! ## Storing -/

/-- The stage of the last completed sweep refuses a store (R189). -/
def storeTooLow (s : State) : Bool := decide (3 ≤ s.bmn.pub.stage.code)

/-- The store state code (R189). -/
def storeCode (s : State) : Nat := if storeRunning s then 1 else 0

/-- The fields of a PROFILE_STORE reply (R189). -/
def storeReply (c : ResultCode) (s : State) : List Field := [rc c, .u8 (storeCode s)]

/-- PST's part of a PROFILE_STORE (R189). -/
def profileStoreOwner (s : State) : State × List Field :=
  if storeRunning s then (s, storeReply .busy s)
  else if storeTooLow s then (s, storeReply .lowBattery s)
  else
    let s' := s.withPst { s.pst with writing := some { snapshot := s.cfg, acceptedAt := s.now } }
    (s', storeReply .ok s')

/-- The PROFILE_END report (R189). DEDUCED (log 5): its result is a u8, as every result code with a stated width is. -/
def profileEndReport (result elapsed : Nat) : TxFrame := { type := 0xE5, fields := [.u8 result, .u16 elapsed] }

/-- PST's record after a completion with the outcome of the read-back (R189). DEDUCED (log 12): an image that does not read back
fails its check at the next power-on. -/
def completedPst (ok : Bool) (w : StoreWrite) (p : Pst) : Pst :=
  if ok then { stored := .passes w.snapshot, writing := none, valid := true, defaulted := false }
  else { p with stored := .failsCheck, writing := none, valid := false }

/-- The completion of a profile store (R189). -/
def completeStore (ok : Bool) (s : State) : State :=
  match s.pst.writing with
  | none => s
  | some w => postReport (profileEndReport (if ok then 0 else 1) (s.now - w.acceptedAt)) (s.withPst (completedPst ok w s.pst))

/-! ## Restoring -/

/-- The class records are kept: the lock is active and the restored floors would exceed half the kept Pmax (R172). -/
def classesKept (strap : PinLevel) (new : WorkingConfig) (s : State) : Bool :=
  lockActive strap s && !floorsFit new.pba.classes s.cfg.pba.pmax

/-- PBA's part of the configuration after a restore (R172). -/
def restoredPba (strap : PinLevel) (new : WorkingConfig) (s : State) : PbaCfg :=
  { classes := if classesKept strap new s then s.cfg.pba.classes else new.pba.classes
    pmax := if lockActive strap s then s.cfg.pba.pmax else new.pba.pmax }

/-- The working configuration after a restore: endpoints in force stay until the next frame starts (R58); the lock keeps the
battery part and Pmax (R161, R172). -/
def restoredCfg (strap : PinLevel) (new : WorkingConfig) (s : State) : WorkingConfig :=
  { new with
    spg := { new.spg with fsEnds := s.cfg.spg.fsEnds, rsEnds := s.cfg.spg.rsEnds, shEnds := s.cfg.spg.shEnds }
    bmn := if lockActive strap s then s.cfg.bmn else new.bmn
    pba := restoredPba strap new s }

/-- The five stage counters become 0 where the levels are replaced (R161). -/
def restoredRuns (strap : PinLevel) (s : State) (b : Bmn) : Bmn := if lockActive strap s then b else zeroStageRuns b

/-- A restore that is carried out, as one action (R190). -/
def restore (strap : PinLevel) (new : WorkingConfig) (s : State) : State :=
  let s1 := (s.withCfg (restoredCfg strap new s)).withBmn (restoredRuns strap s s.bmn)
  let s2 := acceptRestoredEnds new.spg (closeAllLoads s1)
  restartTelemetry (followFloors (lightsRestored (limitCheck s2)))

/-- A refused restore: the two flags are 0 with no active lock, otherwise free (R190; log 3). -/
def restoreRefusal (strap : PinLevel) (c : ResultCode) (s : State) : State × List Field :=
  if lockActive strap s then (s.useFree 2, [rc c, .u8 (s.free 0), .u8 (s.free 1)]) else (s, [rc c, flag false, flag false])

/-- A restore carried out, with its reply (R190). -/
def restoreAnswer (strap : PinLevel) (new : WorkingConfig) (s : State) : State × List Field :=
  (restore strap new s, [rc .ok, flag (lockActive strap s), flag (classesKept strap new s)])

/-- The configuration that a PROFILE_RESTORE copies, while the profile-valid flag is true (R190). -/
def storedConfig (p : Pst) : Option WorkingConfig :=
  match p.valid, p.stored with
  | true, .passes c => some c
  | _, _ => none

/-- PST's part of a PROFILE_RESTORE (R190). -/
def profileRestoreOwner (strap : PinLevel) (s : State) : State × List Field :=
  if storeRunning s then restoreRefusal strap .busy s
  else if s.csc.chassis = .run then restoreRefusal strap .wrongState s
  else match storedConfig s.pst with
    | none => restoreRefusal strap .wrongState s
    | some c => restoreAnswer strap c s

/-- PST's part of a PROFILE_DEFAULTS (R190). -/
def profileDefaultsOwner (strap : PinLevel) (s : State) : State × List Field :=
  if storeRunning s then restoreRefusal strap .busy s
  else if s.csc.chassis = .run then restoreRefusal strap .wrongState s
  else restoreAnswer strap factoryConfig s

/-! ## Unit resets -/

/-- The units of UNIT_RESET (R191). -/
inductive ResetUnit where
  | steer | drive | winch | lights | battery | link
  deriving DecidableEq, Repr

/-- Unit of a code (R191). -/
def resetUnitOf : Nat → Option ResetUnit
  | 0 => some .steer
  | 1 => some .drive
  | 2 => some .winch
  | 3 => some .lights
  | 4 => some .battery
  | 5 => some .link
  | _ => none

/-- The seven counts set to 0; LIF's other state is kept (R182). -/
def linkUnitReset (s : State) : State := s.withLif { s.lif with counts := zeroCounts }

/-- A unit's reset (R38, R54, R59, R82, R112, R130, R162, R182). -/
def resetUnit (u : ResetUnit) (s : State) : State :=
  match u with
  | .steer => spgUnitReset (smxUnitReset s)
  | .drive => driveUnitReset s
  | .winch => winchUnitReset s
  | .lights => lightsUnitReset s
  | .battery => s.withBmn (resetBmn s.bmn)
  | .link => linkUnitReset s

/-- The reset is refused WRONG_STATE: BATTERY in CUTOFF (R162, R191). -/
def resetRefused (u : ResetUnit) (s : State) : Bool := decide (u = .battery) && decide (s.csc.chassis = .cutoff)

/-- The part of the row of unit `u` in a UNIT_RESET whose payload names `u`, or no unit (R191). -/
def unitResetOwner (u : ResetUnit) (p : Payload) (s : State) : State × List Field :=
  let n := u8At p 0
  match resetUnitOf n with
  | none => (s, [rc .badValue, .u8 n])
  | some _ => if resetRefused u s then (s, [rc .wrongState, .u8 n]) else (resetUnit u s, [rc .ok, .u8 n])

/-- The row of unit `u` takes this payload: one that the request judges without naming a unit, or that names `u` (R191; log 10). -/
def rowTakes (u : ResetUnit) (p : Payload) : Bool :=
  match resetUnitOf (u8At p 0) with
  | none => true
  | some v => decide (v = u) || !lengthAllowed 0x50 p.length

/-- A UNIT_RESET through the row of one unit (R191). -/
def unitReset (u : ResetUnit) (p : Payload) (s : State) : State :=
  if rowTakes u p then taking 0x50 p (unitResetOwner u p) s else s

/-! ## The commands -/

/-- POWER_ON (R188). -/
def execPowerOn (enc : EncoderPins) (s : State) : Host.Outcome State Fault Refusal := .next (powerOn enc s)

/-- RESET_ASSERT: RESET is held low; a part without power stays off (R188). -/
def execResetAssert (s : State) : Host.Outcome State Fault Refusal :=
  .next (if s.power = .off then s else stopPart .resetHeld s)

/-- POWER_LOST (R188). -/
def execPowerLost (s : State) : Host.Outcome State Fault Refusal := .next (stopPart .off s)

/-- PROFILE_STORE (R189). -/
def execProfileStore (p : Payload) (s : State) : Host.Outcome State Fault Refusal := .next (taking 0x48 p profileStoreOwner s)

/-- PROFILE_STORE_COMPLETION (R189). -/
def execProfileStoreCompletion (readBackOk : Bool) (s : State) : Host.Outcome State Fault Refusal :=
  .next (whenDue storeRunning (completeStore readBackOk) s)

/-- PROFILE_RESTORE (R190). -/
def execProfileRestore (strap : PinLevel) (p : Payload) (s : State) : Host.Outcome State Fault Refusal :=
  .next (taking 0x49 p (profileRestoreOwner strap) s)

/-- PROFILE_DEFAULTS (R190). -/
def execProfileDefaults (strap : PinLevel) (p : Payload) (s : State) : Host.Outcome State Fault Refusal :=
  .next (taking 0x4A p (profileDefaultsOwner strap) s)

/-- UNIT_RESET of STEER (R38, R54, R59). -/
def execUnitResetSteer (p : Payload) (s : State) : Host.Outcome State Fault Refusal := .next (unitReset .steer p s)

/-- UNIT_RESET of DRIVE (R82). -/
def execUnitResetDrive (p : Payload) (s : State) : Host.Outcome State Fault Refusal := .next (unitReset .drive p s)

/-- UNIT_RESET of WINCH (R112). -/
def execUnitResetWinch (p : Payload) (s : State) : Host.Outcome State Fault Refusal := .next (unitReset .winch p s)

/-- UNIT_RESET of LIGHTS (R130). -/
def execUnitResetLights (p : Payload) (s : State) : Host.Outcome State Fault Refusal := .next (unitReset .lights p s)

/-- UNIT_RESET of BATTERY (R162). -/
def execUnitResetBattery (p : Payload) (s : State) : Host.Outcome State Fault Refusal := .next (unitReset .battery p s)

/-- UNIT_RESET of LINK (R182). -/
def execUnitResetLink (p : Payload) (s : State) : Host.Outcome State Fault Refusal := .next (unitReset .link p s)

end Sys2Proof.Machine
end

