-- ==== Sys2Proof/Machine/Link.lean ====
section
/-! DEFINITION. Chapter 10: the receiver, breaks, the link timer, the transmitter, telemetry, status and the link counts. -/

namespace Sys2Proof.Machine

/-! ## Characters -/

/-- The majority of the three samples of a bit (R174). -/
def majority (b : BitSamples) : Bool := (b.a && b.b) || (b.a && b.c) || (b.b && b.c)

/-- The three samples of a bit disagree (R174). -/
def disagree (b : BitSamples) : Bool := !(decide (b.a = b.b) && decide (b.b = b.c))

/-- The value of bits, the least significant first. -/
def bitsValue : List Bool → Nat
  | [] => 0
  | b :: rest => b.toNat + 2 * bitsValue rest

/-- The eight data bits by majority (R174). -/
def charByte (c : UartChar) : Byte := BitVec.ofNat 8 (bitsValue (c.data.toList.map majority))

/-- A start bit whose majority is high is a false start (R174). -/
def isFalseStart (c : UartChar) : Bool := majority c.start

/-- The samples disagree in some bit of the character (R174). -/
def isNoisy (c : UartChar) : Bool := disagree c.start || c.data.toList.any disagree || disagree c.stop

/-! ## The receiver -/

/-- What a character completes (R175). -/
inductive RxEvent where
  | none
  | good (f : RxFrame)
  | badCrc
  deriving DecidableEq, Repr

/-- The CRC-8 that a frame with these type and payload bytes must carry (R175). -/
def frameCrc (got : List Byte) : Byte := crc8 (BitVec.ofNat 8 got.length :: got)

/-- The receiver's step on a character, by its state (R175). -/
def receive : Receiver → Byte → Receiver × RxEvent
  | .hunt, b => (if b = 0xC3#8 then .length else .hunt, .none)
  | .length, b => (if 1 ≤ b.toNat ∧ b.toNat ≤ 40 then .body b.toNat [] else .hunt, .none)
  | .body len got, b => (if (got ++ [b]).length = len then .check (got ++ [b]) else .body len (got ++ [b]), .none)
  | .check got, b => (.hunt, if b = frameCrc got then .good { type := got.headD 0, payload := got.tail } else .badCrc)

/-- Steps 1 and 2 of R176: the arrival time is recorded; after a loss, link-regained is sent. -/
def noteGoodFrame (s : State) : State :=
  let s' := s.withLif { s.lif with lastGood := some s.now, loss := false }
  if s.lif.loss then linkRegained s' else s'

/-- Steps 3 and 4 of R176: the frame joins the intake queue, or is counted as an overrun. -/
def queueFrame (f : RxFrame) (s : State) : State :=
  if s.lif.intake.length < 4 then s.withLif { s.lif with intake := s.lif.intake ++ [f] }
  else s.withLif { s.lif with counts := { s.lif.counts with overrun := countUp 255 s.lif.counts.overrun } }

/-- What a character completes is carried out (R175, R176). -/
def finishFrame (e : RxEvent) (s : State) : State :=
  match e with
  | .none => s
  | .good f => queueFrame f (noteGoodFrame s)
  | .badCrc => s.withLif { s.lif with counts := { s.lif.counts with crc := countUp 255 s.lif.counts.crc } }

/-- The gap is timed from the end of a stop bit outside HUNT (R175). -/
def gapStart (now : Nat) (rx : Receiver) : Option Nat := if rx = .hunt then none else some now

/-- The noise count after a character (R174). -/
def countNoise (noisy : Bool) (s : State) : State :=
  if noisy then s.withLif { s.lif with counts := { s.lif.counts with noise := countUp 255 s.lif.counts.noise } } else s

/-- A character with a zero stop bit: the framing count, HUNT, the character unused (R174). -/
def framingError (s : State) : State :=
  s.withLif { s.lif with
    rx := .hunt, gapSince := none, counts := { s.lif.counts with framing := countUp 255 s.lif.counts.framing } }

/-- A byte acts by the receiver's state (R175). -/
def receiveByte (b : Byte) (s : State) : State :=
  let r := receive s.lif.rx b
  finishFrame r.2 (s.withLif { s.lif with rx := r.1, gapSince := gapStart s.now r.1 })

/-- A falling edge that proves a false start ends the gap now timed; the next gap is timed from here (R174, R175; log 11). -/
def falseStart (s : State) : State := s.withLif { s.lif with gapSince := gapStart s.now s.lif.rx }

/-- A character on a line that is not in a break (R174, R175). -/
def receiveChar (c : UartChar) (s : State) : State :=
  if isFalseStart c then falseStart s
  else
    let s' := countNoise (isNoisy c) s
    if majority c.stop then receiveByte (charByte c) s' else framingError s'

/-- A gap of 2 ms has passed outside HUNT (R175). -/
def gapDue (s : State) : Bool :=
  decide (s.lif.rx ≠ .hunt) && (match s.lif.gapSince with | some t => decide (2 ≤ s.now - t) | none => false)

/-- The frame is discarded at a gap (R175). -/
def gapDiscard (s : State) : State :=
  s.withLif { s.lif with
    rx := .hunt, gapSince := none, counts := { s.lif.counts with gap := countUp 255 s.lif.counts.gap } }

/-! ## Losing the link -/

/-- The break's effect on LIF (R178). -/
def breakLif (l : Lif) : Lif :=
  { l with
    rx := .hunt, gapSince := none, intake := [], loss := true, inBreak := true
    counts := { l.counts with breaks := countUp 255 l.counts.breaks } }

/-- The line has been low for 20 bit times (R178). -/
def lineBreak (s : State) : State := linkLost .linkBreak (s.withLif (breakLif s.lif))

/-- The link timer length in force; the timer runs only in RUN and HOLD (R9). -/
def linkLength (s : State) : Option Nat :=
  match s.csc.chassis with
  | .run => some s.cfg.csc.linkTimeout
  | .hold => some s.cfg.csc.holdLinkTimeout
  | .standby | .failsafe | .cutoff => none

/-- The link timer reaches the length in force; after an expiry a good frame must arrive first (R9, R177). -/
def linkTimerDue (s : State) : Bool :=
  match linkLength s, s.lif.lastGood with
  | some n, some t => !s.lif.loss && decide (n ≤ s.now - t)
  | _, _ => false

/-- The expiry of the link timer (R177). -/
def linkTimerExpires (s : State) : State := linkLost .linkTimeout (s.withLif { s.lif with loss := true })

/-! ## The transmitter -/

/-- The frame that the transmitter starts: the oldest reply, otherwise the oldest report (R181). -/
def nextTransmission (l : Lif) : Option Transmission :=
  match l.replies, l.reports with
  | f :: _, _ => some { source := .reply, bytes := frameBytes f.type f.payload }
  | [], f :: _ => some { source := .report, bytes := frameBytes f.type f.payload }
  | [], [] => none

/-- The line is idle and a frame waits (R181). -/
def transmitDue (s : State) : Bool := s.lif.tx.isNone && (nextTransmission s.lif).isSome

/-- The transmitter starts a frame (R181). -/
def startTransmission (s : State) : State := s.withLif { s.lif with tx := nextTransmission s.lif }

/-- The last byte of the frame on the line has been sent: its queue place is free (R179, R181). -/
def frameSent (s : State) : State :=
  match s.lif.tx with
  | none => s
  | some t =>
    match t.source with
    | .reply => s.withLif { s.lif with tx := none, replies := s.lif.replies.tail }
    | .report => s.withLif { s.lif with tx := none, reports := s.lif.reports.tail }

/-! ## Telemetry, status, counts -/

/-- The telemetry schedule has come to its next report (R186). -/
def telemetryDue (s : State) : Bool := match s.lif.telNext with | some t => decide (t ≤ s.now) | none => false

/-- The TELEMETRY report in the layout of section 10.8 (R186). -/
def telemetryReport (s : State) : TxFrame :=
  { type := 0xE6
    fields :=
      [.u16 s.lif.telSeq.toNat, .u8 s.csc.chassis.code, .u8 s.bmn.pub.stage.code, .u16 s.bmn.pub.minVc,
        .u32 s.bmn.pub.packCurrent, .i16 s.drc.df.output, .i16 s.drc.dr.output, .i16 s.smx.frontAngle, .i16 s.smx.rearAngle,
        .i32 (positionMm s), .u8 (winchCode s), .u8 s.spg.shift.gear.code, flag s.csc.linkLost] }

/-- The schedule after a report: the next one is due one period later (R186). -/
def telemetryNext (l : Lif) (period : Nat) : Lif :=
  { l with telSeq := l.telSeq + 1, telNext := l.telNext.map (· + period) }

/-- A TELEMETRY report is formed with the next sequence number and posted (R186). -/
def formTelemetry (s : State) : State :=
  let s' := s.withLif (telemetryNext s.lif s.cfg.lif.telemetryMs)
  postReport (telemetryReport s') s'

/-- The status fields of a drive channel (section 10.8). -/
def driveStatus (c : DriveChan) : List Field := [.i16 c.output, .u16 c.brake, .u16 c.cap, .u8 c.fault.code, .u8 c.tripCount]

/-- The GET_STATUS reply up to the light channels, in the layout of section 10.8 (R185). -/
def statusHead (strap : PinLevel) (s : State) : List Field :=
  [rc .ok, .u8 s.csc.chassis.code, flag s.csc.linkLost, .u16 (holdAge s), flag (holdModeChange s), .u8 s.smx.target.code,
    flag (blendActive s), flag s.smx.frontBlend.active, flag s.smx.rearBlend.active, .u8 s.spg.shift.gear.code,
    .u8 s.spg.shift.phase.code, .u8 s.drc.digInForce.code, flag (assistActive s)] ++
  driveStatus s.drc.df ++ driveStatus s.drc.dr ++
  [.u8 (winchCode s), flag s.wnc.valid, flag (beyondLimit s), .u8 s.bmn.pub.stage.code, flag s.bmn.tapFault,
    .u8 s.bmn.pub.remaining, flag (lockActive strap s), flag s.pst.defaulted, flag (storeRunning s)]

/-- LIF's part of a GET_STATUS (R185). -/
def getStatusOwner (strap : PinLevel) (s : State) : State × List Field :=
  (s, statusHead strap s ++ (List.finRange 8).flatMap (lightStatus s))

/-- The seven counts as fields (R182). -/
def countFields (c : LinkCounts) : List Field :=
  [.u8 c.crc, .u8 c.framing, .u8 c.noise, .u8 c.overrun, .u8 c.gap, .u8 c.breaks, .u8 c.reportDrop]

/-- LIF's part of a GET_LINK_COUNTS (R182). -/
def getLinkCountsOwner (p : Payload) (s : State) : State × List Field :=
  let clear := u8At p 0
  if 1 < clear then (s, [rc .badValue])
  else (if clear = 1 then linkUnitReset s else s, rc .ok :: countFields s.lif.counts)

/-! ## The commands -/

/-- CHARACTER_RECEIVED (R174 to R176); no character ends while a break lasts (R178). -/
def execCharacterReceived (c : UartChar) (s : State) : Host.Outcome State Fault Refusal :=
  .next (whenDue (fun s => !s.lif.inBreak) (receiveChar c) s)

/-- GAP_TIMEOUT (R175). -/
def execGapTimeout (s : State) : Host.Outcome State Fault Refusal := .next (whenDue gapDue gapDiscard s)

/-- BREAK: one low period is one break (R178). -/
def execBreak (s : State) : Host.Outcome State Fault Refusal := .next (whenDue (fun s => !s.lif.inBreak) lineBreak s)

/-- BREAK_END: the line goes high again (R178). -/
def execBreakEnd (s : State) : Host.Outcome State Fault Refusal :=
  .next (whenDue (fun s => s.lif.inBreak) (fun s => s.withLif { s.lif with inBreak := false }) s)

/-- LINK_TIMER_EXPIRY (R177). -/
def execLinkTimerExpiry (s : State) : Host.Outcome State Fault Refusal := .next (whenDue linkTimerDue linkTimerExpires s)

/-- The taking of a frame whose type is not a request type (R179, R180). -/
def takingUnknown (ty : Byte) (p : Payload) (s : State) : State :=
  if !isRequestType ty && canTake ty p s then
    putReply { type := 0x80, fields := [rc .unknownType, .u8 ty.toNat] } (popIntake s)
  else s

/-- UNKNOWN_TYPE_REQUEST (R179, R180). -/
def execUnknownTypeRequest (ty : Byte) (p : Payload) (s : State) : Host.Outcome State Fault Refusal := .next (takingUnknown ty p s)

/-- TRANSMIT_FRAME_START (R181). -/
def execTransmitFrameStart (s : State) : Host.Outcome State Fault Refusal := .next (whenDue transmitDue startTransmission s)

/-- FRAME_SENT (R179, R181). -/
def execFrameSent (s : State) : Host.Outcome State Fault Refusal := .next (whenDue (fun s => s.lif.tx.isSome) frameSent s)

/-- TELEMETRY (R186). -/
def execTelemetry (s : State) : Host.Outcome State Fault Refusal := .next (whenDue telemetryDue formTelemetry s)

/-- GET_STATUS (R185). -/
def execGetStatus (strap : PinLevel) (p : Payload) (s : State) : Host.Outcome State Fault Refusal :=
  .next (taking 0x51 p (getStatusOwner strap) s)

/-- GET_LINK_COUNTS (R182). -/
def execGetLinkCounts (p : Payload) (s : State) : Host.Outcome State Fault Refusal :=
  .next (taking 0x52 p (getLinkCountsOwner p) s)

end Sys2Proof.Machine
end

