-- ==== Sys2Proof/Machine/Clock.lean ====
section
/-! DEFINITION. The passing of one millisecond: what the machine does when no command waits (log 1). -/

namespace Sys2Proof.Machine

/-- One millisecond passes: the time of LIF, CSC and PST and the drive and winch clocks advance while the part runs (R60, R83);
a part without power or held in reset keeps its state. DESIGN CHOICE (log 1). -/
def tick (s : State) : State :=
  if isRunning s then
    { s with now := s.now + 1, drc := { s.drc with clock := s.drc.clock + 1 }, wnc := { s.wnc with clock := s.wnc.clock + 1 } }
  else s

end Sys2Proof.Machine
end

