-- ==== Sys2Proof/Machine/Dispatch.lean ====
section
/-! DEFINITION. The meaning of every command: one call per row of the table. -/

namespace Sys2Proof.Machine

def exec (i : Instr) (s : State) : Host.Outcome State Fault Refusal :=
  match i with
  | .powerOn enc => Sys2Proof.Machine.execPowerOn enc s
  | .resetAssert => Sys2Proof.Machine.execResetAssert s
  | .characterReceived c => Sys2Proof.Machine.execCharacterReceived c s
  | .gapTimeout => Sys2Proof.Machine.execGapTimeout s
  | .lineBreak => Sys2Proof.Machine.execBreak s
  | .linkTimerExpiry => Sys2Proof.Machine.execLinkTimerExpiry s
  | .unknownTypeRequest ty p => Sys2Proof.Machine.execUnknownTypeRequest ty p s
  | .setMotion p => Sys2Proof.Machine.execSetMotion p s
  | .hold p => Sys2Proof.Machine.execHold p s
  | .resume p => Sys2Proof.Machine.execResume p s
  | .cutoffRelease p => Sys2Proof.Machine.execCutoffRelease p s
  | .steerMode p => Sys2Proof.Machine.execSteerMode p s
  | .curveBegin p => Sys2Proof.Machine.execCurveBegin p s
  | .curveData p => Sys2Proof.Machine.execCurveData p s
  | .curveCommit p => Sys2Proof.Machine.execCurveCommit p s
  | .servoEnds p => Sys2Proof.Machine.execServoEnds p s
  | .gear p => Sys2Proof.Machine.execGear p s
  | .getServo p => Sys2Proof.Machine.execGetServo p s
  | .dig p => Sys2Proof.Machine.execDig p s
  | .faultClear p => Sys2Proof.Machine.execFaultClear p s
  | .winchRun p => Sys2Proof.Machine.execWinchRun p s
  | .winchPull p => Sys2Proof.Machine.execWinchPull p s
  | .winchSuspend p => Sys2Proof.Machine.execWinchSuspend p s
  | .winchResume p => Sys2Proof.Machine.execWinchResume p s
  | .winchZero p => Sys2Proof.Machine.execWinchZero p s
  | .winchLimits p => Sys2Proof.Machine.execWinchLimits p s
  | .getWinch p => Sys2Proof.Machine.execGetWinch p s
  | .lightLevel p => Sys2Proof.Machine.execLightLevel p s
  | .lightMap p => Sys2Proof.Machine.execLightMap p s
  | .patternAlloc p => Sys2Proof.Machine.execPatternAlloc p s
  | .patternStep p => Sys2Proof.Machine.execPatternStep p s
  | .patternFree p => Sys2Proof.Machine.execPatternFree p s
  | .getPattern p => Sys2Proof.Machine.execGetPattern p s
  | .getFree p => Sys2Proof.Machine.execGetFree p s
  | .batteryLevels strap p => Sys2Proof.Machine.execBatteryLevels strap p s
  | .protLock strap p => Sys2Proof.Machine.execProtLock strap p s
  | .getCells strap p => Sys2Proof.Machine.execGetCells strap p s
  | .budgetClass p => Sys2Proof.Machine.execBudgetClass p s
  | .getBudget p => Sys2Proof.Machine.execGetBudget p s
  | .setParam strap p => Sys2Proof.Machine.execSetParam strap p s
  | .getParam p => Sys2Proof.Machine.execGetParam p s
  | .profileStore p => Sys2Proof.Machine.execProfileStore p s
  | .profileRestore strap p => Sys2Proof.Machine.execProfileRestore strap p s
  | .profileDefaults strap p => Sys2Proof.Machine.execProfileDefaults strap p s
  | .unitResetSteer p => Sys2Proof.Machine.execUnitResetSteer p s
  | .unitResetDrive p => Sys2Proof.Machine.execUnitResetDrive p s
  | .unitResetWinch p => Sys2Proof.Machine.execUnitResetWinch p s
  | .unitResetLights p => Sys2Proof.Machine.execUnitResetLights p s
  | .unitResetBattery p => Sys2Proof.Machine.execUnitResetBattery p s
  | .unitResetLink p => Sys2Proof.Machine.execUnitResetLink p s
  | .getStatus strap p => Sys2Proof.Machine.execGetStatus strap p s
  | .getLinkCounts p => Sys2Proof.Machine.execGetLinkCounts p s
  | .transmitFrameStart => Sys2Proof.Machine.execTransmitFrameStart s
  | .frameSent => Sys2Proof.Machine.execFrameSent s
  | .telemetry => Sys2Proof.Machine.execTelemetry s
  | .servoFrameStart ch => Sys2Proof.Machine.execServoFrameStart ch s
  | .blendEnd axle => Sys2Proof.Machine.execBlendEnd axle s
  | .shiftWaitExpiry => Sys2Proof.Machine.execShiftWaitExpiry s
  | .shiftSettleExpiry => Sys2Proof.Machine.execShiftSettleExpiry s
  | .driveUpdate ch current => Sys2Proof.Machine.execDriveUpdate ch current s
  | .driveRetry ch current => Sys2Proof.Machine.execDriveRetry ch current s
  | .winchUpdate current => Sys2Proof.Machine.execWinchUpdate current s
  | .winchStall current => Sys2Proof.Machine.execWinchStall current s
  | .encoderCount enc => Sys2Proof.Machine.execEncoderCount enc s
  | .lineSpeedWindowEnd => Sys2Proof.Machine.execLineSpeedWindowEnd s
  | .lightPeriodStart k => Sys2Proof.Machine.execLightPeriodStart k s
  | .patternStepComplete k => Sys2Proof.Machine.execPatternStepComplete k s
  | .sweepCompletion x => Sys2Proof.Machine.execSweepCompletion x s
  | .tapFaultChange x => Sys2Proof.Machine.execTapFaultChange x s
  | .stageWorsen x => Sys2Proof.Machine.execStageWorsen x s
  | .stageRecover x => Sys2Proof.Machine.execStageRecover x s
  | .profileStoreCompletion readBackOk => Sys2Proof.Machine.execProfileStoreCompletion readBackOk s
  | .breakEnd => Sys2Proof.Machine.execBreakEnd s
  | .powerLost => Sys2Proof.Machine.execPowerLost s

end Sys2Proof.Machine
end

