-- ==== Sys2Proof/Machine/Outputs.lean ====
section
/-! DEFINITION. The output lines as the state drives them: bridges, servo lines, lamp lines, the transmit line. -/

namespace Sys2Proof.Machine

/-- The lines of a bridge: the PWM duty on lines A and B, and the strength of the brake-mode line, 0 for not asserted. -/
structure BridgeLines where
  pwmA : Nat
  pwmB : Nat
  brake : Nat
  deriving DecidableEq, Repr

/-- All bridge lines off. -/
def bridgeOff : BridgeLines := { pwmA := 0, pwmB := 0, brake := 0 }

/-- The PWM lines of a signed duty: A for a positive one, B for a negative one (R60, R83). -/
def dutyLines (duty : Int) : BridgeLines := { pwmA := duty.toNat, pwmB := (-duty).toNat, brake := 0 }

/-- The bridge lines of a drive channel (R60, R188). -/
def driveLines (s : State) (ch : DriveCh) : BridgeLines :=
  let c := s.drc.chan ch
  if !isRunning s then bridgeOff
  else if c.output = 0 then { bridgeOff with brake := c.brake }
  else dutyLines c.output

/-- The winch bridge mode (R83). -/
inductive BridgeMode where
  | drive | brake | off
  deriving DecidableEq, Repr

/-- The winch bridge mode in force (R83, R107). -/
def winchMode (s : State) : BridgeMode :=
  match s.wnc.state with
  | .spoolIn | .spoolOut | .pull => .drive
  | .free => .off
  | .braked => if s.csc.chassis = .cutoff then .off else .brake
  | .suspended | .stalled => if s.csc.chassis = .cutoff then .off else .brake

/-- The winch bridge lines; a brake strength of 1000 stands for the asserted brake-mode line (R83, R188). -/
def winchLines (s : State) : BridgeLines :=
  if !isRunning s then bridgeOff
  else match winchMode s with
    | .drive => dutyLines s.wnc.duty
    | .brake => { bridgeOff with brake := 1000 }
    | .off => bridgeOff

/-- The pulse on a servo line in the frame in progress, in µs; 0 for an inactive line (R46, R47, R188). -/
def servoLine (s : State) (ch : ServoCh) : Int := if isRunning s then (s.spg.chan ch).lineWidth else 0

/-- The part of the period, in 64ths, for which a lamp line is active (R113, R188). -/
def lampLine (s : State) (k : Fin 8) : Nat := if isRunning s then (lightOfState s k).level else 0

/-- The bytes of the frame on the transmit line; empty for an idle line, which is high (R181, R188). -/
def transmitLine (s : State) : List Byte :=
  if isRunning s then
    match s.lif.tx with
    | some t => t.bytes
    | none => []
  else []

end Sys2Proof.Machine
end

