-- ==== Sys2Proof/Safety.lean ====
section
/-! DEFINITION. What the statements speak of: a request that is taken now, the answered link, characters sent without noise, and
the relations between fields that every run keeps. -/

namespace Sys2Proof.Machine

/-! ## Requests -/

/-- The type and the payload of a request row; none for a row that is not the taking of one request type. -/
def requestOf : Instr → Option (Byte × Payload)
  | .setMotion p => some (0x01, p)
  | .hold p => some (0x02, p)
  | .resume p => some (0x03, p)
  | .cutoffRelease p => some (0x04, p)
  | .steerMode p => some (0x08, p)
  | .curveBegin p => some (0x09, p)
  | .curveData p => some (0x0A, p)
  | .curveCommit p => some (0x0B, p)
  | .servoEnds p => some (0x10, p)
  | .gear p => some (0x11, p)
  | .getServo p => some (0x12, p)
  | .dig p => some (0x18, p)
  | .faultClear p => some (0x19, p)
  | .winchRun p => some (0x20, p)
  | .winchPull p => some (0x21, p)
  | .winchSuspend p => some (0x22, p)
  | .winchResume p => some (0x23, p)
  | .winchZero p => some (0x24, p)
  | .winchLimits p => some (0x25, p)
  | .getWinch p => some (0x26, p)
  | .lightLevel p => some (0x30, p)
  | .lightMap p => some (0x31, p)
  | .patternAlloc p => some (0x32, p)
  | .patternStep p => some (0x33, p)
  | .patternFree p => some (0x34, p)
  | .getPattern p => some (0x35, p)
  | .getFree p => some (0x36, p)
  | .batteryLevels _ p => some (0x38, p)
  | .protLock _ p => some (0x39, p)
  | .getCells _ p => some (0x3A, p)
  | .budgetClass p => some (0x3C, p)
  | .getBudget p => some (0x3D, p)
  | .setParam _ p => some (0x40, p)
  | .getParam p => some (0x41, p)
  | .profileStore p => some (0x48, p)
  | .profileRestore _ p => some (0x49, p)
  | .profileDefaults _ p => some (0x4A, p)
  | .unitResetSteer p => if rowTakes .steer p then some (0x50, p) else none
  | .unitResetDrive p => if rowTakes .drive p then some (0x50, p) else none
  | .unitResetWinch p => if rowTakes .winch p then some (0x50, p) else none
  | .unitResetLights p => if rowTakes .lights p then some (0x50, p) else none
  | .unitResetBattery p => if rowTakes .battery p then some (0x50, p) else none
  | .unitResetLink p => if rowTakes .link p then some (0x50, p) else none
  | .getStatus _ p => some (0x51, p)
  | .getLinkCounts p => some (0x52, p)
  | .powerOn _ | .resetAssert | .characterReceived _ | .gapTimeout | .lineBreak | .linkTimerExpiry | .unknownTypeRequest _ _
  | .transmitFrameStart | .frameSent | .telemetry | .servoFrameStart _ | .blendEnd _ | .shiftWaitExpiry | .shiftSettleExpiry
  | .driveUpdate _ _ | .driveRetry _ _ | .winchUpdate _ | .winchStall _ | .encoderCount _ | .lineSpeedWindowEnd
  | .lightPeriodStart _ | .patternStepComplete _ | .sweepCompletion _ | .tapFaultChange _ | .stageWorsen _ | .stageRecover _
  | .profileStoreCompletion _ | .breakEnd | .powerLost => none

/-- LIF takes this frame now: the part runs, the frame is the oldest of the intake queue and a reply place is free (R179). -/
abbrev Takes (ty : Byte) (p : Payload) (s : State) : Prop :=
  s.power = .running ∧ s.lif.intake.head? = some { type := ty, payload := p } ∧ s.lif.replies.length < 4

/-- LIF after the oldest frame, of type `ty`, has been taken and answered with these fields (R179, R180). -/
def answered (ty : Byte) (fields : List Field) (l : Lif) : Lif :=
  { l with intake := l.intake.tail, replies := l.replies ++ [{ type := ty + 0x80#8, fields := fields }] }

/-- LIF after a report has been posted (R181). -/
def posted (f : TxFrame) (l : Lif) : Lif :=
  if l.reports.length < 4 then { l with reports := l.reports ++ [f] }
  else { l with counts := { l.counts with reportDrop := min (l.counts.reportDrop + 1) 255 } }

/-! ## Link loss -/

/-- A blend record as the entry into FAILSAFE or CUTOFF leaves it: an active one becomes inactive with elapsed_us 0 (R27, R28). -/
def Blend.dropped (b : Blend) : Blend := if b.active then { b with active := false, elapsedUs := 0 } else b

/-- What link loss in RUN or HOLD leaves, `cause` being the cause code of its STATE_CHANGE and `l` LIF's record as the loss itself leaves
it: FAILSAFE with the setpoint and hold records cleared, the blends dropped, the easing shift abandoned and the winch operation ended, with
the reports of the three blocks in the order of R14; all else as it was (R10, R14, R27, R53, R106). -/
def FailsafeFrom (cause : Nat) (l : Lif) (s t : State) : Prop :=
  let x := s.spg.shift
  let w := s.wnc
  let held := if w.state = .suspended then w.reasons else noReasons
  let moved := posted { type := 0xE0, fields := [.u8 s.csc.chassis.code, .u8 3, .u8 cause] } l
  let shifted := if x.phase = .easing then
      posted { type := 0xE2, fields := [.u8 2, .u8 x.gear.code, .u8 (pendingGearCode x.pending)] } moved
    else moved
  t = { s with
    csc := { chassis := .failsafe, setpoint := { throttle := 0, steer := 0, valid := false }, hold := none, linkLost := true }
    smx := { s.smx with frontBlend := s.smx.frontBlend.dropped, rearBlend := s.smx.rearBlend.dropped }
    spg := { s.spg with
      shift := if x.phase = .easing then { x with pending := none, phase := .idle, waitMs := 0, settleMs := 0 } else x }
    wnc := { w with
      state := .braked, duty := 0, op := none, reasons := noReasons, stall := none
      last := if w.hasOp then .linkLost else w.last }
    lif := if w.hasOp then
        posted
          { type := 0xE3
            fields := [.u8 5, .i32 (Int.tdiv (w.position * s.cfg.wnc.umPerCount) 1000), .u8 w.valid.toNat, .u8 held.host.toNat,
              .u8 held.hold.toNat, .u8 held.budget.toNat] } shifted
      else shifted }

/-! ## The line -/

/-- Three equal samples of a bit. -/
def cleanBit (b : Bool) : BitSamples := { a := b, b := b, c := b }

/-- A byte sent as a character with a low start bit, a high stop bit and no noise (R174). -/
def cleanChar (b : Byte) : UartChar :=
  { start := cleanBit false, data := Vector.ofFn fun i : Fin 8 => cleanBit (b.getLsbD i), stop := cleanBit true }

/-- The bytes received one after the other as clean characters. -/
def receiveBytes : List Byte → State → Host.Outcome State Fault Refusal
  | [], s => .next s
  | b :: rest, s =>
    match exec (.characterReceived (cleanChar b)) s with
    | .next t => receiveBytes rest t
    | .fault r => .fault r
    | .refused r => .refused r

/-! ## Pulses -/

/-- The widths on a servo line in the next `n` frames of its channel, one frame start after the other. -/
def emittedWidths (ch : ServoCh) : Nat → State → List Int
  | 0, _ => []
  | n + 1, s =>
    match exec (.servoFrameStart ch) s with
    | .next t => servoLine t ch :: emittedWidths ch n t
    | .fault _ | .refused _ => []

/-- `n` frame starts of a servo channel, one after the other. -/
def frameStarts (ch : ServoCh) : Nat → State → Host.Outcome State Fault Refusal
  | 0, s => .next s
  | n + 1, s =>
    match exec (.servoFrameStart ch) s with
    | .next t => frameStarts ch n t
    | .fault r => .fault r
    | .refused r => .refused r

/-! ## Parameters and shares -/

/-- A row of the parameter tables: the id names a parameter that holds this value of the working configuration, whose values are clamped
into the range given and whose factory value is the default given (R9, R31, R57, R81, R110, R160, R165, R183, R184). -/
def ParamRow (n : Nat) (value : WorkingConfig → Nat) (lo hi : Int) (default : Nat) : Prop :=
  ∃ i, paramOf n = some i ∧ (∀ c, readParam c i = value c) ∧ (∀ v, paramClamp i v = max lo (min hi v)) ∧ value factoryConfig = default

/-- The sum of a value over the classes of one priority level (R168). -/
def levelSum (cs : PerClass ClassRecord) (level : Nat) (v : PerClass Nat) : Nat :=
  (classOrder.map fun c => if (cs.get c).priority = level then v.get c else 0).sum

/-- The extras of the five classes served by priority: with R the remaining current at the start of a level and W the sum of its wants,
each class of the level receives its whole want while W fits into R and the share (R · want) / W otherwise, and R decreases by what the
level has been given; what remains after level 7 is the leftover (R168). -/
def ServedByPriority (cs : PerClass ClassRecord) (want extra : PerClass Nat) (start leftover : Nat) : Prop :=
  ∃ r : Nat → Nat, r 0 = start ∧ r 8 = leftover ∧ ∀ level < 8,
    let w := levelSum cs level want
    (∀ c, (cs.get c).priority = level → extra.get c = if w ≤ r level then want.get c else r level * want.get c / w) ∧
      r level = r (level + 1) + levelSum cs level extra

/-! ## What every run keeps -/

/-- The three queues of LIF never hold more than four frames each (R179, R181). -/
def QueuesBounded (s : State) : Prop :=
  s.lif.intake.length ≤ 4 ∧ s.lif.replies.length ≤ 4 ∧ s.lif.reports.length ≤ 4

/-- Each pool index is in the free list exactly once, or in exactly one step list exactly once (R133). -/
def poolAccounted (c : LcuCfg) : Prop :=
  (c.free ++ c.table.toList.flatMap PatternEntry.steps).Perm (List.finRange 64)

/-- A property of every working configuration that the part holds: the one in force, the stored one and a store's snapshot. -/
def EveryConfig (P : WorkingConfig → Prop) (s : State) : Prop :=
  P s.cfg ∧ (∀ c, s.pst.stored = .passes c → P c) ∧ (∀ w, s.pst.writing = some w → P w.snapshot)

/-- The step pool is accounted for in every working configuration (R133). -/
def PoolPartitioned (s : State) : Prop := EveryConfig (fun c => poolAccounted c.lcu) s

/-- Each entry's reference count is the number of map actions that name the pattern, and a named entry is DEFINED (R115, R132). -/
def refsAccounted (c : LcuCfg) : Prop :=
  ∀ q : Fin 16, c.table[q].refs = (c.maps.toList.map fun m => mapRefs m q).sum ∧ (c.table[q].refs ≠ 0 → c.table[q].steps ≠ [])

/-- The reference counts are right in every working configuration (R115, R132). -/
def PatternsReferenced (s : State) : Prop := EveryConfig (fun c => refsAccounted c.lcu) s

/-- The five floors fit under half of Pmax, priorities are at most 7 and ceilings at least the floors (R163). -/
def budgetOk (c : PbaCfg) : Prop :=
  (floorsOf c.classes).sum ≤ c.pmax / 2 ∧
    ∀ id, (c.classes.get id).priority ≤ 7 ∧ (c.classes.get id).floor ≤ (c.classes.get id).ceiling

/-- The budget records are in order in every working configuration; before the first allocation the grants are the floors
(R163). -/
def FloorsWithinHalfPmax (s : State) : Prop :=
  EveryConfig (fun c => budgetOk c.pba) s ∧
    (s.pba.allocated = false → s.pba.pub.grant = floorsOf s.cfg.pba.classes)

/-- A drive channel's record: a non-zero output is never braked, the output is within the cap, a tripped or latched channel
coasts, at most three trips are kept (R60, R70 to R73). -/
def driveChanOk (c : DriveChan) : Prop :=
  (c.output ≠ 0 → c.brake = 0) ∧ c.output.natAbs ≤ c.cap ∧ c.cap ≤ 1000 ∧
    (c.fault ≠ .normal → c.target = 0 ∧ c.output = 0 ∧ c.brake = 0) ∧ c.history.length ≤ 3 ∧
    (c.retry.isSome ↔ c.fault = .tripped)

/-- Both drive records are in order. -/
def DriveRecordsOk (s : State) : Prop := driveChanOk s.drc.df ∧ driveChanOk s.drc.dr

/-- The winch record: SUSPENDED exactly when a reason holds it; an operation kind exactly while there is an operation; a duty
only while driving; driving only in RUN, an operation only in RUN or HOLD, and in HOLD with the HOLD reason (R83, R91, R97, R101,
R106, R107). -/
def WinchRecordOk (s : State) : Prop :=
  (s.wnc.state = .suspended ↔ s.wnc.reasons ≠ noReasons) ∧ (s.wnc.hasOp = true ↔ s.wnc.op.isSome) ∧
    (s.wnc.state.driving = true → s.wnc.op.map WinchOp.driveState = some s.wnc.state ∧ s.csc.chassis = .run) ∧
    (s.wnc.state.driving = false → s.wnc.duty = 0) ∧
    (s.wnc.state = .suspended → s.csc.chassis = .run ∨ (s.csc.chassis = .hold ∧ s.wnc.reasons.hold = true))

/-- The chassis record: a hold record exactly in HOLD, a valid setpoint only in RUN and HOLD, a cleared one otherwise, and
CUTOFF exactly at the stage CUTOFF (R2, R3, R10, R12, R13, R153). -/
def ChassisRecordOk (s : State) : Prop :=
  (s.csc.hold.isSome ↔ s.csc.chassis = .hold) ∧
    (s.csc.setpoint.valid = true ↔ s.csc.chassis = .run ∨ s.csc.chassis = .hold) ∧
    (s.csc.setpoint.valid = false → s.csc.setpoint = clearedSetpoint) ∧
    (s.csc.chassis = .cutoff ↔ s.bmn.stage = .cutoff) ∧ s.bmn.pub.stage = s.bmn.stage

/-- A drive channel that coasts at rest. -/
def DriveChan.coasts (c : DriveChan) : Prop := c.target = 0 ∧ c.output = 0 ∧ c.brake = 0

/-- In CUTOFF nothing moves and only LOWBATT lamps are lit: both drives coast, the winch record is BRAKED at duty 0, every other
lamp is forced off at level 0 and base level 0 (R12, R75, R107, R125). -/
def CutoffIsStill (s : State) : Prop :=
  s.csc.chassis = .cutoff →
    s.drc.df.coasts ∧ s.drc.dr.coasts ∧ s.wnc.state = .braked ∧ s.wnc.duty = 0 ∧
      ∀ k : Fin 8, (mapOf s k).source ≠ .lowBatt →
        (lightOfState s k).forcedOff = true ∧ (lightOfState s k).level = 0 ∧ (lightOfState s k).base = 0

end Sys2Proof.Machine
end

