-- ==== Sys2Proof/Certificates/Slice0/Obligations.lean ====
section
/-! DEFINITION. The statements for the provers. Most rest on `Takes`: the request is the oldest of the intake queue of a running
part and a reply place is free (R179). -/

open Sys2Proof Sys2Proof.Machine

/-! ## The machine and its power -/

/-- The step runs the command at the front of the queue on the rest of the queue; with no command waiting one millisecond passes on the
clocks of a running part, which is the model's choice (log 1). -/
def Obligations.StepRunsTheFrontCommand : Prop :=
  (∀ (c : Instr) (rest : List Instr) (s : State), s.pending = c :: rest → step s = exec c { s with pending := rest }) ∧
  (∀ s : State, s.pending = [] → s.power = .running →
    step s = .next { s with
      now := s.now + 1
      drc := { s.drc with clock := s.drc.clock + 1 }
      wnc := { s.wnc with clock := s.wnc.clock + 1 } }) ∧
  (∀ s : State, s.pending = [] → s.power ≠ .running → step s = .next s)

/-- Every command completes, and none touches the queue of waiting commands or leaves it. -/
def Obligations.CommandsLeaveTheWaitingQueue : Prop :=
  ∀ (i : Instr) (s : State), ∃ t, exec i s = .next t ∧ t.pending = s.pending

/-- RESET held low and the loss of power stop the part and abandon a store, whose image then fails its check; the output lines of a part
that does not run are inactive, and those of a running part follow its records: the drive and winch bridges their duty, brake and mode, the
servo lines the pulse of the frame in progress, the lamp lines their levels, the transmit line its frame (R46, R60, R83, R107, R113, R181,
R188). That a stopped part changes at no command but the three of power is the model's inference (log 7); that RESET without power changes
nothing and how the lines are shown, an asserted winch brake line as 1000, are its choices (logs 24 and 30). -/
def Obligations.StoppedPartIsInactive : Prop :=
  (∀ s : State, s.power ≠ .off → s.pst.writing = none → exec .resetAssert s = .next { s with power := .resetHeld }) ∧
  (∀ s : State, s.power ≠ .off → s.pst.writing ≠ none →
    exec .resetAssert s =
      .next { s with power := .resetHeld, pst := { s.pst with stored := .failsCheck, writing := none } }) ∧
  (∀ s : State, s.power = .off → exec .resetAssert s = .next s) ∧
  (∀ s : State, s.pst.writing = none → exec .powerLost s = .next { s with power := .off }) ∧
  (∀ s : State, s.pst.writing ≠ none →
    exec .powerLost s = .next { s with power := .off, pst := { s.pst with stored := .failsCheck, writing := none } }) ∧
  (∀ s : State, s.power ≠ .running →
    (∀ ch, servoLine s ch = 0) ∧ (∀ ch, driveLines s ch = bridgeOff) ∧ winchLines s = bridgeOff ∧
      (∀ k, lampLine s k = 0) ∧ transmitLine s = []) ∧
  (∀ s : State, s.power = .running →
    (∀ ch, let c := s.drc.chan ch
      (0 < c.output → driveLines s ch = { pwmA := c.output.natAbs, pwmB := 0, brake := 0 }) ∧
      (c.output < 0 → driveLines s ch = { pwmA := 0, pwmB := c.output.natAbs, brake := 0 }) ∧
      (c.output = 0 → driveLines s ch = { pwmA := 0, pwmB := 0, brake := c.brake })) ∧
    (s.wnc.state = .spoolIn ∨ s.wnc.state = .spoolOut ∨ s.wnc.state = .pull → winchMode s = .drive ∧
      (0 ≤ s.wnc.duty → winchLines s = { pwmA := s.wnc.duty.natAbs, pwmB := 0, brake := 0 }) ∧
      (s.wnc.duty ≤ 0 → winchLines s = { pwmA := 0, pwmB := s.wnc.duty.natAbs, brake := 0 })) ∧
    (s.wnc.state = .braked ∨ s.wnc.state = .suspended ∨ s.wnc.state = .stalled → s.csc.chassis ≠ .cutoff →
      winchMode s = .brake ∧ winchLines s = { pwmA := 0, pwmB := 0, brake := 1000 }) ∧
    (s.wnc.state = .free ∨ (s.wnc.state = .braked ∧ s.csc.chassis = .cutoff) → winchMode s = .off ∧ winchLines s = bridgeOff) ∧
    bridgeOff = { pwmA := 0, pwmB := 0, brake := 0 } ∧
    (∀ ch, servoLine s ch = (s.spg.chan ch).lineWidth) ∧ (∀ k, lampLine s k = (lightOfState s k).level) ∧
    (s.lif.tx = none → transmitLine s = []) ∧ (∀ x, s.lif.tx = some x → transmitLine s = x.bytes)) ∧
  (∀ (i : Instr) (s : State), s.power ≠ .running → (∀ enc, i ≠ .powerOn enc) → i ≠ .resetAssert → i ≠ .powerLost →
    exec i s = .next s)

/-- Power-on loads the stored image if it passes its check and no store was in progress, the factory set otherwise, and sets the blocks to
their power-on values: the blends at rest and the curve loads closed with shadows equal to the active tables, the servos at their centres
and at the engaged gear's endpoint, the winch braked with its counts at 0, each lamp on its off-action, the filters and counters of the
battery empty, the grants at the floors, the receiver in HUNT with empty queues and the telemetry schedule started (R15, R22, R38, R59, R82,
R112, R130, R162, R173, R182, R186, R188). That power-on does the same in a part that runs is the model's choice (log 24); what the flags of
R79 read before the first update and the weakest cell and remaining charge before the first sweep are its inferences (logs 33 and 22). -/
def Obligations.PowerOnLoadsTheProfile : Prop :=
  ∀ (enc : EncoderPins) (s : State), ∃ t, exec (.powerOn enc) s = .next t ∧
    t.power = .running ∧ t.now = 0 ∧
    (∀ c, s.pst.stored = .passes c → s.pst.writing = none →
      t.cfg = c ∧ t.pst = { stored := .passes c, writing := none, valid := true, defaulted := false }) ∧
    (s.pst.stored = .failsCheck ∨ s.pst.writing ≠ none →
      t.cfg = factoryConfig ∧ t.pst = { stored := .failsCheck, writing := none, valid := false, defaulted := true }) ∧
    t.csc = { chassis := .standby, setpoint := { throttle := 0, steer := 0, valid := false }, hold := none,
              linkLost := false } ∧
    (let atRest : Blend :=
       { fromKind := .mode, fromMode := t.cfg.smx.powerOnMode, frozen := 0, elapsedUs := 0, active := false }
     t.smx = {
       target := t.cfg.smx.powerOnMode, frontBlend := atRest, rearBlend := atRest, frontAngle := 0, rearAngle := 0
       frontLoad := { state := .closed, pointer := 0, shadow := t.cfg.smx.frontTable }
       rearLoad := { state := .closed, pointer := 0, shadow := t.cfg.smx.rearTable }
       throttleLoad := { state := .closed, pointer := 0, shadow := t.cfg.drc.throttleTable } }) ∧
    t.spg.shift = { gear := t.cfg.spg.powerOnGear, pending := none, phase := .idle, latched := 0, waitMs := 0,
                    settleMs := 0 } ∧
    (t.spg.fs.pOut = t.cfg.spg.fsEnds.center ∧ t.spg.rs.pOut = t.cfg.spg.rsEnds.center ∧
      t.spg.sh.pOut = (if t.cfg.spg.powerOnGear = .low then t.cfg.spg.shEnds.left else t.cfg.spg.shEnds.right) ∧
      ∀ ch, (t.spg.chan ch).acc = 0 ∧ (t.spg.chan ch).waiting = none ∧ (t.spg.chan ch).lastWidth = 0 ∧
        (t.spg.chan ch).effSlew = 0 ∧ (t.spg.chan ch).periodMs = t.cfg.spg.period ch ∧ servoLine t ch = 0) ∧
    (∀ ch, t.drc.chan ch = { target := 0, output := 0, brake := 0, cap := 1000, fault := .normal, history := [],
                             retry := none, tripCount := 0, assist := false, lastTarget := 0, lastOutput := 0 }) ∧
    (t.drc.digRequested = .off ∧ t.drc.digInForce = .off ∧ t.drc.clock = 0) ∧
    t.wnc = {
      duty := 0, state := .braked, op := none, speed := 0, target := 0, dir := .inward, last := .none, cap := 1000, stall := none
      reasons := { host := false, hold := false, budget := false }, stallCount := 0, tripCount := 0, encErrors := 0, position := 0
      valid := false, lineSpeed := 0, windowSum := 0, windowStart := 0, clock := 0, enc := enc, grantUnread := false } ∧
    (∀ k : Fin 8, (lightOfState t k).activity = false ∧ (lightOfState t k).forcedOff = false ∧
      (lightOfState t k).slot = 0 ∧ (lightOfState t k).residual = 0 ∧ (lightOfState t k).level = 0 ∧
      (∀ v, (mapOf t k).offAction = .level v → (lightOfState t k).base = v ∧ (lightOfState t k).runner = none) ∧
      (∀ q, (mapOf t k).offAction = .pattern q → (lightOfState t k).base = 0 ∧
        ∃ r, (lightOfState t k).runner = some r ∧ r.pattern = q ∧ r.position = 0 ∧ r.start = 0 ∧ r.elapsed = 0 ∧
          r.finished = false ∧ r.complete = false ∧
          ∀ i, t.cfg.lcu.table[q].steps[0]? = some i → r.latch = t.cfg.lcu.pool[i])) ∧
    t.bmn = {
      cellCount := if t.cfg.bmn.cellCount = 0 then 2 else t.cfg.bmn.cellCount, auto := false
      autoPending := decide (t.cfg.bmn.cellCount = 0), filters := Vector.replicate 4 [], tapFault := false, badRun := 0, goodRun := 0
      stage := .normal, warnRun := 0, limitRun := 0, shedRun := 0, cutoffRun := 0, recoverRun := 0, charge := 0
      pub := {
        sweep := 0, stage := .normal, pack := 0, tap1 := 0, tap2 := 0, tap3 := 0, packCurrent := 0, servoRail := 0, df := 0, dr := 0
        winch := 0, cells := Vector.replicate 4 { mv := 0, entries := 0 }, comp := 0, minVc := 0, weakest := 0, usedMah := 0
        remaining := 0 } } ∧
    (let zero := { servo := 0, driveF := 0, driveR := 0, winch := 0, lights := 0 : PerClass Nat }
     t.pba.allocated = false ∧ t.pba.pub = { t.pba.pub with
       demand := zero, want := zero, grant := floorsOf t.cfg.pba.classes, available := 0, stage := .normal, leftover := 0
       lightScale := 1024, servoFactor := 1024, starved := false, sweep := 0 }) ∧
    (t.lif.rx = .hunt ∧ t.lif.intake = [] ∧ t.lif.replies = [] ∧ t.lif.reports = [] ∧ t.lif.loss = false ∧
      t.lif.lastGood = none ∧ t.lif.telSeq = 0 ∧ t.lif.baud = t.cfg.lif.baud ∧
      t.lif.counts = { crc := 0, framing := 0, noise := 0, overrun := 0, gap := 0, breaks := 0, reportDrop := 0 } ∧
      t.lif.telNext = if t.cfg.lif.telemetryMs = 0 then none else some t.cfg.lif.telemetryMs)

/-- The state right after the first power-on has the factory set and meets every invariant stated here. -/
def Obligations.ResetMeetsTheInvariants : Prop :=
  State.reset.cfg = factoryConfig ∧ State.reset.pending = [] ∧ QueuesBounded State.reset ∧ PoolPartitioned State.reset ∧
    PatternsReferenced State.reset ∧ FloorsWithinHalfPmax State.reset ∧ DriveRecordsOk State.reset ∧ WinchRecordOk State.reset ∧
    ChassisRecordOk State.reset ∧ CutoffIsStill State.reset

/-! ## The receiver -/

/-- A character without noise drives the receiver through HUNT, LENGTH, BODY and CHECK as the table of R175 gives; a good frame is the
subject of `GoodFrameArrives`. Outside HUNT the gap is timed from this character on. -/
def Obligations.CharacterDrivesTheReceiver : Prop :=
  ∀ (b : Byte) (s : State), s.power = .running → s.lif.inBreak = false →
    (s.lif.rx = .hunt → b = 0xC3 →
      exec (.characterReceived (cleanChar b)) s =
        .next { s with lif := { s.lif with rx := .length, gapSince := some s.now } }) ∧
    (s.lif.rx = .hunt → b ≠ 0xC3 →
      exec (.characterReceived (cleanChar b)) s = .next { s with lif := { s.lif with gapSince := none } }) ∧
    (s.lif.rx = .length → 1 ≤ b.toNat → b.toNat ≤ 40 →
      exec (.characterReceived (cleanChar b)) s =
        .next { s with lif := { s.lif with rx := .body b.toNat [], gapSince := some s.now } }) ∧
    (s.lif.rx = .length → b.toNat = 0 ∨ 41 ≤ b.toNat →
      exec (.characterReceived (cleanChar b)) s = .next { s with lif := { s.lif with rx := .hunt, gapSince := none } }) ∧
    (∀ len got, s.lif.rx = .body len got → got.length + 1 = len →
      exec (.characterReceived (cleanChar b)) s =
        .next { s with lif := { s.lif with rx := .check (got ++ [b]), gapSince := some s.now } }) ∧
    (∀ len got, s.lif.rx = .body len got → got.length + 1 ≠ len →
      exec (.characterReceived (cleanChar b)) s =
        .next { s with lif := { s.lif with rx := .body len (got ++ [b]), gapSince := some s.now } }) ∧
    (∀ got, s.lif.rx = .check got → b ≠ frameCrc got →
      exec (.characterReceived (cleanChar b)) s =
        .next { s with lif := { s.lif with
          rx := .hunt, gapSince := none, counts := { s.lif.counts with crc := min (s.lif.counts.crc + 1) 255 } } })

/-- A false start brings no character; a zero stop bit discards the frame in assembly and counts a framing error; a gap of 2 ms discards
the frame in assembly and counts a gap; a character with noise is used all the same and counted (R174, R175). That a false start restarts
the gap is the model's choice (log 11). That an event that is not due changes nothing is the model's inference (log 7). -/
def Obligations.LineErrorsAreCounted : Prop :=
  (∀ (c : UartChar) (s : State), s.power = .running → s.lif.inBreak = false → majority c.start = true →
    exec (.characterReceived c) s =
      .next { s with lif := { s.lif with gapSince := if s.lif.rx = .hunt then none else some s.now } }) ∧
  (∀ (c : UartChar) (s : State), s.power = .running → s.lif.inBreak = false → majority c.start = false →
    majority c.stop = false →
    exec (.characterReceived c) s =
      .next { s with lif := { s.lif with
        rx := .hunt
        gapSince := none
        counts := { s.lif.counts with
          framing := min (s.lif.counts.framing + 1) 255
          noise := if isNoisy c then min (s.lif.counts.noise + 1) 255 else s.lif.counts.noise } } }) ∧
  (∀ (s : State) (since : Nat), s.power = .running → s.lif.rx ≠ .hunt → s.lif.gapSince = some since → since + 2 ≤ s.now →
    exec .gapTimeout s =
      .next { s with lif := { s.lif with
        rx := .hunt, gapSince := none, counts := { s.lif.counts with gap := min (s.lif.counts.gap + 1) 255 } } }) ∧
  (∀ (s : State) (since : Nat), s.lif.gapSince = some since → s.now < since + 2 → exec .gapTimeout s = .next s) ∧
  (∀ (c : UartChar) (s : State), majority c.start = false → majority c.stop = true →
    (isNoisy c = true →
      exec (.characterReceived c) s = exec (.characterReceived (cleanChar (charByte c)))
        (if s.power = .running ∧ s.lif.inBreak = false then
          { s with lif := { s.lif with counts := { s.lif.counts with noise := min (s.lif.counts.noise + 1) 255 } } }
         else s)) ∧
    (isNoisy c = false → exec (.characterReceived c) s = exec (.characterReceived (cleanChar (charByte c))) s))

/-- A frame whose CRC-8 matches arrives good: its time is recorded, a loss ends, and it is queued or counted as an overrun. At power-on
the queue is empty, the loss flag is clear and there is no last good frame, so that LINK_TIMER_EXPIRY changes nothing (R9, R176). That
POWER_ON does the same in a part that runs is the model's choice (log 24); that an event that is not due changes nothing is its inference
(log 7). -/
def Obligations.GoodFrameArrives : Prop :=
  (∀ (ty : Byte) (p : Payload) (s : State), s.power = .running → s.lif.inBreak = false → s.lif.rx = .check (ty :: p) →
    (s.lif.intake.length < 4 →
      exec (.characterReceived (cleanChar (crc8 (BitVec.ofNat 8 (p.length + 1) :: ty :: p)))) s =
        .next { s with
          csc := { s.csc with linkLost := if s.lif.loss then false else s.csc.linkLost }
          lif := { s.lif with
            rx := .hunt, gapSince := none, lastGood := some s.now, loss := false
            intake := s.lif.intake ++ [{ type := ty, payload := p }] } }) ∧
    (4 ≤ s.lif.intake.length →
      exec (.characterReceived (cleanChar (crc8 (BitVec.ofNat 8 (p.length + 1) :: ty :: p)))) s =
        .next { s with
          csc := { s.csc with linkLost := if s.lif.loss then false else s.csc.linkLost }
          lif := { s.lif with
            rx := .hunt, gapSince := none, lastGood := some s.now, loss := false
            counts := { s.lif.counts with overrun := min (s.lif.counts.overrun + 1) 255 } } })) ∧
  (∀ (enc : EncoderPins) (s : State), ∃ t, exec (.powerOn enc) s = .next t ∧ t.lif.intake = [] ∧ t.lif.loss = false ∧
    t.lif.lastGood = none ∧ exec .linkTimerExpiry t = .next t)

/-- Framing and reception agree: the bytes of any frame with L in 1..40, received one by one from HUNT, bring exactly its type and payload
to the intake queue; with a wrong last byte they bring nothing but a CRC count. -/
def Obligations.FramesAreReceivedAsSent : Prop :=
  ∀ (ty : Byte) (p : Payload) (s : State), s.power = .running → s.lif.inBreak = false → s.lif.rx = .hunt →
    p.length ≤ 39 →
    (∃ t, receiveBytes (frameBytes ty p) s = .next t ∧
      t.lif.intake = (if s.lif.intake.length < 4 then s.lif.intake ++ [{ type := ty, payload := p }] else s.lif.intake) ∧
      t.lif.rx = .hunt ∧ t.lif.lastGood = some s.now ∧ t.lif.loss = false ∧ t.lif.counts.crc = s.lif.counts.crc) ∧
    (∀ x : Byte, x ≠ crc8 (BitVec.ofNat 8 (p.length + 1) :: ty :: p) →
      receiveBytes ((frameBytes ty p).dropLast ++ [x]) s =
        .next { s with lif := { s.lif with
          gapSince := none, counts := { s.lif.counts with crc := min (s.lif.counts.crc + 1) 255 } } })

/-! ## Losing the link -/

/-- A break discards the frame in assembly and the intake queue, is counted once, sets the loss flag and, outside RUN and HOLD, the
link-lost flag alone; a second BREAK of the same low period changes nothing; BREAK_END ends the period (R11, R178). That an event that is
not due changes nothing is the model's inference (log 7), and so is that BREAK itself leaves the framing count, the character in which the
low period began being counted at its own end (log 18). -/
def Obligations.BreakFlushesTheIntake : Prop :=
  (∀ s : State, s.power = .running → s.lif.inBreak = false → s.csc.chassis ≠ .run → s.csc.chassis ≠ .hold →
    exec .lineBreak s =
      .next { s with
        csc := { s.csc with linkLost := true }
        lif := { s.lif with
          rx := .hunt, gapSince := none, intake := [], loss := true, inBreak := true
          counts := { s.lif.counts with breaks := min (s.lif.counts.breaks + 1) 255 } } }) ∧
  (∀ s : State, s.lif.inBreak = true → exec .lineBreak s = .next s) ∧
  (∀ s : State, s.power = .running → s.lif.inBreak = true →
    exec .breakEnd s = .next { s with lif := { s.lif with inBreak := false } }) ∧
  (∀ s : State, s.lif.inBreak = false → exec .breakEnd s = .next s)

/-- Link loss in RUN or HOLD, by a break (cause 3) or by the expiry of the link timer (cause 2), puts the chassis into FAILSAFE with the
teardown of every block and its reports in their order; a break also flushes the receiver and the intake queue and is counted (R10, R14,
R27, R53, R106, R177, R178). That an event that is not due changes nothing is the model's inference (log 7), and so is that the loss
flag keeps a second expiry away until a good frame (R177, log 17). -/
def Obligations.LinkLossEntersFailsafe : Prop :=
  (∀ s : State, s.power = .running → s.lif.inBreak = false → s.csc.chassis = .run ∨ s.csc.chassis = .hold →
    ∃ t, exec .lineBreak s = .next t ∧ FailsafeFrom 3 { s.lif with
      rx := .hunt, gapSince := none, intake := [], loss := true, inBreak := true
      counts := { s.lif.counts with breaks := min (s.lif.counts.breaks + 1) 255 } } s t) ∧
  (∀ (s : State) (t0 : Nat), s.power = .running → s.lif.lastGood = some t0 → s.lif.loss = false →
    (s.csc.chassis = .run ∧ s.cfg.csc.linkTimeout ≤ s.now - t0) ∨
      (s.csc.chassis = .hold ∧ s.cfg.csc.holdLinkTimeout ≤ s.now - t0) →
    ∃ t, exec .linkTimerExpiry s = .next t ∧ FailsafeFrom 2 { s.lif with loss := true } s t) ∧
  (∀ s : State,
    s.csc.chassis = .standby ∨ s.csc.chassis = .failsafe ∨ s.csc.chassis = .cutoff ∨ s.lif.lastGood = none →
    exec .linkTimerExpiry s = .next s) ∧
  (∀ s : State, s.lif.loss = true → s.csc.chassis = .run ∨ s.csc.chassis = .hold → exec .linkTimerExpiry s = .next s) ∧
  (∀ (s : State) (t0 : Nat), s.lif.lastGood = some t0 → s.csc.chassis = .run → s.now - t0 < s.cfg.csc.linkTimeout →
    exec .linkTimerExpiry s = .next s) ∧
  (∀ (s : State) (t0 : Nat), s.lif.lastGood = some t0 → s.csc.chassis = .hold → s.now - t0 < s.cfg.csc.holdLinkTimeout →
    exec .linkTimerExpiry s = .next s)

/-! ## Takings in general -/

/-- Every taken request leaves the intake queue and receives exactly one reply, of its type plus 0x80, at the end of the reply queue; a
request of a wrong length is answered BAD_LENGTH with that length and a frame whose type is not a request type UNKNOWN_TYPE under type
0x80, and these change nothing else; a request that cannot be taken waits and changes nothing (R179, R180; the waiting is the model's
choice, log 6). -/
def Obligations.EachTakenRequestGetsOneReply : Prop :=
  (∀ (i : Instr) (ty : Byte) (p : Payload) (s : State), requestOf i = some (ty, p) →
    (Takes ty p s → ∃ t f, exec i s = .next t ∧ t.lif.intake = s.lif.intake.tail ∧
      t.lif.replies = s.lif.replies ++ [f] ∧ f.type = ty + 0x80#8 ∧ t.lif.tx = s.lif.tx ∧ t.lif.rx = s.lif.rx ∧
      t.lif.lastGood = s.lif.lastGood ∧ t.lif.loss = s.lif.loss) ∧
    (¬Takes ty p s → exec i s = .next s)) ∧
  (∀ (ty : Byte) (p : Payload) (s : State), isRequestType ty = false → Takes ty p s →
    exec (.unknownTypeRequest ty p) s =
      .next { s with lif := { s.lif with
        intake := s.lif.intake.tail, replies := s.lif.replies ++ [{ type := 0x80, fields := [.u8 6, .u8 ty.toNat] }] } }) ∧
  (∀ (i : Instr) (ty : Byte) (p : Payload) (s : State), requestOf i = some (ty, p) → Takes ty p s →
    lengthAllowed ty p.length = false →
    exec i s = .next { s with lif := { s.lif with
      intake := s.lif.intake.tail
      replies := s.lif.replies ++ [{ type := ty + 0x80#8, fields := [.u8 4, .u8 p.length] }] } })

/-! ## Sending -/

/-- The transmitter starts the oldest reply if there is one, otherwise the oldest report; a sent frame frees its place; a busy or empty
line starts nothing. When its time has come a TELEMETRY report is formed with the next sequence number, posted or dropped, and the next one
is due a period later; before, nothing happens (R179, R181, R186, section 10.8). That an event that is not due changes nothing is the
model's inference (log 7). -/
def Obligations.TransmitterAndTelemetry : Prop :=
  (∀ (s : State) (f : TxFrame) (rest : List TxFrame), s.power = .running → s.lif.tx = none → s.lif.replies = f :: rest →
    exec .transmitFrameStart s =
      .next { s with lif := { s.lif with tx := some { source := .reply, bytes := frameBytes f.type f.payload } } }) ∧
  (∀ (s : State) (f : TxFrame) (rest : List TxFrame), s.power = .running → s.lif.tx = none → s.lif.replies = [] →
    s.lif.reports = f :: rest →
    exec .transmitFrameStart s =
      .next { s with lif := { s.lif with tx := some { source := .report, bytes := frameBytes f.type f.payload } } }) ∧
  (∀ s : State, s.lif.tx ≠ none ∨ (s.lif.replies = [] ∧ s.lif.reports = []) → exec .transmitFrameStart s = .next s) ∧
  (∀ (s : State) (bytes : List Byte), s.power = .running → s.lif.tx = some { source := .reply, bytes := bytes } →
    exec .frameSent s = .next { s with lif := { s.lif with tx := none, replies := s.lif.replies.tail } }) ∧
  (∀ (s : State) (bytes : List Byte), s.power = .running → s.lif.tx = some { source := .report, bytes := bytes } →
    exec .frameSent s = .next { s with lif := { s.lif with tx := none, reports := s.lif.reports.tail } }) ∧
  (∀ s : State, s.lif.tx = none → exec .frameSent s = .next s) ∧
  (∀ (s : State) (due : Nat), s.power = .running → s.lif.telNext = some due → due ≤ s.now →
    exec .telemetry s =
      .next (s.withLif (posted
        { type := 0xE6
          fields :=
            [.u16 (s.lif.telSeq + 1).toNat, .u8 s.csc.chassis.code, .u8 s.bmn.pub.stage.code, .u16 s.bmn.pub.minVc,
              .u32 s.bmn.pub.packCurrent, .i16 s.drc.df.output, .i16 s.drc.dr.output, .i16 s.smx.frontAngle,
              .i16 s.smx.rearAngle, .i32 (Int.tdiv (s.wnc.position * s.cfg.wnc.umPerCount) 1000),
              .u8 (if s.wnc.state = .braked ∧ s.csc.chassis = .cutoff then 7 else s.wnc.state.code),
              .u8 s.spg.shift.gear.code, .u8 s.csc.linkLost.toNat] }
        { s.lif with telSeq := s.lif.telSeq + 1, telNext := some (due + s.cfg.lif.telemetryMs) }))) ∧
  (∀ (s : State) (due : Nat), s.lif.telNext = some due → s.now < due → exec .telemetry s = .next s) ∧
  (∀ s : State, s.lif.telNext = none → exec .telemetry s = .next s)

/-- GET_LINK_COUNTS answers the seven counts as they stand and zeroes them when asked; UNIT_RESET LINK zeroes them and leaves the rest of
LIF as it is (R182, R191). -/
def Obligations.LinkCountsAreReadAndCleared : Prop :=
  (∀ (f : Byte) (s : State), Takes 0x52 [f] s →
    (f.toNat ≤ 1 →
      exec (.getLinkCounts [f]) s =
        .next { s with lif := { answered 0x52
          [.u8 0, .u8 s.lif.counts.crc, .u8 s.lif.counts.framing, .u8 s.lif.counts.noise, .u8 s.lif.counts.overrun,
            .u8 s.lif.counts.gap, .u8 s.lif.counts.breaks, .u8 s.lif.counts.reportDrop] s.lif with
          counts := if f.toNat = 1 then zeroCounts else s.lif.counts } }) ∧
    (2 ≤ f.toNat → exec (.getLinkCounts [f]) s = .next { s with lif := answered 0x52 [.u8 5] s.lif })) ∧
  (∀ s : State, Takes 0x50 [5] s →
    exec (.unitResetLink [5]) s = .next { s with lif := { answered 0x50 [.u8 0, .u8 5] s.lif with counts := zeroCounts } })

/-- The intake, reply and report queues never hold more than four frames each, whatever is commanded (R179, R181). -/
def Obligations.QueuesNeverHoldMoreThanFour : Prop :=
  ∀ s t : State, QueuesBounded s → step s = .next t → QueuesBounded t

/-! ## Chassis states -/

/-- SET_MOTION by the chassis state in which it is taken: the neutral check in STANDBY and FAILSAFE, the write in RUN and HOLD, the refusal
in CUTOFF (R2, R5, R6, R14). Widths of reply fields that no rule states are the model's inference (log 5). -/
def Obligations.SetMotionByChassisState : Prop :=
  ∀ (p : Payload) (s : State), Takes 0x01 p s → p.length = 4 →
    let throttle := max (-1000) (min 1000 (i16At p 0))
    let steer := max (-1000) (min 1000 (i16At p 2))
    let code : Nat := if throttle = i16At p 0 ∧ steer = i16At p 2 then 0 else 1
    let written : Setpoint := { throttle := throttle, steer := steer, valid := true }
    (s.csc.chassis = .standby ∨ s.csc.chassis = .failsafe →
      throttle.natAbs ≤ s.cfg.drc.neutral → throttle = i16At p 0 →
      exec (.setMotion p) s = .next { s with
        csc := { s.csc with chassis := .run, setpoint := written }
        lif := answered 0x01 [.u8 code, .u8 1]
          (posted { type := 0xE0, fields := [.u8 s.csc.chassis.code, .u8 1, .u8 1] } s.lif) }) ∧
    (s.csc.chassis = .standby ∨ s.csc.chassis = .failsafe →
      s.cfg.drc.neutral < throttle.natAbs ∨ throttle ≠ i16At p 0 →
      exec (.setMotion p) s = .next { s with lif := answered 0x01 [.u8 10, .u8 s.csc.chassis.code] s.lif }) ∧
    (s.csc.chassis = .run ∨ s.csc.chassis = .hold →
      exec (.setMotion p) s = .next { s with
        csc := { s.csc with setpoint := written }
        lif := answered 0x01 [.u8 code, .u8 s.csc.chassis.code] s.lif }) ∧
    (s.csc.chassis = .cutoff →
      exec (.setMotion p) s = .next { s with lif := answered 0x01 [.u8 3, .u8 4] s.lif })

/-- HOLD by the chassis state (R7), with what the drive and the winch do at the transition (R76, R101). That a channel that is not NORMAL
coasts at the transition is the model's choice (log 9). SET_MOTION goes on writing the record during the hold. Widths of reply fields that
no rule states are the model's inference (log 5). -/
def Obligations.HoldParksTheVehicle : Prop :=
  (∀ s : State, Takes 0x02 [] s → s.csc.chassis = .run →
    exec (.hold []) s = .next { s with
      csc := { s.csc with chassis := .hold, hold := some { entry := s.now, modeChange := false } }
      drc := { s.drc with
        df := { s.drc.df with target := 0, output := 0, brake := if s.drc.df.fault = .normal then 1000 else 0 }
        dr := { s.drc.dr with target := 0, output := 0, brake := if s.drc.dr.fault = .normal then 1000 else 0 } }
      wnc :=
        if s.wnc.state.driving then
          { s.wnc with
            state := .suspended, duty := 0, stall := none, reasons := { host := false, hold := true, budget := false } }
        else if s.wnc.state = .suspended then { s.wnc with reasons := { s.wnc.reasons with hold := true } }
        else s.wnc
      lif := answered 0x02 [.u8 0, .u8 2] (posted { type := 0xE0, fields := [.u8 1, .u8 2, .u8 0] } s.lif) }) ∧
  (∀ s : State, Takes 0x02 [] s → s.csc.chassis = .hold →
    exec (.hold []) s = .next { s with lif := answered 0x02 [.u8 0, .u8 2] s.lif }) ∧
  (∀ s : State, Takes 0x02 [] s → s.csc.chassis = .standby ∨ s.csc.chassis = .failsafe ∨ s.csc.chassis = .cutoff →
    exec (.hold []) s = .next { s with lif := answered 0x02 [.u8 3, .u8 s.csc.chassis.code] s.lif }) ∧
  (∀ (p : Payload) (s : State), Takes 0x01 p s → p.length = 4 → s.csc.chassis = .hold →
    ∃ t, exec (.setMotion p) s = .next t ∧ t.csc.chassis = .hold ∧ t.csc.hold = s.csc.hold ∧
      t.csc.setpoint = {
        throttle := max (-1000) (min 1000 (i16At p 0)), steer := max (-1000) (min 1000 (i16At p 2)), valid := true })

/-- RESUME in HOLD returns to RUN with no neutral check, the setpoint in force and the drive records kept; the winch loses the reason HOLD
and keeps waiting for its other reasons, or without one is restored: a pull at or past its target ends REACHED, an operation at the stop it
runs into ends LIMIT, any other runs on from duty 0 (R8, R89, R96, R98, R101). In the other states it is refused. Widths of reply fields
that no rule states are the model's inference (log 5). -/
def Obligations.ResumeReturnsToRun : Prop :=
  (∀ s : State, Takes 0x03 [] s → s.csc.chassis = .hold → s.wnc.state ≠ .suspended ∨ s.wnc.reasons.host = true ∨
      s.wnc.reasons.budget = true →
    exec (.resume []) s = .next { s with
      csc := { s.csc with chassis := .run, hold := none }
      wnc :=
        if s.wnc.state = .suspended then { s.wnc with reasons := { s.wnc.reasons with hold := false } } else s.wnc
      lif := answered 0x03 [.u8 0, .u8 1] (posted { type := 0xE0, fields := [.u8 2, .u8 1, .u8 0] } s.lif) }) ∧
  (∀ (k : WinchOp) (s : State), Takes 0x03 [] s → s.csc.chassis = .hold → s.wnc.state = .suspended →
    s.wnc.reasons.host = false → s.wnc.reasons.budget = false → s.wnc.op = some k →
    let w := s.wnc
    let reached := k = .pull ∧ ((w.dir = .inward ∧ w.position ≤ w.target) ∨ (w.dir = .outward ∧ w.target ≤ w.position))
    let stopped := w.valid = true ∧ ((w.dir = .inward ∧ w.position ≤ s.cfg.wnc.inner) ∨
      (w.dir = .outward ∧ s.cfg.wnc.outer ≤ w.position))
    let moved := posted { type := 0xE0, fields := [.u8 2, .u8 1, .u8 0] } s.lif
    let ended := fun (r : WinchResult) => Host.Outcome.next { s with
      csc := { s.csc with chassis := .run, hold := none }
      wnc := { w with state := .braked, duty := 0, op := none, reasons := noReasons, stall := none, last := r }
      lif := answered 0x03 [.u8 0, .u8 1] (posted
        { type := 0xE3, fields := [.u8 r.code, .i32 (positionMm s), .u8 w.valid.toNat, .u8 0, .u8 0, .u8 0] } moved) }
    (reached → exec (.resume []) s = ended .reached) ∧
    (¬reached → stopped → exec (.resume []) s = ended .limit) ∧
    (¬reached → ¬stopped → exec (.resume []) s = .next { s with
      csc := { s.csc with chassis := .run, hold := none }
      wnc := { w with state := k.driveState, duty := 0, stall := none, reasons := noReasons }
      lif := answered 0x03 [.u8 0, .u8 1] moved })) ∧
  (∀ s : State, Takes 0x03 [] s → s.csc.chassis = .hold →
    ∃ t, exec (.resume []) s = .next t ∧ t.csc = { s.csc with chassis := .run, hold := none } ∧ t.drc = s.drc ∧
      t.smx = s.smx ∧ t.spg = s.spg ∧ t.lcu = s.lcu ∧ t.cfg = s.cfg ∧ t.wnc.position = s.wnc.position) ∧
  (∀ s : State, Takes 0x03 [] s → s.csc.chassis ≠ .hold →
    exec (.resume []) s = .next { s with lif := answered 0x03 [.u8 3, .u8 s.csc.chassis.code] s.lif })

/-- CUTOFF_RELEASE in CUTOFF compares the lowest compensated cell of the last sweep with the SHED threshold plus the hysteresis: at or
above it the stage becomes SHED, the chassis STANDBY and the dark lamps are freed; below it nothing changes (R13, R126, R154). Widths of
reply fields that no rule states are the model's inference (log 5). The flag `restart` is the model's own (log 21). -/
def Obligations.CutoffReleaseChecksTheCells : Prop :=
  ∀ s : State, Takes 0x04 [] s →
    let level := s.cfg.bmn.levels.shed + s.cfg.bmn.levels.hysteresis
    (s.csc.chassis = .cutoff → level ≤ s.bmn.pub.minVc →
      exec (.cutoffRelease []) s = .next { s with
        csc := { s.csc with chassis := .standby }
        bmn := { s.bmn with
          stage := .shed, warnRun := 0, limitRun := 0, shedRun := 0, cutoffRun := 0, recoverRun := 0
          pub := { s.bmn.pub with stage := .shed } }
        lcu := { chans := Vector.ofFn fun k : Fin 8 =>
          if s.lcu.chans[k].forcedOff then { s.lcu.chans[k] with forcedOff := false, restart := true } else s.lcu.chans[k] }
        lif := answered 0x04 [.u8 0, .u8 0, .u16 s.bmn.pub.minVc, .u16 level]
          (posted { type := 0xE0, fields := [.u8 4, .u8 0, .u8 5] }
            (posted { type := 0xE1, fields := [.u8 4, .u8 3, .u16 s.bmn.pub.minVc] } s.lif)) }) ∧
    (s.csc.chassis = .cutoff → s.bmn.pub.minVc < level →
      exec (.cutoffRelease []) s =
        .next { s with lif := answered 0x04 [.u8 11, .u8 4, .u16 s.bmn.pub.minVc, .u16 level] s.lif }) ∧
    (s.csc.chassis ≠ .cutoff →
      exec (.cutoffRelease []) s =
        .next { s with lif := answered 0x04 [.u8 3, .u8 s.csc.chassis.code, .u16 s.bmn.pub.minVc, .u16 level] s.lif })

/-! ## Steering -/

/-- STEER_MODE: an unknown code is refused; the mode in force changes nothing; in RUN and HOLD a new mode with a blend length starts a
blend on each axle, from the live mode left or frozen at the last angle; otherwise it is in force at once; in HOLD it sets the mode-change
flag (R3, R23, R26, R27, R28). Widths of reply fields that no rule states are the model's inference (log 5), and so is that a record that
a STEER_MODE in STANDBY, FAILSAFE or CUTOFF leaves inactive has elapsed_us 0 (log 43). -/
def Obligations.SteerModeStartsTheBlends : Prop :=
  ∀ (b : Byte) (s : State), Takes 0x08 [b] s →
    (4 ≤ b.toNat →
      exec (.steerMode [b]) s = .next { s with
        lif := answered 0x08 [.u8 5, .u8 s.smx.target.code, .u8 s.smx.frontBlend.active.toNat,
          .u8 s.smx.rearBlend.active.toNat] s.lif }) ∧
    (b.toNat = s.smx.target.code →
      exec (.steerMode [b]) s = .next { s with
        lif := answered 0x08 [.u8 0, .u8 s.smx.target.code, .u8 s.smx.frontBlend.active.toNat,
          .u8 s.smx.rearBlend.active.toNat] s.lif }) ∧
    (∀ m : SteerMode, m.code = b.toNat → m ≠ s.smx.target →
      (s.csc.chassis = .run ∨ s.csc.chassis = .hold → s.cfg.smx.blendMs ≠ 0 →
        exec (.steerMode [b]) s = .next { s with
          csc := if s.csc.chassis = .hold then
              { s.csc with hold := s.csc.hold.map fun h => { h with modeChange := true } } else s.csc
          smx := { s.smx with
            target := m
            frontBlend := if s.smx.frontBlend.active then
                { s.smx.frontBlend with fromKind := .frozen, frozen := s.smx.frontAngle, elapsedUs := 0 }
              else { s.smx.frontBlend with fromKind := .mode, fromMode := s.smx.target, elapsedUs := 0, active := true }
            rearBlend := if s.smx.rearBlend.active then
                { s.smx.rearBlend with fromKind := .frozen, frozen := s.smx.rearAngle, elapsedUs := 0 }
              else { s.smx.rearBlend with fromKind := .mode, fromMode := s.smx.target, elapsedUs := 0, active := true } }
          lif := answered 0x08 [.u8 0, .u8 m.code, .u8 1, .u8 1] s.lif }) ∧
      ((s.csc.chassis ≠ .run ∧ s.csc.chassis ≠ .hold) ∨ s.cfg.smx.blendMs = 0 →
        exec (.steerMode [b]) s = .next { s with
          csc := if s.csc.chassis = .hold then
              { s.csc with hold := s.csc.hold.map fun h => { h with modeChange := true } } else s.csc
          smx := { s.smx with
            target := m
            frontBlend := { s.smx.frontBlend with active := false, elapsedUs := 0 }
            rearBlend := { s.smx.rearBlend with active := false, elapsedUs := 0 } }
          lif := answered 0x08 [.u8 0, .u8 m.code, .u8 0, .u8 0] s.lif }))

/-- CURVE_BEGIN opens a load with its pointer at 0 and its shadow equal to the active copy, and starts an open one again; it is refused
BUSY while the table is PENDING or a store runs, BAD_VALUE for an id above 2 (R32, R33). Where no table is named the pointer of the reply
is a free value, the model's choice (log 3). Widths that no rule states are the model's (logs 4 and 5). That BUSY is judged before the
table is the model's choice (log 15). -/
def Obligations.CurveBeginOpensTheLoad : Prop :=
  ∀ (b : Byte) (s : State), Takes 0x09 [b] s →
    (∀ id : CurveId, curveIdOf b.toNat = some id →
      (s.pst.writing = none → (s.smx.load id).state ≠ .pending →
        exec (.curveBegin [b]) s = .next { s with
          smx := s.smx.setLoad id { state := .opened, pointer := 0, shadow := activeTable s.cfg id }
          lif := answered 0x09 [.u8 0, .u8 b.toNat, .unsized .curveBeginPointer 0] s.lif }) ∧
      (s.pst.writing ≠ none ∨ (s.smx.load id).state = .pending →
        exec (.curveBegin [b]) s = .next { s with
          lif := answered 0x09 [.u8 2, .u8 b.toNat, .unsized .curveBeginPointer (s.smx.load id).pointer] s.lif })) ∧
    (3 ≤ b.toNat →
      exec (.curveBegin [b]) s = .next { s with
        freeIndex := s.freeIndex + 1
        lif := answered 0x09 [.u8 (if s.pst.writing = none then 5 else 2), .u8 b.toNat,
          .unsized .curveBeginPointer (Config.freeValue s.freeIndex)] s.lif })

/-- CURVE_DATA in OPEN writes its values, clamped, from the pointer on until the table is full and touches no other entry; in the other
states it writes nothing, and a table field above 2 is refused BAD_VALUE (R32, R34). Where no table is named the pointer of the reply is a
free value, the model's choice (log 3). Widths that no rule states are the model's (logs 4 and 5). That BUSY is judged before the table is
the model's choice (log 15). -/
def Obligations.CurveDataFillsTheShadow : Prop :=
  (∀ (id : CurveId) (b : Byte) (vs : List Byte) (s : State), Takes 0x0A (b :: vs) s → curveIdOf b.toNat = some id →
    lengthAllowed 0x0A (vs.length + 1) = true →
    (s.pst.writing = none → (s.smx.load id).state = .opened → (s.smx.load id).pointer ≤ 17 →
      ∃ t, exec (.curveData (b :: vs)) s = .next t ∧
        t = { s with
          smx := s.smx.setLoad id (t.smx.load id)
          lif := answered 0x0A
            [.u8 (if 17 < (s.smx.load id).pointer + (i16List vs).length then 8
                else if ∀ v ∈ i16List vs, -1000 ≤ v ∧ v ≤ 1000 then 0 else 1),
              .unsized .curveDataCount (((t.smx.load id).pointer : Int) - (s.smx.load id).pointer),
              .unsized .curveDataPointer (t.smx.load id).pointer] s.lif } ∧
        (t.smx.load id).state = .opened ∧
        (t.smx.load id).pointer = min 17 ((s.smx.load id).pointer + (i16List vs).length) ∧
        (∀ j : Fin 17, (s.smx.load id).pointer ≤ j.val → j.val < (t.smx.load id).pointer →
          (t.smx.load id).shadow[j] =
            max (-1000) (min 1000 ((i16List vs).getD (j.val - (s.smx.load id).pointer) 0))) ∧
        (∀ j : Fin 17, j.val < (s.smx.load id).pointer ∨ (t.smx.load id).pointer ≤ j.val →
          (t.smx.load id).shadow[j] = (s.smx.load id).shadow[j])) ∧
    (s.pst.writing ≠ none ∨ (s.smx.load id).state ≠ .opened →
      exec (.curveData (b :: vs)) s = .next { s with
        lif := answered 0x0A [.u8 (if s.pst.writing = none then 3 else 2), .unsized .curveDataCount 0,
          .unsized .curveDataPointer (s.smx.load id).pointer] s.lif })) ∧
  (∀ (b : Byte) (vs : List Byte) (s : State), Takes 0x0A (b :: vs) s → 3 ≤ b.toNat → lengthAllowed 0x0A (vs.length + 1) = true →
    exec (.curveData (b :: vs)) s = .next { s with
      freeIndex := s.freeIndex + 1
      lif := answered 0x0A [.u8 (if s.pst.writing = none then 5 else 2), .unsized .curveDataCount 0,
        .unsized .curveDataPointer (Config.freeValue s.freeIndex)] s.lif })

/-- CURVE_COMMIT in OPEN accepts a table whose entry 8 is 0 and whose entries never fall, which then waits PENDING with its shadow kept, and
refuses any other naming the first rule it breaks, the load staying open; an accepted table comes into force at the first frame start of its
axle, or for THROTTLE at the next drive update, in every chassis state, and its load closes: that frame start and that update compute as
they would with the new table in force and the load closed; a table field above 2 is refused BAD_VALUE (R16, R32, R35, R36). Where no check
is made the check code and the index of the reply are free values, the model's choice (log 3). That BUSY is judged before the table is the
model's choice (log 15). -/
def Obligations.CurveCommitChecksTheTable : Prop :=
  (∀ (id : CurveId) (b : Byte) (s : State), Takes 0x0B [b] s → curveIdOf b.toNat = some id →
    let t := (s.smx.load id).shadow
    (s.pst.writing = none → (s.smx.load id).state = .opened →
      (t[8] = 0 → (∀ i : Fin 16, t[i.val] ≤ t[i.val + 1]) →
        exec (.curveCommit [b]) s = .next { s with
          smx := s.smx.setLoad id { s.smx.load id with state := .pending }
          lif := answered 0x0B [.u8 0, .u8 0, .u8 0] s.lif }) ∧
      (t[8] ≠ 0 → exec (.curveCommit [b]) s = .next { s with lif := answered 0x0B [.u8 5, .u8 1, .u8 8] s.lif }) ∧
      (∀ i : Fin 16, t[8] = 0 → t[i.val + 1] < t[i.val] → (∀ j : Fin 16, j < i → t[j.val] ≤ t[j.val + 1]) →
        exec (.curveCommit [b]) s = .next { s with lif := answered 0x0B [.u8 5, .u8 2, .u8 (i.val + 1)] s.lif })) ∧
    (s.pst.writing ≠ none ∨ (s.smx.load id).state ≠ .opened →
      exec (.curveCommit [b]) s = .next { s with
        freeIndex := s.freeIndex + 2
        lif := answered 0x0B [.u8 (if s.pst.writing = none then 3 else 2), .u8 (Config.freeValue s.freeIndex),
          .u8 (Config.freeValue (s.freeIndex + 1))] s.lif })) ∧
  (∀ (b : Byte) (s : State), Takes 0x0B [b] s → 3 ≤ b.toNat →
    exec (.curveCommit [b]) s = .next { s with
      freeIndex := s.freeIndex + 2
      lif := answered 0x0B [.u8 (if s.pst.writing = none then 5 else 2), .u8 (Config.freeValue s.freeIndex),
        .u8 (Config.freeValue (s.freeIndex + 1))] s.lif }) ∧
  (∀ (axle : Axle) (s : State), s.power = .running → (s.smx.load (axleCurve axle)).state = .pending →
    ∃ t, exec (.servoFrameStart (axleServo axle)) s = .next t ∧
      activeTable t.cfg (axleCurve axle) = (s.smx.load (axleCurve axle)).shadow ∧
      t.smx.load (axleCurve axle) =
        { state := .closed, pointer := 0, shadow := (s.smx.load (axleCurve axle)).shadow }) ∧
  (∀ s : State, s.power = .running → s.smx.frontLoad.state = .pending →
    exec (.servoFrameStart .fs) s = exec (.servoFrameStart .fs) { s with
      cfg := { s.cfg with smx := { s.cfg.smx with frontTable := s.smx.frontLoad.shadow } }
      smx := { s.smx with frontLoad := { state := .closed, pointer := 0, shadow := s.smx.frontLoad.shadow } } }) ∧
  (∀ s : State, s.power = .running → s.smx.rearLoad.state = .pending →
    exec (.servoFrameStart .rs) s = exec (.servoFrameStart .rs) { s with
      cfg := { s.cfg with smx := { s.cfg.smx with rearTable := s.smx.rearLoad.shadow } }
      smx := { s.smx with rearLoad := { state := .closed, pointer := 0, shadow := s.smx.rearLoad.shadow } } }) ∧
  (∀ (ch : DriveCh) (current : Nat) (s : State), s.power = .running → s.smx.throttleLoad.state = .pending →
    exec (.driveUpdate ch current) s = exec (.driveUpdate ch current) { s with
      cfg := { s.cfg with drc := { s.cfg.drc with throttleTable := s.smx.throttleLoad.shadow } }
      smx := { s.smx with throttleLoad := { state := .closed, pointer := 0, shadow := s.smx.throttleLoad.shadow } } }) ∧
  (∀ (ch : DriveCh) (current : Nat) (s : State), s.power = .running → (s.smx.load .throttle).state = .pending →
    ∃ t, exec (.driveUpdate ch current) s = .next t ∧ t.cfg.drc.throttleTable = (s.smx.load .throttle).shadow ∧
      t.smx.load .throttle = { state := .closed, pointer := 0, shadow := (s.smx.load .throttle).shadow })

/-- The frame start of an axle's servo in RUN computes the axle's angle from the setpoint, the tables and the target mode, moving a blend on
by one frame period: at weight 256 the angle is the new mode's exactly and the blend is over. In FAILSAFE it computes the angle of the steer
value 0 with the option CENTER and keeps the last one with HOLD_ANGLE; in the other states it keeps it. The mixer and the pulse generator
apart, only the channel's endpoints change, a waiting set coming into force, and BLEND_END is this same frame start. The angle of an axle
under a mode is its table's interpolated value, with the ratio for the rear axle in COUNTER and CRAB; interpolation goes through the table's
entries at the multiples of 125; from tables, steer values and blends within 1000 the angle is within 1000 (R16, R17, R19, R20, R24, R36).
That the frame start runs whole at the event row when its outcome is due, and nothing happens when it is not, is the model's inference (logs
7 and 8). -/
def Obligations.AxleFrameMixesTheAngle : Prop :=
  (∀ (cfg : SmxCfg) (v : Int),
    let cf := interpolate cfg.frontTable v
    let cr := interpolate cfg.rearTable v
    let scaled := max (-1000) (min 1000 (Int.tdiv (cr * cfg.ratio) 1024))
    modeAngle cfg .front .front v = cf ∧ modeAngle cfg .front .rear v = 0 ∧ modeAngle cfg .front .counter v = cf ∧
      modeAngle cfg .front .crab v = cf ∧ modeAngle cfg .rear .front v = 0 ∧ modeAngle cfg .rear .rear v = cr ∧
      modeAngle cfg .rear .counter v = scaled ∧ modeAngle cfg .rear .crab v = -scaled) ∧
  (∀ (t : CurveTable) (k : Fin 16) (r : Nat), r < 125 ∨ (k = 15 ∧ r = 125) →
    interpolate t (-1000 + 125 * (k.val : Int) + r) = t[k.val] + Int.tdiv ((t[k.val + 1] - t[k.val]) * r) 125) ∧
  (∀ (t : CurveTable) (i : Fin 17), interpolate t (-1000 + 125 * (i.val : Int)) = t[i]) ∧
  ∀ (axle : Axle) (s : State), s.power = .running → (s.smx.load (axleCurve axle)).state ≠ .pending →
    let v := if s.csc.setpoint.valid then s.csc.setpoint.steer else 0
    let goal := modeAngle s.cfg.smx axle s.smx.target v
    let b := s.smx.blend axle
    let elapsed := min (b.elapsedUs + 1000 * s.cfg.spg.period (axleServo axle)) 2020000
    let w := if s.cfg.smx.blendMs = 0 then 256 else min 256 (elapsed * 256 / (s.cfg.smx.blendMs * 1000))
    let origin := match b.fromKind with
      | .mode => modeAngle s.cfg.smx axle b.fromMode v
      | .frozen => b.frozen
    let bounded := fun a : Int => -1000 ≤ a ∧ a ≤ 1000
    ∃ t, exec (.servoFrameStart (axleServo axle)) s = .next t ∧
      (s.csc.chassis = .run → b.active = false → t.smx = s.smx.setAngle axle goal) ∧
      (s.csc.chassis = .run → b.active = true → w ≠ 256 →
        t.smx = (s.smx.setBlend axle { b with elapsedUs := elapsed }).setAngle axle
          (origin + Int.tdiv ((goal - origin) * w) 256)) ∧
      (s.csc.chassis = .run → b.active = true → w = 256 →
        t.smx = (s.smx.setBlend axle { b with elapsedUs := elapsed, active := false }).setAngle axle goal ∧
          exec (.blendEnd axle) s = .next t) ∧
      (s.csc.chassis ≠ .run ∨ b.active = false ∨ w ≠ 256 → exec (.blendEnd axle) s = .next s) ∧
      (s.csc.chassis = .failsafe → s.cfg.smx.failsafeSteer = .center →
        t.smx = s.smx.setAngle axle (modeAngle s.cfg.smx axle s.smx.target 0)) ∧
      (s.csc.chassis = .failsafe → s.cfg.smx.failsafeSteer = .holdAngle → t.smx = s.smx) ∧
      (s.csc.chassis = .standby ∨ s.csc.chassis = .hold ∨ s.csc.chassis = .cutoff → t.smx = s.smx) ∧
      ((∀ i : Fin 17, bounded s.cfg.smx.frontTable[i] ∧ bounded s.cfg.smx.rearTable[i]) → bounded s.csc.setpoint.steer →
        bounded b.frozen → bounded (s.smx.angle axle) → bounded (t.smx.angle axle)) ∧
      t = { s with
        smx := t.smx
        spg := { t.spg with shift := s.spg.shift }
        cfg := { s.cfg with spg := match (s.spg.chan (axleServo axle)).waiting with
          | some e => s.cfg.spg.setEnds (axleServo axle) e
          | none => s.cfg.spg } }

/-! ## Servo channels and the gear shift -/

/-- SERVO_ENDS accepts a set, clamped, whose centre lies strictly between its ends (SH: whose ends differ) and which fits the frame period
in force; it comes into force at the channel's next frame start, where the pulse is clamped into the new range and, in RUN and FAILSAFE,
slewed within it, from angles within 1000 (R39, R41, R42, R56). For a channel above 2 the three values of the reply are free, the model's
choice (log 3). Widths of reply fields that no rule states are the model's inference (log 5). That BUSY is judged before the channel, that
SH answers the centre 0 and that a refusal answers a set that waits are the model's (logs 15, 19 and 34). -/
def Obligations.ServoEndpointsAreAccepted : Prop :=
  (∀ (p : Payload) (ch : ServoCh) (s : State), Takes 0x10 p s → p.length = 7 → servoChOf (u8At p 0) = some ch →
    let asked := fun i : Nat => max 4000 (min 20000 (u16At p i : Int))
    let e : Endpoints := { left := asked 1, center := if ch = .sh then 0 else asked 3, right := asked 5 }
    let kept := (s.spg.chan ch).waiting.getD (s.cfg.spg.ends ch)
    let good := (if ch = .sh then e.left ≠ e.right
        else (e.left < e.center ∧ e.center < e.right) ∨ (e.right < e.center ∧ e.center < e.left)) ∧
      max e.left e.right ≤ (((s.spg.chan ch).periodMs : Int) * 1000 - 500) * 8
    let exact := asked 1 = u16At p 1 ∧ asked 5 = u16At p 5 ∧ (ch = .sh ∨ asked 3 = u16At p 3)
    let fields := fun (code : Nat) (x : Endpoints) =>
      [Field.u8 code, .u8 (u8At p 0), .u16 x.left.toNat, .u16 x.center.toNat, .u16 x.right.toNat]
    (s.pst.writing = none → good →
      exec (.servoEnds p) s = .next { s with
        spg := s.spg.setChan ch { s.spg.chan ch with waiting := some e }
        lif := answered 0x10 (fields (if exact then 0 else 1) e) s.lif }) ∧
    (s.pst.writing = none → ¬good → exec (.servoEnds p) s = .next { s with lif := answered 0x10 (fields 5 kept) s.lif }) ∧
    (s.pst.writing ≠ none → exec (.servoEnds p) s = .next { s with lif := answered 0x10 (fields 2 kept) s.lif })) ∧
  (∀ (p : Payload) (s : State), Takes 0x10 p s → p.length = 7 → 3 ≤ u8At p 0 →
    exec (.servoEnds p) s = .next { s with
      freeIndex := s.freeIndex + 3
      lif := answered 0x10 [.u8 (if s.pst.writing = none then 5 else 2), .u8 (u8At p 0),
        .u16 (Config.freeValue s.freeIndex), .u16 (Config.freeValue (s.freeIndex + 1)),
        .u16 (Config.freeValue (s.freeIndex + 2))] s.lif }) ∧
  (∀ (ch : ServoCh) (e : Endpoints) (s : State), s.power = .running → (s.spg.chan ch).waiting = some e →
    ∃ t, exec (.servoFrameStart ch) s = .next t ∧ t.cfg.spg.ends ch = e ∧ (t.spg.chan ch).waiting = none ∧
      (s.csc.chassis = .standby ∨ s.csc.chassis = .hold ∨ s.csc.chassis = .cutoff →
        (t.spg.chan ch).pOut = max (min e.left e.right) (min (max e.left e.right) (s.spg.chan ch).pOut)) ∧
      (s.csc.chassis = .run ∨ s.csc.chassis = .failsafe →
        ch = .sh ∨ (((e.left < e.center ∧ e.center < e.right) ∨ (e.right < e.center ∧ e.center < e.left)) ∧
          ∀ axle, ch = axleServo axle → -1000 ≤ t.smx.angle axle ∧ t.smx.angle axle ≤ 1000) →
        min e.left e.right ≤ (t.spg.chan ch).pOut ∧ (t.spg.chan ch).pOut ≤ max e.left e.right))

/-- A frame start of a steering servo slews the pulse toward the angle's pulse in RUN and FAILSAFE, holds it in the other states, and emits
it through the carry accumulator in RUN, HOLD and FAILSAFE: eight times the width and the new carry make up the pulse and the old carry. In
STANDBY and CUTOFF the line stays inactive. The other channels are untouched. The shift servo SH emits in the same way, and in STANDBY and
CUTOFF its frame start holds the pulse and the shift record. The slew reaches a target at most the effective slew away and otherwise moves
by it toward the target; the selector's endpoint of LOW is the left one, that of HIGH the right one (R39 to R41, R43 to R48, R51). -/
def Obligations.SteeringServoSlewsAndEmits : Prop :=
  (∀ (x goal : Int) (e : Nat),
    slewToward x goal e = if (goal - x).natAbs ≤ e then goal else if x < goal then x + e else x - e) ∧
  (∀ e : Endpoints, gearEndpoint e .low = e.left ∧ gearEndpoint e .high = e.right) ∧
  (∀ s : State, s.power = .running → s.spg.sh.waiting = none →
    let c := s.spg.sh
    ∃ t, exec (.servoFrameStart .sh) s = .next t ∧
      (s.csc.chassis = .run ∨ s.csc.chassis = .failsafe →
        t.spg.sh.effSlew = max 1 ((if s.cfg.spg.shSlew = 0 then 16000 else s.cfg.spg.shSlew) * s.pba.pub.servoFactor / 1024)) ∧
      (s.csc.chassis = .run ∨ s.csc.chassis = .hold ∨ s.csc.chassis = .failsafe → 0 ≤ c.acc → c.acc < 8 → 0 ≤ t.spg.sh.pOut →
        8 * t.spg.sh.lineWidth + t.spg.sh.acc = t.spg.sh.pOut + c.acc ∧ 0 ≤ t.spg.sh.acc ∧ t.spg.sh.acc < 8 ∧
          t.spg.sh.lastWidth = t.spg.sh.lineWidth ∧ servoLine t .sh = t.spg.sh.lineWidth) ∧
      (s.csc.chassis = .standby ∨ s.csc.chassis = .cutoff →
        t.spg.sh.pOut = c.pOut ∧ t.spg.sh.acc = c.acc ∧ t.spg.sh.lastWidth = c.lastWidth ∧ servoLine t .sh = 0 ∧
          t.spg.shift = s.spg.shift ∧ t.lif = s.lif) ∧
      t.spg.sh.periodMs = s.cfg.spg.shPeriod ∧ t.spg.sh.waiting = none ∧ t.spg.fs = s.spg.fs ∧ t.spg.rs = s.spg.rs ∧ t.smx = s.smx ∧
      t.cfg = s.cfg) ∧
  ∀ (axle : Axle) (s : State), s.power = .running → (s.spg.chan (axleServo axle)).waiting = none →
    let c := s.spg.chan (axleServo axle)
    let ends := s.cfg.spg.ends (axleServo axle)
    let slew := s.cfg.spg.slew (axleServo axle)
    let e : Nat := max 1 ((if slew = 0 then 16000 else slew) * s.pba.pub.servoFactor / 1024)
    ∃ t, exec (.servoFrameStart (axleServo axle)) s = .next t ∧
      (s.csc.chassis = .run ∨ s.csc.chassis = .failsafe →
        (t.spg.chan (axleServo axle)).effSlew = e ∧
        (t.spg.chan (axleServo axle)).pOut =
          slewToward c.pOut
            (if 0 ≤ t.smx.angle axle then
              ends.center + Int.tdiv ((ends.right - ends.center) * t.smx.angle axle) 1000
            else ends.center + Int.tdiv ((ends.center - ends.left) * t.smx.angle axle) 1000) e) ∧
      (s.csc.chassis = .standby ∨ s.csc.chassis = .hold ∨ s.csc.chassis = .cutoff →
        (t.spg.chan (axleServo axle)).pOut = c.pOut ∧ t.smx.angle axle = s.smx.angle axle) ∧
      (s.csc.chassis = .run ∨ s.csc.chassis = .hold ∨ s.csc.chassis = .failsafe →
        0 ≤ c.acc → c.acc < 8 → 0 ≤ (t.spg.chan (axleServo axle)).pOut →
        8 * (t.spg.chan (axleServo axle)).lineWidth + (t.spg.chan (axleServo axle)).acc =
            (t.spg.chan (axleServo axle)).pOut + c.acc ∧
          0 ≤ (t.spg.chan (axleServo axle)).acc ∧ (t.spg.chan (axleServo axle)).acc < 8 ∧
          (t.spg.chan (axleServo axle)).lastWidth = (t.spg.chan (axleServo axle)).lineWidth ∧
          servoLine t (axleServo axle) = (t.spg.chan (axleServo axle)).lineWidth) ∧
      (s.csc.chassis = .standby ∨ s.csc.chassis = .cutoff →
        servoLine t (axleServo axle) = 0 ∧ (t.spg.chan (axleServo axle)).acc = c.acc ∧
          (t.spg.chan (axleServo axle)).lastWidth = c.lastWidth) ∧
      (t.spg.chan (axleServo axle)).periodMs = s.cfg.spg.period (axleServo axle) ∧
      (∀ ch, ch ≠ axleServo axle → t.spg.chan ch = s.spg.chan ch) ∧ t.spg.shift = s.spg.shift

/-- In HOLD, where the pulse stands still, the widths of any eight frames add up to the pulse taken as microseconds, whatever carry they
begin with, and the carry comes back to where it was (R46, R47). -/
def Obligations.EightPulsesCarryTheWholePulse : Prop :=
  ∀ (ch : ServoCh) (s : State), s.power = .running → s.csc.chassis = .hold → (s.spg.chan ch).waiting = none →
    0 ≤ (s.spg.chan ch).acc → (s.spg.chan ch).acc < 8 → 0 ≤ (s.spg.chan ch).pOut →
    (emittedWidths ch 8 s).sum = (s.spg.chan ch).pOut ∧ (emittedWidths ch 8 s).length = 8 ∧
      (∀ w ∈ emittedWidths ch 8 s, w = (s.spg.chan ch).pOut / 8 ∨
        (w = (s.spg.chan ch).pOut / 8 + 1 ∧ ¬8 ∣ (s.spg.chan ch).pOut)) ∧
      ∃ t, frameStarts ch 8 s = .next t ∧ (t.spg.chan ch).acc = (s.spg.chan ch).acc ∧
        (t.spg.chan ch).pOut = (s.spg.chan ch).pOut

/-- GEAR by the chassis state and the shift record; a value above 1 taken outside RUN and HOLD, of which R49 gives two answers and no order,
is a subject of `EasingShiftMovesOrIsAbandoned` (R49, R55). -/
def Obligations.GearStartsAndCancelsShifts : Prop :=
  ∀ (b : Byte) (s : State), Takes 0x11 [b] s →
    let x := s.spg.shift
    let fields := fun (code : Nat) (y : Shift) =>
      [Field.u8 code, .u8 y.gear.code, .u8 (pendingGearCode y.pending), .u8 y.phase.code, .u16 y.latched]
    let unchanged := fun code : Nat => Host.Outcome.next { s with lif := answered 0x11 (fields code x) s.lif }
    (2 ≤ b.toNat → s.csc.chassis = .run ∨ s.csc.chassis = .hold → exec (.gear [b]) s = unchanged 5) ∧
    (∀ g : Gear, g.code = b.toNat →
      (s.csc.chassis = .standby ∨ s.csc.chassis = .failsafe ∨ s.csc.chassis = .cutoff → exec (.gear [b]) s = unchanged 3) ∧
      (s.csc.chassis = .run ∨ s.csc.chassis = .hold →
        (x.phase = .idle → g = x.gear → exec (.gear [b]) s = unchanged 0) ∧
        (x.phase ≠ .idle → x.pending = some g → exec (.gear [b]) s = unchanged 0) ∧
        (x.phase = .easing → g = x.gear → x.pending ≠ some g →
          let y : Shift := { x with pending := none, phase := .idle, waitMs := 0, settleMs := 0 }
          exec (.gear [b]) s = .next { s with
            spg := { s.spg with shift := y }
            lif := answered 0x11 (fields 0 y)
              (posted { type := 0xE2, fields := [.u8 1, .u8 g.code, .u8 (pendingGearCode x.pending)] } s.lif) }) ∧
        (x.phase = .moving ∨ x.phase = .settling → g = x.gear → x.pending ≠ some g →
          exec (.gear [b]) s = unchanged 2) ∧
        (x.phase = .idle → g ≠ x.gear →
          let y : Shift := { x with
            phase := .easing, pending := some g, latched := s.cfg.spg.shiftThreshold, waitMs := 0, settleMs := 0 }
          exec (.gear [b]) s = .next { s with
            spg := { s.spg with shift := y }, lif := answered 0x11 (fields 0 y) s.lif })))

/-- A shift in EASING at an SH frame start in RUN: with both drive outputs within the latched threshold it moves off, settling or completes
at once where the selector already arrives; otherwise the wait grows by a frame period and the shift is abandoned when the wait time is
reached, which is SHIFT_WAIT_EXPIRY. A shift in MOVING, in RUN or FAILSAFE, slews the selector toward the pending gear's endpoint, settles
where it arrives and completes there with a settle time of 0, the slew as SteeringServoSlewsAndEmits writes it out (R45, R48, R50, R51,
R55). That the frame start runs whole at the event row when its
outcome is due, and nothing happens when it is not, is the model's inference (logs 7 and 8). That a GEAR above 1 taken outside RUN and HOLD
is answered BAD_VALUE is the model's choice (log 35). -/
def Obligations.EasingShiftMovesOrIsAbandoned : Prop :=
  (∀ (b : Byte) (s : State), Takes 0x11 [b] s → 2 ≤ b.toNat → s.csc.chassis ≠ .run → s.csc.chassis ≠ .hold →
    let x := s.spg.shift
    exec (.gear [b]) s = .next { s with
      lif := answered 0x11 [.u8 5, .u8 x.gear.code, .u8 (pendingGearCode x.pending), .u8 x.phase.code, .u16 x.latched] s.lif }) ∧
  (∀ (g : Gear) (s : State), s.power = .running → s.csc.chassis = .run ∨ s.csc.chassis = .failsafe →
    s.spg.shift.phase = .moving → s.spg.shift.pending = some g → s.spg.sh.waiting = none →
    let x := s.spg.shift
    let goal := gearEndpoint s.cfg.spg.shEnds g
    let arrived := slewToward s.spg.sh.pOut goal (effectiveSlew s.cfg.spg.shSlew s.pba.pub.servoFactor)
    ∃ t, exec (.servoFrameStart .sh) s = .next t ∧ t.spg.sh.pOut = arrived ∧
      (arrived ≠ goal → t.spg.shift = x ∧ t.lif = s.lif ∧ exec .shiftSettleExpiry s = .next s) ∧
      (arrived = goal → s.cfg.spg.shiftSettle ≠ 0 →
        t.spg.shift = { x with phase := .settling, settleMs := 0 } ∧ t.lif = s.lif ∧ exec .shiftSettleExpiry s = .next s) ∧
      (arrived = goal → s.cfg.spg.shiftSettle = 0 →
        t.spg.shift = { x with gear := g, pending := none, phase := .idle, waitMs := 0, settleMs := 0 } ∧
          t.lif = posted { type := 0xE2, fields := [.u8 0, .u8 g.code, .u8 g.code] } s.lif ∧
          exec .shiftSettleExpiry s = .next t) ∧
      t.csc = s.csc ∧ t.smx = s.smx ∧ t.drc = s.drc ∧ t.wnc = s.wnc ∧ t.lcu = s.lcu ∧ t.cfg = s.cfg ∧ t.spg.fs = s.spg.fs ∧
      t.spg.rs = s.spg.rs) ∧
  ∀ (g : Gear) (s : State), s.power = .running → s.csc.chassis = .run → s.spg.shift.phase = .easing →
    s.spg.shift.pending = some g → s.spg.sh.waiting = none →
    let x := s.spg.shift
    let eased := s.drc.df.output.natAbs ≤ x.latched ∧ s.drc.dr.output.natAbs ≤ x.latched
    let wait := min (x.waitMs + s.cfg.spg.shPeriod) 5020
    let e := effectiveSlew s.cfg.spg.shSlew s.pba.pub.servoFactor
    let arrived := slewToward s.spg.sh.pOut (gearEndpoint s.cfg.spg.shEnds g) e
    ∃ t, exec (.servoFrameStart .sh) s = .next t ∧
      (¬eased → t.spg.sh.pOut = slewToward s.spg.sh.pOut (gearEndpoint s.cfg.spg.shEnds x.gear) e) ∧
      (eased → t.spg.sh.pOut = arrived ∧ exec .shiftWaitExpiry s = .next s ∧
        (arrived ≠ gearEndpoint s.cfg.spg.shEnds g →
          t.spg.shift = { x with phase := .moving } ∧ t.lif = s.lif) ∧
        (arrived = gearEndpoint s.cfg.spg.shEnds g → s.cfg.spg.shiftSettle ≠ 0 →
          t.spg.shift = { x with phase := .settling, settleMs := 0 } ∧ t.lif = s.lif) ∧
        (arrived = gearEndpoint s.cfg.spg.shEnds g → s.cfg.spg.shiftSettle = 0 →
          t.spg.shift = { x with gear := g, pending := none, phase := .idle, waitMs := 0, settleMs := 0 } ∧
            t.lif = posted { type := 0xE2, fields := [.u8 0, .u8 g.code, .u8 g.code] } s.lif ∧
            exec .shiftSettleExpiry s = .next t)) ∧
      (¬eased → wait < s.cfg.spg.shiftWait →
        t.spg.shift = { x with waitMs := wait } ∧ t.lif = s.lif ∧ exec .shiftWaitExpiry s = .next s) ∧
      (¬eased → s.cfg.spg.shiftWait ≤ wait →
        t.spg.shift = { x with pending := none, phase := .idle, waitMs := 0, settleMs := 0 } ∧
          t.lif = posted { type := 0xE2, fields := [.u8 2, .u8 x.gear.code, .u8 g.code] } s.lif ∧
          exec .shiftWaitExpiry s = .next t) ∧
      t.csc = s.csc ∧ t.smx = s.smx ∧ t.drc = s.drc ∧ t.wnc = s.wnc ∧ t.lcu = s.lcu ∧ t.cfg = s.cfg ∧ t.spg.fs = s.spg.fs ∧
      t.spg.rs = s.spg.rs

/-- A shift in SETTLING at an SH frame start in RUN or FAILSAFE: the settle time grows by a frame period and, when it reaches the settle
time in force, the gear is engaged and SHIFT_END DONE posted, which is SHIFT_SETTLE_EXPIRY. With no shift going on the selector is slewed
toward the engaged gear's endpoint, the slew as SteeringServoSlewsAndEmits writes it out. In HOLD the shift record is frozen and the
selector held (R45, R48, R51, R53, R55). That the frame start runs whole at the event row when its outcome is due, and nothing happens when
it is not, is the model's inference (logs 7 and 8). -/
def Obligations.SettlingShiftCompletes : Prop :=
  (∀ (g : Gear) (s : State), s.power = .running → s.csc.chassis = .run ∨ s.csc.chassis = .failsafe →
    s.spg.shift.phase = .settling → s.spg.shift.pending = some g → s.spg.sh.waiting = none →
    let x := s.spg.shift
    let settle := min (x.settleMs + s.cfg.spg.shPeriod) 1020
    ∃ t, exec (.servoFrameStart .sh) s = .next t ∧
      t.spg.sh.pOut = slewToward s.spg.sh.pOut (gearEndpoint s.cfg.spg.shEnds g)
        (effectiveSlew s.cfg.spg.shSlew s.pba.pub.servoFactor) ∧
      (settle < s.cfg.spg.shiftSettle →
        t.spg.shift = { x with settleMs := settle } ∧ t.lif = s.lif ∧ exec .shiftSettleExpiry s = .next s) ∧
      (s.cfg.spg.shiftSettle ≤ settle →
        t.spg.shift = { x with gear := g, pending := none, phase := .idle, waitMs := 0, settleMs := 0 } ∧
          t.lif = posted { type := 0xE2, fields := [.u8 0, .u8 g.code, .u8 g.code] } s.lif ∧
          exec .shiftSettleExpiry s = .next t) ∧
      t.csc = s.csc ∧ t.smx = s.smx ∧ t.drc = s.drc ∧ t.wnc = s.wnc ∧ t.cfg = s.cfg) ∧
  (∀ s : State, s.power = .running → s.csc.chassis = .run ∨ s.csc.chassis = .failsafe → s.spg.shift.phase = .idle →
    s.spg.sh.waiting = none →
    ∃ t, exec (.servoFrameStart .sh) s = .next t ∧ t.spg.shift = s.spg.shift ∧ t.lif = s.lif ∧
      t.spg.sh.pOut = slewToward s.spg.sh.pOut (gearEndpoint s.cfg.spg.shEnds s.spg.shift.gear)
        (effectiveSlew s.cfg.spg.shSlew s.pba.pub.servoFactor) ∧
      exec .shiftWaitExpiry s = .next s ∧ exec .shiftSettleExpiry s = .next s ∧
      t.csc = s.csc ∧ t.smx = s.smx ∧ t.drc = s.drc ∧ t.wnc = s.wnc ∧ t.cfg = s.cfg) ∧
  (∀ s : State, s.power = .running → s.csc.chassis = .hold → s.spg.sh.waiting = none →
    ∃ t, exec (.servoFrameStart .sh) s = .next t ∧ t.spg.shift = s.spg.shift ∧ t.spg.sh.pOut = s.spg.sh.pOut ∧
      t.lif = s.lif)

/-! ## Drive channels -/

/-- A drive update in RUN of a NORMAL channel whose current does not trip it: the cap follows the grant, the target comes from the curved
and rescaled throttle or from winch assist, under dig and ease, and the output is slewed and capped; the brake is the drag brake at rest; a
locked axle stands braked at 1000; the target and the output so left are those that the flags BRAKE and REVERSE read until the next update
(R61 to R70, R79). -/
def Obligations.DriveUpdateFollowsTheThrottle : Prop :=
  ∀ (ch : DriveCh) (current : Nat) (s : State), s.power = .running → s.csc.chassis = .run →
    (s.smx.load .throttle).state ≠ .pending → (s.drc.chan ch).fault = .normal → min current 65000 ≤ s.cfg.drc.tripLevel →
    let i := min current 65000
    let c := s.drc.chan ch
    let grant := driveGrant ch s
    let cap := if grant < i then c.cap - 20 else if i ≤ grant * 15 / 16 then min (c.cap + 2) 1000 else c.cap
    let curved := interpolate s.cfg.drc.throttleTable (if s.csc.setpoint.valid then s.csc.setpoint.throttle else 0)
    let band := s.cfg.drc.neutral
    let rescaled := if curved.natAbs ≤ band then 0
      else curved.sign * Int.tdiv (((curved.natAbs : Int) - band) * 1000) (1000 - band)
    let assist := s.cfg.drc.assistOn && decide (rescaled = 0) &&
      (decide (s.wnc.state = .spoolIn) || (decide (s.wnc.state = .pull) && decide (s.wnc.dir = .inward)))
    let inward : Int := if s.wnc.lineSpeed < 0 then -s.wnc.lineSpeed else 0
    let goal := if assist then min (s.cfg.drc.assistCap : Int) (Int.tdiv (inward * s.cfg.drc.assistGain) 10)
      else max (-1000) (min 1000 (Int.tdiv (rescaled * s.cfg.drc.gain ch) 1000))
    let eased := if s.spg.shift.phase = .idle then goal
      else max (-(s.spg.shift.latched : Int)) (min s.spg.shift.latched goal)
    let slewed := slewOutput s.cfg.drc.aUp s.cfg.drc.aDown c.output eased
    let output := max (-(cap : Int)) (min cap slewed)
    let drc := { s.drc with digInForce := s.drc.digRequested }
    (digLocks s.drc.digRequested ch = false →
      exec (.driveUpdate ch current) s = .next { s with
        drc := drc.setChan ch { c with
          target := eased, output := output, cap := cap, assist := assist, lastTarget := eased, lastOutput := output
          brake := if eased = 0 ∧ output = 0 then s.cfg.drc.drag else 0 } }) ∧
    (digLocks s.drc.digRequested ch = true →
      exec (.driveUpdate ch current) s = .next { s with
        drc := drc.setChan ch { c with
          target := 0, output := 0, cap := cap, assist := assist, brake := 1000, lastTarget := 0, lastOutput := 0 } })

/-- The slew of an output moves by at most the rate that applies, never passes its target, never passes through zero within one update, and
comes to rest in the target when it is near enough on its own side. The rates are at least 1, by the factory 2 and 4, and are those in force
at the update; the update that leaves an output at 0 with a non-zero target applies no brake (R68). -/
def Obligations.SlewNeverPassesThroughZero : Prop :=
  (∀ (up down : Nat) (o t : Int), 1 ≤ up → 1 ≤ down →
    let n := slewOutput up down o t
    (0 < o → 0 ≤ n) ∧ (o < 0 → n ≤ 0) ∧ (n - o).natAbs ≤ max up down ∧
      min o t ≤ n ∧ n ≤ max o t ∧
      (0 ≤ o → o < t → n = min t (o + up)) ∧ (0 ≤ t → t < o → n = max t (o - down)) ∧
      (0 < o → t < 0 → n = max 0 (o - down)) ∧
      (o ≤ 0 → t < o → n = max t (o - up)) ∧ (t ≤ 0 → o < t → n = min t (o + down)) ∧
      (o < 0 → 0 < t → n = min 0 (o + down)) ∧ (o = t → n = o) ∧ (o ≠ t → n ≠ o)) ∧
  (factoryConfig.drc.aUp = 2 ∧ factoryConfig.drc.aDown = 4 ∧
    ∀ v, paramClamp .aUp v = max 1 (min 1000 v) ∧ paramClamp .aDown v = max 1 (min 1000 v)) ∧
  (∀ (ch : DriveCh) (current : Nat) (s : State), s.power = .running → s.csc.chassis = .run →
    (s.smx.load .throttle).state ≠ .pending → (s.drc.chan ch).fault = .normal → min current 65000 ≤ s.cfg.drc.tripLevel →
    digLocks s.drc.digRequested ch = false → (s.drc.chan ch).cap = 1000 → min current 65000 ≤ driveGrant ch s →
    ∃ t, exec (.driveUpdate ch current) s = .next t ∧
      (t.drc.chan ch).output =
        max (-1000) (min 1000
          (slewOutput s.cfg.drc.aUp s.cfg.drc.aDown (s.drc.chan ch).output (t.drc.chan ch).target)) ∧
      ((t.drc.chan ch).target ≠ 0 → (t.drc.chan ch).brake = 0))

/-- A drive update outside RUN of a NORMAL channel whose current does not trip it: STANDBY and CUTOFF coast, HOLD brakes at 1000 at once,
FAILSAFE slews toward 0 under ease and cap and brakes at rest with the failsafe brake (R61, R75 to R77, R79). -/
def Obligations.DriveUpdateOutsideRun : Prop :=
  ∀ (ch : DriveCh) (current : Nat) (s : State), s.power = .running → (s.smx.load .throttle).state ≠ .pending →
    (s.drc.chan ch).fault = .normal → min current 65000 ≤ s.cfg.drc.tripLevel →
    let i := min current 65000
    let c := s.drc.chan ch
    let grant := driveGrant ch s
    let cap := if grant < i then c.cap - 20 else if i ≤ grant * 15 / 16 then min (c.cap + 2) 1000 else c.cap
    let output := max (-(cap : Int)) (min cap (slewOutput s.cfg.drc.aUp s.cfg.drc.aDown c.output 0))
    let drc := { s.drc with digInForce := s.drc.digRequested }
    (s.csc.chassis = .standby ∨ s.csc.chassis = .cutoff →
      exec (.driveUpdate ch current) s = .next { s with
        drc := drc.setChan ch { c with
          target := 0, output := 0, brake := 0, cap := cap, assist := false, lastTarget := 0, lastOutput := 0 } }) ∧
    (s.csc.chassis = .hold →
      exec (.driveUpdate ch current) s = .next { s with
        drc := drc.setChan ch { c with
          target := 0, output := 0, brake := 1000, cap := cap, assist := false, lastTarget := 0, lastOutput := 0 } }) ∧
    (s.csc.chassis = .failsafe → digLocks s.drc.digRequested ch = false →
      exec (.driveUpdate ch current) s = .next { s with
        drc := drc.setChan ch { c with
          target := 0, output := output, cap := cap, assist := false, lastTarget := 0, lastOutput := output
          brake := if output = 0 then (if s.cfg.drc.failsafeBrake then 1000 else 0) else 0 } }) ∧
    (s.csc.chassis = .failsafe → digLocks s.drc.digRequested ch = true →
      exec (.driveUpdate ch current) s = .next { s with
        drc := drc.setChan ch { c with
          target := 0, output := 0, brake := 1000, cap := cap, assist := false, lastTarget := 0, lastOutput := 0 } })

/-- A NORMAL channel whose current exceeds the trip level trips in every chassis state: it coasts, the trip joins the history of three and
is counted, and it tries again 500 ms later; three trips within 5000 ms latch it and post DRIVE_FAULT. A LATCHED channel, and a TRIPPED one
whose time has not come, coasts. When the time has come on the wrapping clock, DRIVE_RETRY is the drive update of the same channel with its
fault cleared and its history kept, and it completes: at a current that does not trip it the channel is NORMAL, its output rising from 0 in
RUN and its brake that of the chassis state and the dig lock; at a higher one it trips again at once (R60, R61, R66 to R73, R75 to R77,
R79). That such a channel records no assist is the model's inference (log 36). That the drive update runs whole at the event row when its
outcome is due, and nothing happens when it is not, is the model's inference (logs 7 and 8). -/
def Obligations.OvercurrentTripsAndLatches : Prop :=
  (∀ (ch : DriveCh) (current : Nat) (s : State), s.power = .running → (s.smx.load .throttle).state ≠ .pending →
    let i := min current 65000
    let c := s.drc.chan ch
    let grant := driveGrant ch s
    let cap := if grant < i then c.cap - 20 else if i ≤ grant * 15 / 16 then min (c.cap + 2) 1000 else c.cap
    let drc := { s.drc with digInForce := s.drc.digRequested }
    (c.fault = .normal → s.cfg.drc.tripLevel < i → c.history.length < 2 →
      exec (.driveUpdate ch current) s = .next { s with
        drc := drc.setChan ch { c with
          target := 0, output := 0, brake := 0, cap := cap, assist := false, lastTarget := 0, lastOutput := 0, fault := .tripped
          history := c.history ++ [s.drc.clock], retry := some (s.drc.clock + 500), tripCount := min (c.tripCount + 1) 255 } }) ∧
    (∀ t1 t2 : Clock, (c.history = [t1, t2] ∨ ∃ t0, c.history = [t0, t1, t2]) → c.fault = .normal →
      s.cfg.drc.tripLevel < i →
      (5000 < (s.drc.clock - t1).toNat →
        exec (.driveUpdate ch current) s = .next { s with
          drc := drc.setChan ch { c with
            target := 0, output := 0, brake := 0, cap := cap, assist := false, lastTarget := 0, lastOutput := 0, fault := .tripped
            history := [t1, t2, s.drc.clock], retry := some (s.drc.clock + 500), tripCount := min (c.tripCount + 1) 255 } }) ∧
      ((s.drc.clock - t1).toNat ≤ 5000 →
        exec (.driveUpdate ch current) s = .next { s with
          drc := drc.setChan ch { c with
            target := 0, output := 0, brake := 0, cap := cap, assist := false, lastTarget := 0, lastOutput := 0, fault := .latched
            history := [t1, t2, s.drc.clock], retry := none, tripCount := min (c.tripCount + 1) 255 }
          lif := posted
            { type := 0xE4
              fields := [.u8 (driveCode ch), .u32 t1.toNat, .u32 t2.toNat, .u32 s.drc.clock.toNat, .u16 i] } s.lif })) ∧
    (c.fault = .latched ∨ (c.fault = .tripped ∧ ∀ t, c.retry = some t → 2147483648 ≤ (s.drc.clock - t).toNat) →
      exec (.driveUpdate ch current) s = .next { s with
        drc := drc.setChan ch { c with
          target := 0, output := 0, brake := 0, cap := cap, assist := false, lastTarget := 0, lastOutput := 0 } } ∧
      exec (.driveRetry ch current) s = .next s)) ∧
  (∀ (ch : DriveCh) (current : Nat) (t : Clock) (s : State), s.power = .running → (s.drc.chan ch).fault = .tripped →
    (s.drc.chan ch).retry = some t → (s.drc.clock - t).toNat < 2147483648 →
    let cleared := { s with drc := s.drc.setChan ch { s.drc.chan ch with fault := .normal, retry := none } }
    let i := min current 65000
    let c := s.drc.chan ch
    let grant := driveGrant ch s
    let cap := if grant < i then c.cap - 20 else if i ≤ grant * 15 / 16 then min (c.cap + 2) 1000 else c.cap
    let locked := digLocks s.drc.digRequested ch
    exec (.driveRetry ch current) s = exec (.driveUpdate ch current) cleared ∧
      exec (.driveUpdate ch current) s = exec (.driveUpdate ch current) cleared ∧
      ∃ u, exec (.driveRetry ch current) s = .next u ∧
        let d := u.drc.chan ch
        d.cap = cap ∧ d.lastTarget = d.target ∧ d.lastOutput = d.output ∧
        (i ≤ s.cfg.drc.tripLevel → d.fault = .normal ∧ d.retry = none ∧ d.history = c.history ∧ d.tripCount = c.tripCount ∧
          (s.csc.chassis = .standby ∨ s.csc.chassis = .cutoff → d.target = 0 ∧ d.output = 0 ∧ d.brake = 0) ∧
          (s.csc.chassis = .hold → d.target = 0 ∧ d.output = 0 ∧ d.brake = 1000) ∧
          (s.csc.chassis = .run ∨ s.csc.chassis = .failsafe → locked = true → d.target = 0 ∧ d.output = 0 ∧ d.brake = 1000) ∧
          (s.csc.chassis = .run → locked = false → c.output = 0 →
            d.output = max (-(cap : Int)) (min cap (max (-(s.cfg.drc.aUp : Int)) (min s.cfg.drc.aUp d.target))) ∧
            d.brake = if d.target = 0 then s.cfg.drc.drag else 0) ∧
          (s.csc.chassis = .failsafe → locked = false → c.output = 0 →
            d.target = 0 ∧ d.output = 0 ∧ d.brake = if s.cfg.drc.failsafeBrake then 1000 else 0)) ∧
        (s.cfg.drc.tripLevel < i → d.fault ≠ .normal ∧ d.target = 0 ∧ d.output = 0 ∧ d.brake = 0 ∧
          (c.history.length < 2 →
            d.fault = .tripped ∧ d.history = c.history ++ [s.drc.clock] ∧ d.retry = some (s.drc.clock + 500) ∧
              u.lif = s.lif)) ∧
        ((s.smx.load .throttle).state ≠ .pending →
          u = { s with drc := { s.drc with digInForce := s.drc.digRequested }.setChan ch d, lif := u.lif }) ∧
        (i ≤ s.cfg.drc.tripLevel → u.lif = s.lif))

/-- DIG sets the requested dig mode in every chassis state; FAULT_CLEAR frees a LATCHED channel, empties its history and keeps its cap and
trip count, and changes no other channel (R66, R74). Widths of reply fields that no rule states are the model's inference
(log 5); that a BAD_VALUE reply to FAULT_CLEAR carries the result code alone is the model's choice (log 41). -/
def Obligations.DigAndFaultClear : Prop :=
  (∀ (b : Byte) (s : State), Takes 0x18 [b] s →
    (3 ≤ b.toNat →
      exec (.dig [b]) s = .next { s with lif := answered 0x18 [.u8 5, .u8 s.drc.digRequested.code] s.lif }) ∧
    (∀ m : DigMode, m.code = b.toNat →
      exec (.dig [b]) s = .next { s with
        drc := { s.drc with digRequested := m }, lif := answered 0x18 [.u8 0, .u8 b.toNat] s.lif })) ∧
  (∀ (b : Byte) (s : State), Takes 0x19 [b] s →
    (2 ≤ b.toNat → exec (.faultClear [b]) s = .next { s with lif := answered 0x19 [.u8 5] s.lif }) ∧
    (∀ ch : DriveCh, driveCode ch = b.toNat →
      ((s.drc.chan ch).fault = .latched →
        exec (.faultClear [b]) s = .next { s with
          drc := s.drc.setChan ch { s.drc.chan ch with fault := .normal, history := [] }
          lif := answered 0x19 [.u8 0, .u8 b.toNat, .u8 0] s.lif }) ∧
      ((s.drc.chan ch).fault ≠ .latched →
        exec (.faultClear [b]) s =
          .next { s with lif := answered 0x19 [.u8 0, .u8 b.toNat, .u8 (s.drc.chan ch).fault.code] s.lif })))

/-- Whatever is commanded, a non-zero drive output is never braked, no output exceeds its cap, a TRIPPED or LATCHED channel coasts, and the
trip history never holds more than three trips (R60, R61, R70, R71, R73). That such a channel coasts at the transition into HOLD itself is
the model's inference (log 9). -/
def Obligations.DriveRecordsStayInOrder : Prop :=
  ∀ s t : State, DriveRecordsOk s → step s = .next t → DriveRecordsOk t

/-! ## Winch -/

/-- WINCH_RUN: refused by mode, chassis state and stop; otherwise a PULL or SUSPENDED operation ends CANCELLED, a spool silently, and the
new mode takes effect, in HOLD suspended with the reason HOLD; a spool keeps the duty of a replaced spool (R92, R93, R108). Widths of reply
fields that no rule states are the model's inference (log 5). -/
def Obligations.WinchRunReplacesTheOperation : Prop :=
  ∀ (p : Payload) (s : State), Takes 0x20 p s → p.length = 3 →
    let mode := u8At p 0
    let asked := u16At p 1
    let w := s.wnc
    let unchanged := fun code : Nat => Host.Outcome.next { s with
      lif := answered 0x20 [.u8 code, .u8 (winchCode s), .u8 w.reasons.host.toNat, .u8 w.reasons.hold.toNat,
        .u8 w.reasons.budget.toNat] s.lif }
    let cancels := w.state = .pull ∨ w.state = .suspended
    let w0 := if cancels then { w with last := .cancelled, duty := 0 } else w
    let lif0 := if cancels then posted (winchEndReport .cancelled s) s.lif else s.lif
    let limited := if w.valid then 1000 else 300
    let speed := max 1 (min asked limited)
    let code : Nat := if speed = asked then 0 else 1
    let dir : WinchDir := if mode = 0 then .inward else .outward
    let kind : WinchOp := if mode = 0 then .spoolIn else .spoolOut
    let atItsStop := w.valid = true ∧ ((mode = 0 ∧ w.position ≤ s.cfg.wnc.inner) ∨ (mode = 1 ∧ s.cfg.wnc.outer ≤ w.position))
    (4 ≤ mode → exec (.winchRun p) s = unchanged 5) ∧
    (mode ≤ 3 → s.csc.chassis = .cutoff ∨ (s.csc.chassis = .standby ∧ mode ≤ 1) ∨ (s.csc.chassis = .failsafe ∧ mode ≠ 2) →
      exec (.winchRun p) s = unchanged 3) ∧
    (mode ≤ 1 → s.csc.chassis = .run ∨ s.csc.chassis = .hold → atItsStop → exec (.winchRun p) s = unchanged 3) ∧
    (mode ≤ 1 → s.csc.chassis = .run → ¬atItsStop →
      exec (.winchRun p) s = .next { s with
        wnc := { w0 with
          state := kind.driveState, op := some kind, dir := dir, speed := speed, reasons := noReasons, stall := none }
        lif := answered 0x20 [.u8 code, .u8 kind.driveState.code, .u8 0, .u8 0, .u8 0] lif0 }) ∧
    (mode ≤ 1 → s.csc.chassis = .hold → ¬atItsStop →
      exec (.winchRun p) s = .next { s with
        wnc := { w0 with
          state := .suspended, duty := 0, op := some kind, dir := dir, speed := speed, stall := none
          reasons := { host := false, hold := true, budget := false } }
        lif := answered 0x20 [.u8 code, .u8 5, .u8 0, .u8 1, .u8 0] lif0 }) ∧
    (mode = 2 ∨ mode = 3 → s.csc.chassis = .run ∨ s.csc.chassis = .hold ∨ s.csc.chassis = .standby ∨
        (s.csc.chassis = .failsafe ∧ mode = 2) →
      exec (.winchRun p) s = .next { s with
        wnc := { w0 with
          state := if mode = 2 then .braked else .free, duty := 0, op := none, reasons := noReasons, stall := none }
        lif := answered 0x20 [.u8 0, .u8 (if mode = 2 then 0 else 1), .u8 0, .u8 0, .u8 0] lif0 })

/-- WINCH_PULL: refused outside RUN and HOLD and without a valid position (its reply's target is then free, the model's choice, log 3);
otherwise the operation is replaced as by WINCH_RUN and the pull, its target clamped into the limits, ends REACHED at once within 4 counts
of the target, runs in RUN, or waits suspended in HOLD (R94, R108). Widths of reply fields that no rule states are the model's inference
(log 5). -/
def Obligations.WinchPullSeeksItsTarget : Prop :=
  ∀ (p : Payload) (s : State), Takes 0x21 p s → p.length = 6 →
    let w := s.wnc
    let um := s.cfg.wnc.umPerCount
    let cancels := w.state = .pull ∨ w.state = .suspended
    let w0 := if cancels then { w with last := .cancelled, duty := 0 } else w
    let lif0 := if cancels then posted (winchEndReport .cancelled s) s.lif else s.lif
    let converted := Int.tdiv (i32At p 0 * 1000) um
    let target := max s.cfg.wnc.inner (min s.cfg.wnc.outer converted)
    let speed := max 1 (min (u16At p 4) 1000)
    let code : Nat := if target = converted ∧ speed = u16At p 4 then 0 else 1
    let mm := fun c : Int => Int.tdiv (c * um) 1000
    let reply := fun st : Nat => [Field.u8 code, .u8 st, .i32 (mm target), .i32 (mm w.position)]
    let dir : WinchDir := if w.position < target then .outward else .inward
    (s.csc.chassis = .standby ∨ s.csc.chassis = .failsafe ∨ s.csc.chassis = .cutoff ∨ w.valid = false →
      exec (.winchPull p) s = .next { s with
        freeIndex := s.freeIndex + 1
        lif := answered 0x21
          [.u8 3, .u8 (winchCode s), .i32 (Config.freeValue s.freeIndex), .i32 (mm w.position)] s.lif }) ∧
    (s.csc.chassis = .run ∨ s.csc.chassis = .hold → w.valid = true → (target - w.position).natAbs ≤ 4 →
      exec (.winchPull p) s = .next { s with
        wnc := { w0 with
          state := .braked, duty := 0, op := none, reasons := noReasons, stall := none, last := .reached }
        lif := answered 0x21 (reply 0) (posted
          { type := 0xE3, fields := [.u8 1, .i32 (mm w.position), .u8 1, .u8 0, .u8 0, .u8 0] } lif0) }) ∧
    (s.csc.chassis = .run → w.valid = true → 5 ≤ (target - w.position).natAbs →
      exec (.winchPull p) s = .next { s with
        wnc := { w0 with
          state := .pull, op := some .pull, dir := dir, speed := speed, target := target, reasons := noReasons
          stall := none }
        lif := answered 0x21 (reply 4) lif0 }) ∧
    (s.csc.chassis = .hold → w.valid = true → 5 ≤ (target - w.position).natAbs →
      exec (.winchPull p) s = .next { s with
        wnc := { w0 with
          state := .suspended, duty := 0, op := some .pull, dir := dir, speed := speed, target := target, stall := none
          reasons := { host := false, hold := true, budget := false } }
        lif := answered 0x21 (reply 5) lif0 })

/-- WINCH_SUSPEND adds HOST to the reasons of an operation, which stops and brakes a driving one; WINCH_RESUME removes HOST, and the last
reason to leave restores the operation: a pull at or past its target ends REACHED, an operation at the stop it runs into ends LIMIT, any
other runs on from duty 0. Each is refused where HOST cannot be added or removed (R97 to R100). Widths of reply fields that no rule states
are the model's inference (log 5). -/
def Obligations.SuspendAndResumeByTheHost : Prop :=
  (∀ s : State, Takes 0x22 [] s →
    let w := s.wnc
    (w.state = .spoolIn ∨ w.state = .spoolOut ∨ w.state = .pull →
      exec (.winchSuspend []) s = .next { s with
        wnc := { w with
          state := .suspended, duty := 0, stall := none, reasons := { host := true, hold := false, budget := false } }
        lif := answered 0x22 [.u8 0, .u8 5, .u8 1, .u8 0, .u8 0] s.lif }) ∧
    (w.state = .suspended →
      exec (.winchSuspend []) s = .next { s with
        wnc := { w with reasons := { w.reasons with host := true } }
        lif := answered 0x22 [.u8 0, .u8 5, .u8 1, .u8 w.reasons.hold.toNat, .u8 w.reasons.budget.toNat] s.lif }) ∧
    (w.state = .braked ∨ w.state = .free ∨ w.state = .stalled →
      exec (.winchSuspend []) s = .next { s with
        lif := answered 0x22 [.u8 3, .u8 (winchCode s), .u8 w.reasons.host.toNat, .u8 w.reasons.hold.toNat,
          .u8 w.reasons.budget.toNat] s.lif })) ∧
  (∀ s : State, Takes 0x23 [] s →
    let w := s.wnc
    (w.reasons.host = false →
      exec (.winchResume []) s = .next { s with
        lif := answered 0x23 [.u8 3, .u8 (winchCode s), .u8 0, .u8 w.reasons.hold.toNat, .u8 w.reasons.budget.toNat]
          s.lif }) ∧
    (w.state = .suspended → w.reasons.host = true → w.reasons.hold = true ∨ w.reasons.budget = true →
      exec (.winchResume []) s = .next { s with
        wnc := { w with reasons := { w.reasons with host := false } }
        lif := answered 0x23 [.u8 0, .u8 5, .u8 0, .u8 w.reasons.hold.toNat, .u8 w.reasons.budget.toNat] s.lif })) ∧
  (∀ (k : WinchOp) (s : State), Takes 0x23 [] s → s.wnc.state = .suspended → s.wnc.op = some k →
    s.wnc.reasons = { host := true, hold := false, budget := false } → s.csc.chassis = .run →
    let w := s.wnc
    let reached := k = .pull ∧ ((w.dir = .inward ∧ w.position ≤ w.target) ∨ (w.dir = .outward ∧ w.target ≤ w.position))
    let stopped := w.valid = true ∧ ((w.dir = .inward ∧ w.position ≤ s.cfg.wnc.inner) ∨
      (w.dir = .outward ∧ s.cfg.wnc.outer ≤ w.position))
    let ended := fun (r : WinchResult) => Host.Outcome.next { s with
      wnc := { w with state := .braked, duty := 0, op := none, reasons := noReasons, stall := none, last := r }
      lif := answered 0x23 [.u8 0, .u8 0, .u8 0, .u8 0, .u8 0] (posted
        { type := 0xE3, fields := [.u8 r.code, .i32 (positionMm s), .u8 w.valid.toNat, .u8 0, .u8 0, .u8 0] } s.lif) }
    (reached → exec (.winchResume []) s = ended .reached) ∧
    (¬reached → stopped → exec (.winchResume []) s = ended .limit) ∧
    (¬reached → ¬stopped →
      exec (.winchResume []) s = .next { s with
        wnc := { w with state := k.driveState, duty := 0, reasons := noReasons, stall := none }
        lif := answered 0x23 [.u8 0, .u8 k.driveState.code, .u8 0, .u8 0, .u8 0] s.lif }))

/-- WINCH_ZERO makes the position 0 and valid, and is refused during a pull; WINCH_LIMITS replaces the two stops by the converted and
clamped values, unless the inner one is not below the outer one or a store runs. Both make the limit check: an operation toward a stop it
stands at ends LIMIT, and a duty that still runs into a stop in the old direction becomes 0 while the operation goes on (R86, R88, R89).
Widths of reply fields that no rule states are the model's inference (log 5). That WINCH_LIMITS judges BUSY first and that a BUSY reply to
WINCH_ZERO is the result code alone are the model's choices (logs 15 and 37). -/
def Obligations.ZeroAndLimitsAreSet : Prop :=
  (∀ s : State, Takes 0x24 [] s →
    let w := s.wnc
    let stopped := (w.dir = .inward ∧ 0 ≤ s.cfg.wnc.inner ∧ w.duty ≤ 0) ∨ (w.dir = .outward ∧ s.cfg.wnc.outer ≤ 0 ∧ 0 ≤ w.duty)
    let old := (w.dir = .outward ∧ 0 ≤ s.cfg.wnc.inner ∧ w.duty < 0) ∨ (w.dir = .inward ∧ s.cfg.wnc.outer ≤ 0 ∧ 0 < w.duty)
    (w.state = .pull ∨ (w.state = .suspended ∧ w.op = some .pull) →
      exec (.winchZero []) s = .next { s with lif := answered 0x24 [.u8 2] s.lif }) ∧
    (w.state = .braked ∨ w.state = .free ∨ w.state = .stalled ∨ (w.state = .suspended ∧ w.op ≠ some .pull) ∨
        ((w.state = .spoolIn ∨ w.state = .spoolOut) ∧ ¬stopped ∧ ¬old) →
      exec (.winchZero []) s = .next { s with
        wnc := { w with position := 0, valid := true, stall := none }
        lif := answered 0x24 [.u8 0, .i32 0, .u8 1] s.lif }) ∧
    (w.state = .spoolIn ∨ w.state = .spoolOut → old →
      exec (.winchZero []) s = .next { s with
        wnc := { w with position := 0, valid := true, stall := none, duty := 0 }
        lif := answered 0x24 [.u8 0, .i32 0, .u8 1] s.lif }) ∧
    (w.state = .spoolIn ∨ w.state = .spoolOut → stopped →
      exec (.winchZero []) s = .next { s with
        wnc := { w with
          position := 0, valid := true, stall := none, state := .braked, duty := 0, op := none, reasons := noReasons
          last := .limit }
        lif := answered 0x24 [.u8 0, .i32 0, .u8 1] (posted
          { type := 0xE3, fields := [.u8 2, .i32 0, .u8 1, .u8 0, .u8 0, .u8 0] } s.lif) })) ∧
  (∀ (p : Payload) (s : State), Takes 0x25 p s → p.length = 8 →
    let um := s.cfg.wnc.umPerCount
    let mm := fun c : Int => Int.tdiv (c * um) 1000
    let counts := fun x : Int => max (-2000000) (min 2000000 (Int.tdiv (x * 1000) um))
    let inner := counts (i32At p 0)
    let outer := counts (i32At p 4)
    let exact := inner = Int.tdiv (i32At p 0 * 1000) um ∧ outer = Int.tdiv (i32At p 4 * 1000) um
    let kept := fun code : Nat => Host.Outcome.next { s with
      lif := answered 0x25 [.u8 code, .i32 (mm s.cfg.wnc.inner), .i32 (mm s.cfg.wnc.outer)] s.lif }
    let stopped := (s.wnc.dir = .inward ∧ s.wnc.duty ≤ 0 ∧ s.wnc.position ≤ inner) ∨
      (s.wnc.dir = .outward ∧ 0 ≤ s.wnc.duty ∧ outer ≤ s.wnc.position)
    let old := (s.wnc.dir = .outward ∧ s.wnc.duty < 0 ∧ s.wnc.position ≤ inner) ∨
      (s.wnc.dir = .inward ∧ 0 < s.wnc.duty ∧ outer ≤ s.wnc.position)
    (s.pst.writing ≠ none → exec (.winchLimits p) s = kept 2) ∧
    (s.pst.writing = none → outer ≤ inner → exec (.winchLimits p) s = kept 5) ∧
    (s.pst.writing = none → inner < outer →
      s.wnc.valid = false ∨ s.wnc.state = .braked ∨ s.wnc.state = .free ∨ s.wnc.state = .suspended ∨
        s.wnc.state = .stalled ∨ (¬stopped ∧ ¬old) →
      exec (.winchLimits p) s = .next { s with
        cfg := { s.cfg with wnc := { s.cfg.wnc with inner := inner, outer := outer } }
        lif := answered 0x25 [.u8 (if exact then 0 else 1), .i32 (mm inner), .i32 (mm outer)] s.lif }) ∧
    (s.pst.writing = none → inner < outer → s.wnc.valid = true → s.wnc.state.driving = true → old →
      exec (.winchLimits p) s = .next { s with
        cfg := { s.cfg with wnc := { s.cfg.wnc with inner := inner, outer := outer } }
        wnc := { s.wnc with duty := 0 }
        lif := answered 0x25 [.u8 (if exact then 0 else 1), .i32 (mm inner), .i32 (mm outer)] s.lif }) ∧
    (s.pst.writing = none → inner < outer → s.wnc.valid = true → s.wnc.state.driving = true → stopped →
      exec (.winchLimits p) s = .next { s with
        cfg := { s.cfg with wnc := { s.cfg.wnc with inner := inner, outer := outer } }
        wnc := { s.wnc with
          state := .braked, duty := 0, op := none, reasons := noReasons, stall := none, last := .limit }
        lif := answered 0x25 [.u8 (if exact then 0 else 1), .i32 (mm inner), .i32 (mm outer)] (posted
          { type := 0xE3, fields := [.u8 2, .i32 (mm s.wnc.position), .u8 1, .u8 0, .u8 0, .u8 0] } s.lif) }))

/-- A winch update past its grant read: the cap follows the grant, the duty of a driving winch moves by at most 5 toward the operation's
target, under the cap; a current above the trip level ends the operation FAULT, and an inward duty of 200 or more at more than the stall
current arms the detector, which ends an inward operation STALL when the drum has not moved two counts within the window: that update is
WINCH_STALL. An outward operation is never declared stalled. At a stop the limit check of the update ends the operation LIMIT, and stops a
duty that still runs into it in the old direction; an operation from a stop, or from beyond it, back into the range goes on. At the first
update after an allocation the stage, the starved flag and the grant suspend the winch for BUDGET or release it; where BUDGET is the last
reason the operation is restored from duty 0, ends REACHED at or past a pull's target or LIMIT at its stop, and the update goes on from
there; a winch that is neither suspended nor to be suspended makes the update as any other (R84, R89, R90, R93, R95, R96 to R98, R102 to
R105, R144, R154). That the stage read there is that of the battery set, SHED from a release on, is the model's inference (log 39). That the
winch update runs whole at the event row when its outcome is due, and nothing happens when it is not, is the model's inference (logs 7 and
8). -/
def Obligations.WinchUpdateDrivesTheDrum : Prop :=
  (∀ (current : Nat) (s : State), s.power = .running → s.wnc.grantUnread = false →
    s.wnc.valid = false ∨ (s.cfg.wnc.inner < s.wnc.position ∧ s.wnc.position < s.cfg.wnc.outer) ∨
      (s.wnc.dir = .outward ∧ 0 ≤ s.wnc.duty ∧ s.wnc.position < s.cfg.wnc.outer) ∨
      (s.wnc.dir = .inward ∧ s.wnc.duty ≤ 0 ∧ s.cfg.wnc.inner < s.wnc.position) →
    let i := min current 65000
    let w := s.wnc
    let driving := w.state = .spoolIn ∨ w.state = .spoolOut ∨ w.state = .pull
    let grant := s.pba.pub.grant.winch
    let cap := if grant < i then w.cap - 20 else if i ≤ grant * 15 / 16 then min (w.cap + 2) 1000 else w.cap
    let r := (w.target - w.position).natAbs
    let zone := s.cfg.wnc.approach
    let speed : Nat := if w.state = .pull then
        (if 0 < zone ∧ r ≤ zone then min (max 150 (w.speed * r / zone)) w.speed else w.speed)
      else if w.valid then w.speed else min w.speed 300
    let goal : Int := if w.dir = .inward then -speed else speed
    let duty := max (w.duty - 5) (min (w.duty + 5) goal)
    let capped := max (-(cap : Int)) (min cap duty)
    let pushing := duty ≤ -200 ∧ s.cfg.wnc.stallCurrent < i
    let moved := fun a : StallArm => 2 ≤ (w.position - a.position).natAbs
    let late := fun a : StallArm => s.cfg.wnc.stallWindow ≤ (w.clock - a.since).toNat
    let runs := fun arm : Option StallArm => Host.Outcome.next { s with
      wnc := { w with cap := cap, duty := capped, stall := arm } }
    let report := fun code : Nat =>
      { type := 0xE3, fields := [.u8 code, .i32 (positionMm s), .u8 w.valid.toNat, .u8 0, .u8 0, .u8 0] : TxFrame }
    (¬driving → exec (.winchUpdate current) s = .next { s with wnc := { w with cap := cap, duty := 0 } }) ∧
    (driving → s.cfg.wnc.tripLevel < i →
      exec (.winchUpdate current) s = .next { s with
        wnc := { w with
          cap := cap, state := .braked, duty := 0, op := none, reasons := noReasons, stall := none, last := .fault
          tripCount := min (w.tripCount + 1) 255 }
        lif := posted (report 8) s.lif }) ∧
    (driving → i ≤ s.cfg.wnc.tripLevel →
      (¬pushing → exec (.winchUpdate current) s = runs none) ∧
      (pushing → w.stall = none →
        exec (.winchUpdate current) s = runs (some { since := w.clock, position := w.position })) ∧
      (∀ a, w.stall = some a → pushing → moved a →
        exec (.winchUpdate current) s = runs (some { since := w.clock, position := w.position })) ∧
      (∀ a, w.stall = some a → pushing → ¬moved a → ¬late a ∨ w.dir = .outward →
        exec (.winchUpdate current) s = runs (some a) ∧ exec (.winchStall current) s = .next s) ∧
      (∀ a, w.stall = some a → pushing → ¬moved a → late a → w.dir = .inward →
        exec (.winchUpdate current) s = .next { s with
          wnc := { w with
            cap := cap, state := .stalled, duty := 0, op := none, reasons := noReasons, stall := none, last := .stall
            stallCount := min (w.stallCount + 1) 255 }
          lif := posted (report 3) s.lif } ∧
        exec (.winchStall current) s = exec (.winchUpdate current) s))) ∧
  (∀ (current : Nat) (s : State), s.power = .running → s.wnc.grantUnread = false → s.wnc.valid = true →
    s.wnc.state.driving = true → min current 65000 ≤ s.cfg.wnc.tripLevel → min current 65000 ≤ s.cfg.wnc.stallCurrent →
    let i := min current 65000
    let w := s.wnc
    let grant := s.pba.pub.grant.winch
    let cap := if grant < i then w.cap - 20 else if i ≤ grant * 15 / 16 then min (w.cap + 2) 1000 else w.cap
    let duty := capOutput cap (slewDuty w.duty (dutyTarget s.cfg.wnc.approach w))
    let stopped := (w.dir = .inward ∧ duty ≤ 0 ∧ w.position ≤ s.cfg.wnc.inner) ∨
      (w.dir = .outward ∧ 0 ≤ duty ∧ s.cfg.wnc.outer ≤ w.position)
    let old := (w.dir = .outward ∧ duty < 0 ∧ w.position ≤ s.cfg.wnc.inner) ∨
      (w.dir = .inward ∧ 0 < duty ∧ s.cfg.wnc.outer ≤ w.position)
    (stopped → exec (.winchUpdate current) s = .next { s with
      wnc := { w with
        cap := cap, state := .braked, duty := 0, op := none, reasons := noReasons, stall := none, last := .limit }
      lif := posted
        { type := 0xE3, fields := [.u8 2, .i32 (positionMm s), .u8 1, .u8 0, .u8 0, .u8 0] } s.lif }) ∧
    (old → exec (.winchUpdate current) s = .next { s with wnc := { w with cap := cap, duty := 0, stall := none } }) ∧
    (¬stopped → ¬old → exec (.winchUpdate current) s = .next { s with wnc := { w with cap := cap, duty := duty, stall := none } })) ∧
  (∀ (current : Nat) (s : State), s.power = .running → s.wnc.grantUnread = true →
    let i := min current 65000
    let w := s.wnc
    let grant := s.pba.pub.grant.winch
    let cap := if grant < i then w.cap - 20 else if i ≤ grant * 15 / 16 then min (w.cap + 2) 1000 else w.cap
    let driving := w.state = .spoolIn ∨ w.state = .spoolOut ∨ w.state = .pull
    let shed := s.bmn.pub.stage = .shed
    (w.state = .braked ∨ w.state = .free ∨ w.state = .stalled → w.reasons = noReasons →
      exec (.winchUpdate current) s = .next { s with wnc := { w with grantUnread := false, cap := cap, duty := 0 } }) ∧
    (driving → ¬shed → s.pba.pub.starved = false ∨ i ≤ grant → w.reasons = noReasons →
      exec (.winchUpdate current) s = exec (.winchUpdate current) { s with wnc := { w with grantUnread := false } }) ∧
    (driving → shed ∨ (s.pba.pub.starved = true ∧ grant < i) →
      exec (.winchUpdate current) s = .next { s with
        wnc := { w with
          grantUnread := false, cap := cap, state := .suspended, duty := 0, stall := none
          reasons := { host := false, hold := false, budget := true } } }) ∧
    (w.state = .suspended → shed →
      exec (.winchUpdate current) s = .next { s with
        wnc := { w with grantUnread := false, cap := cap, duty := 0, reasons := { w.reasons with budget := true } } }) ∧
    (w.state = .suspended → w.reasons.budget = true → 2 * s.cfg.wnc.minimum ≤ grant →
      s.bmn.pub.stage = .normal ∨ s.bmn.pub.stage = .warn ∨ s.bmn.pub.stage = .limit →
      w.reasons.host = true ∨ w.reasons.hold = true →
      exec (.winchUpdate current) s = .next { s with
        wnc := { w with grantUnread := false, cap := cap, duty := 0, reasons := { w.reasons with budget := false } } }) ∧
    (∀ k, w.state = .suspended → w.op = some k → w.reasons = { host := false, hold := false, budget := true } →
      2 * s.cfg.wnc.minimum ≤ grant → s.bmn.pub.stage = .normal ∨ s.bmn.pub.stage = .warn ∨ s.bmn.pub.stage = .limit →
      let reached := k = .pull ∧ ((w.dir = .inward ∧ w.position ≤ w.target) ∨ (w.dir = .outward ∧ w.target ≤ w.position))
      let stopped := w.valid = true ∧ ((w.dir = .inward ∧ w.position ≤ s.cfg.wnc.inner) ∨
        (w.dir = .outward ∧ s.cfg.wnc.outer ≤ w.position))
      let ended := fun (r : WinchResult) => Host.Outcome.next { s with
        wnc := { w with
          grantUnread := false, cap := cap, state := .braked, duty := 0, op := none, reasons := noReasons, stall := none, last := r }
        lif := posted
          { type := 0xE3, fields := [.u8 r.code, .i32 (positionMm s), .u8 w.valid.toNat, .u8 0, .u8 0, .u8 0] } s.lif }
      (reached → exec (.winchUpdate current) s = ended .reached) ∧
      (¬reached → stopped → exec (.winchUpdate current) s = ended .limit) ∧
      (¬reached → ¬stopped → exec (.winchUpdate current) s = exec (.winchUpdate current) { s with
        wnc := { w with grantUnread := false, state := k.driveState, duty := 0, reasons := noReasons, stall := none } })) ∧
    (w.state = .suspended → ¬shed → w.reasons.budget = false ∨ grant < 2 * s.cfg.wnc.minimum →
      exec (.winchUpdate current) s =
        .next { s with wnc := { w with grantUnread := false, cap := cap, duty := 0 } }))

/-- The encoder: one line stepping forward in the sequence (0,0), (1,0), (1,1), (0,1), (0,0) counts +1, backward −1, both at once are an
error that makes the position invalid, no change counts nothing; a count that brings a pull to its target ends it REACHED, one that brings
an operation to its stop ends it LIMIT, and one that finds a duty still running into a stop in the old direction makes it 0; an error during
a pull ends it FAULT, and a count past the end of the range leaves the position there, invalid, and ends a pull FAULT; a count back from the
end counts as any other. The window of 50 ms turns the net counts into the line speed (R85 to R87, R89, R96). That an event that is not due
changes nothing is the model's inference (log 7). -/
def Obligations.EncoderCountsTheLine : Prop :=
  let next : EncoderPins → EncoderPins := fun x =>
    if x = { a := false, b := false } then { a := true, b := false }
    else if x = { a := true, b := false } then { a := true, b := true }
    else if x = { a := true, b := true } then { a := false, b := true }
    else { a := false, b := false }
  (∀ (e : EncoderPins) (s : State), s.power = .running →
    let w := s.wnc
    let d : Int := if e = next w.enc then 1 else -1
    let stepped := (e = next w.enc ∨ w.enc = next e) ∧ -2000000 ≤ w.position + d ∧ w.position + d ≤ 2000000
    let reached := w.state = .pull ∧
      ((w.dir = .inward ∧ w.position + d ≤ w.target) ∨ (w.dir = .outward ∧ w.target ≤ w.position + d))
    let counted := { w with enc := e, windowSum := w.windowSum + d, position := w.position + d }
    let stopped := (w.dir = .inward ∧ w.duty ≤ 0 ∧ w.position + d ≤ s.cfg.wnc.inner) ∨
      (w.dir = .outward ∧ 0 ≤ w.duty ∧ s.cfg.wnc.outer ≤ w.position + d)
    let old := (w.dir = .outward ∧ w.duty < 0 ∧ w.position + d ≤ s.cfg.wnc.inner) ∨
      (w.dir = .inward ∧ 0 < w.duty ∧ s.cfg.wnc.outer ≤ w.position + d)
    (e = w.enc → exec (.encoderCount e) s = .next s) ∧
    (stepped → ¬reached →
      (w.state = .braked ∨ w.state = .free ∨ w.state = .suspended ∨ w.state = .stalled) ∨ w.valid = false ∨ (¬stopped ∧ ¬old) →
      exec (.encoderCount e) s = .next { s with wnc := counted }) ∧
    (stepped → ¬reached → w.valid = true → w.state.driving = true → old →
      exec (.encoderCount e) s = .next { s with wnc := { counted with duty := 0 } }) ∧
    (stepped → reached →
      exec (.encoderCount e) s = .next { s with
        wnc := { counted with
          state := .braked, duty := 0, op := none, reasons := noReasons, stall := none, last := .reached }
        lif := posted
          { type := 0xE3
            fields := [.u8 1, .i32 (Int.tdiv ((w.position + d) * s.cfg.wnc.umPerCount) 1000), .u8 w.valid.toNat, .u8 0, .u8 0,
              .u8 0] } s.lif }) ∧
    (stepped → ¬reached → w.valid = true → w.state.driving = true → stopped →
      exec (.encoderCount e) s = .next { s with
        wnc := { counted with
          state := .braked, duty := 0, op := none, reasons := noReasons, stall := none, last := .limit }
        lif := posted
          { type := 0xE3
            fields := [.u8 2, .i32 (Int.tdiv ((w.position + d) * s.cfg.wnc.umPerCount) 1000), .u8 1, .u8 0, .u8 0, .u8 0] }
          s.lif }) ∧
    (e.a ≠ w.enc.a → e.b ≠ w.enc.b → w.hasOp = false ∨ w.op ≠ some .pull →
      exec (.encoderCount e) s = .next { s with
        wnc := { w with enc := e, valid := false, encErrors := min (w.encErrors + 1) 255 } }) ∧
    (e.a ≠ w.enc.a → e.b ≠ w.enc.b → w.hasOp = true → w.op = some .pull →
      exec (.encoderCount e) s = .next { s with
        wnc := { w with
          enc := e, valid := false, encErrors := min (w.encErrors + 1) 255, state := .braked, duty := 0, op := none
          reasons := noReasons, stall := none, last := .fault }
        lif := posted
          { type := 0xE3
            fields := [.u8 8, .i32 (Int.tdiv (w.position * s.cfg.wnc.umPerCount) 1000), .u8 0] ++
              reasonFields (if w.state = .suspended then w.reasons else noReasons) } s.lif })) ∧
  (∀ (e : EncoderPins) (s : State), s.power = .running →
    let w := s.wnc
    let forward := e = next w.enc
    let backward := w.enc = next e
    let counted := { w with enc := e, windowSum := w.windowSum + (if forward then 1 else -1), valid := false }
    (forward ∧ w.position = 2000000) ∨ (backward ∧ w.position = -2000000) →
    (w.state ≠ .pull → w.hasOp = false ∨ w.op ≠ some .pull → exec (.encoderCount e) s = .next { s with wnc := counted }) ∧
    (w.hasOp = true → w.op = some .pull →
      exec (.encoderCount e) s = .next { s with
        wnc := { counted with
          state := .braked, duty := 0, op := none, reasons := noReasons, stall := none, last := .fault }
        lif := posted
          { type := 0xE3
            fields := [.u8 8, .i32 (Int.tdiv (w.position * s.cfg.wnc.umPerCount) 1000), .u8 0] ++
              reasonFields (if w.state = .suspended then w.reasons else noReasons) } s.lif })) ∧
  (∀ s : State, s.power = .running →
    (50 ≤ (s.wnc.clock - s.wnc.windowStart).toNat →
      exec .lineSpeedWindowEnd s = .next { s with
        wnc := { s.wnc with
          lineSpeed := Int.tdiv (s.wnc.windowSum * s.cfg.wnc.umPerCount) 50, windowSum := 0
          windowStart := s.wnc.windowStart + 50 } }) ∧
    ((s.wnc.clock - s.wnc.windowStart).toNat < 50 → exec .lineSpeedWindowEnd s = .next s))

/-- Whatever is commanded, the winch record stays in order: SUSPENDED exactly while a reason holds it, driving only in RUN and as its
operation kind, no duty unless it drives, in HOLD an operation only with the reason HOLD (R83, R91, R97, R101, R106, R107). -/
def Obligations.WinchRecordStaysInOrder : Prop :=
  ∀ s t : State, ChassisRecordOk s → WinchRecordOk s → step s = .next t → WinchRecordOk t

/-! ## Lights and patterns -/

/-- LIGHT_MAP judges its whole request, its channel with it, then replaces the channel's map with clamped values and restarts the channel,
outside CUTOFF, from its source; a channel of another source than LOWBATT is dark in CUTOFF. LIGHT_LEVEL replaces the off-action and, on the
OFF side, the base level. The reference counts lose what the old map names and gain what the new one names; the step lists, the pool, the
free list, the other channels and the rest of the configuration are kept (R115 to R117, R120, R125). Where no channel is named the reply
fields that no rule states are free, the model's choice (log 3). Widths of reply fields that no rule states are the model's inference (log
5). That a channel left forced off takes the activity that its source reads is the model's inference (log 20); LIGHT_MAP judges BUSY first
(log 15). -/
def Obligations.LightMapRestartsTheChannel : Prop :=
  let naming := fun (m : LightMap) (q : Fin 16) =>
    (if m.onAction = .pattern q then 1 else 0) + (if m.offAction = .pattern q then 1 else 0)
  let onlyLights := fun s t : State => t = { s with
    cfg := { s.cfg with lcu := { s.cfg.lcu with maps := t.cfg.lcu.maps, table := t.cfg.lcu.table } }
    lcu := t.lcu
    lif := t.lif }
  (∀ (p : Payload) (k : Fin 8) (s : State), Takes 0x31 p s → p.length = 11 → lightOf (u8At p 0) = some k →
    let act := fun t : State => (lightOfState t k).activity.toNat
    let actionOk := fun (kind v : Nat) => kind = 0 ∨ (kind = 1 ∧ v ≤ 15 ∧ ∀ q : Fin 16, q.val = v → s.cfg.lcu.table[q].steps ≠ [])
    let valid := u8At p 1 ≤ 7 ∧ u8At p 8 ≤ 2 ∧ actionOk (u8At p 2) (u16At p 3) ∧ actionOk (u8At p 5) (u16At p 6)
    let exact := (u8At p 2 = 0 → u16At p 3 ≤ 1024) ∧ (u8At p 5 = 0 → u16At p 6 ≤ 1024) ∧ u16At p 9 ≤ 2000
    let unchanged := fun code : Nat => Host.Outcome.next { s with
      lif := answered 0x31 [.u8 code, .u8 k.val, .u8 (act s), .u8 (act s)] s.lif }
    (s.pst.writing ≠ none → exec (.lightMap p) s = unchanged 2) ∧
    (s.pst.writing = none → ¬valid → exec (.lightMap p) s = unchanged 5) ∧
    (s.pst.writing = none → valid →
      ∃ t, exec (.lightMap p) s = .next t ∧
        sourceOf (u8At p 1) = some (mapOf t k).source ∧ ditherOf (u8At p 8) = some (mapOf t k).dither ∧
        (mapOf t k).fullOn = min (u16At p 9) 2000 ∧
        (u8At p 2 = 0 → (mapOf t k).onAction = .level (min (u16At p 3) 1024)) ∧
        (u8At p 5 = 0 → (mapOf t k).offAction = .level (min (u16At p 6) 1024)) ∧
        (∀ q : Fin 16, u8At p 2 = 1 → q.val = u16At p 3 → (mapOf t k).onAction = .pattern q) ∧
        (∀ q : Fin 16, u8At p 5 = 1 → q.val = u16At p 6 → (mapOf t k).offAction = .pattern q) ∧
        (∀ j : Fin 8, j ≠ k → mapOf t j = mapOf s j ∧ lightOfState t j = lightOfState s j) ∧
        (lightOfState t k).activity = sourceActive s (mapOf t k).source ∧ (lightOfState t k).residual = 0 ∧
        (lightOfState t k).slot = (lightOfState s k).slot ∧
        (s.csc.chassis = .cutoff → (mapOf t k).source ≠ .lowBatt →
          (lightOfState t k).forcedOff = true ∧ (lightOfState t k).level = 0 ∧ (lightOfState t k).base = 0 ∧
            (lightOfState t k).runner = none) ∧
        (s.csc.chassis ≠ .cutoff ∨ (mapOf t k).source = .lowBatt →
          (lightOfState t k).forcedOff = false ∧ (lightOfState t k).level = (lightOfState s k).level ∧
            (∀ v, (mapOf t k).action (lightOfState t k).activity = .level v →
              (lightOfState t k).base = v ∧ (lightOfState t k).runner = none) ∧
            (∀ q, (mapOf t k).action (lightOfState t k).activity = .pattern q →
              (lightOfState t k).base = (lightOfState s k).base ∧
                (lightOfState t k).runner.map Runner.pattern = some q)) ∧
        t.lif = answered 0x31 [.u8 (if exact then 0 else 1), .u8 k.val, .u8 (act t), .u8 (act t)] s.lif ∧
        (∀ q : Fin 16, t.cfg.lcu.table[q] = { s.cfg.lcu.table[q] with
          refs := s.cfg.lcu.table[q].refs + naming (mapOf t k) q - naming (mapOf s k) q }) ∧
        onlyLights s t)) ∧
  (∀ (p : Payload) (s : State), Takes 0x31 p s → p.length = 11 → 8 ≤ u8At p 0 →
    exec (.lightMap p) s = .next { s with
      freeIndex := s.freeIndex + 2
      lif := answered 0x31 [.u8 (if s.pst.writing = none then 5 else 2), .u8 (u8At p 0), .u8 (Config.freeValue s.freeIndex),
        .u8 (Config.freeValue (s.freeIndex + 1))] s.lif }) ∧
  (∀ (p : Payload) (k : Fin 8) (s : State), Takes 0x30 p s → p.length = 3 → lightOf (u8At p 0) = some k →
    let v := min (u16At p 1) 1024
    let c := lightOfState s k
    ∃ t, exec (.lightLevel p) s = .next t ∧ mapOf t k = { mapOf s k with offAction := .level v } ∧
      (c.forcedOff = false → c.activity = false → lightOfState t k = { c with runner := none, base := v }) ∧
      (c.forcedOff = true ∨ c.activity = true → lightOfState t k = c) ∧
      (∀ j : Fin 8, j ≠ k → mapOf t j = mapOf s j ∧ lightOfState t j = lightOfState s j) ∧
      t.lif = answered 0x30 [.u8 (if v = u16At p 1 then 0 else 1), .u8 k.val, .u16 v] s.lif ∧
      (∀ q : Fin 16, t.cfg.lcu.table[q] = { s.cfg.lcu.table[q] with
        refs := if (mapOf s k).offAction = .pattern q then s.cfg.lcu.table[q].refs - 1 else s.cfg.lcu.table[q].refs }) ∧
      onlyLights s t) ∧
  (∀ (p : Payload) (s : State), Takes 0x30 p s → p.length = 3 → 8 ≤ u8At p 0 →
    exec (.lightLevel p) s = .next { s with
      freeIndex := s.freeIndex + 1
      lif := answered 0x30 [.u8 5, .u8 (u8At p 0), .u16 (Config.freeValue s.freeIndex)] s.lif })

/-- PATTERN_ALLOC moves `n` indices from the head of the free list to the lowest EMPTY entry and initialises their records; PATTERN_STEP
writes one clamped record; PATTERN_FREE returns the steps of an unreferenced pattern to the tail. Each refusal changes no pattern (R133 to
R136). Reply fields that no rule states are free, the model's choice (log 3). Widths of reply fields that no rule states are the model's
inference (log 5). -/
def Obligations.PatternRequestsKeepThePool : Prop :=
  (∀ (b : Byte) (s : State), Takes 0x32 [b] s →
    let c := s.cfg.lcu
    let n := b.toNat
    let refused := fun code : Nat => Host.Outcome.next { s with
      lif := answered 0x32 [.u8 code, .u8 (emptyCount c), .u8 c.free.length] s.lif }
    (s.pst.writing ≠ none → exec (.patternAlloc [b]) s = refused 2) ∧
    (s.pst.writing = none → n = 0 ∨ 17 ≤ n → exec (.patternAlloc [b]) s = refused 5) ∧
    (s.pst.writing = none → 1 ≤ n → n ≤ 16 → c.free.length < n ∨ (∀ q : Fin 16, c.table[q].steps ≠ []) →
      exec (.patternAlloc [b]) s = refused 8) ∧
    (∀ q : Fin 16, s.pst.writing = none → 1 ≤ n → n ≤ 16 → n ≤ c.free.length → c.table[q].steps = [] →
      (∀ r : Fin 16, r < q → c.table[r].steps ≠ []) → c.free.Nodup →
      ∃ t, exec (.patternAlloc [b]) s = .next t ∧
        t = { s with cfg := { s.cfg with lcu := t.cfg.lcu }, lif := t.lif } ∧
        t.cfg.lcu.maps = c.maps ∧ t.cfg.lcu.table = c.table.set q { steps := c.free.take n, refs := 0 } ∧
        t.cfg.lcu.free = c.free.drop n ∧
        (∀ i : Fin 64, i ∉ c.free.take n → t.cfg.lcu.pool[i] = c.pool[i]) ∧
        (∀ j : Nat, ∀ i : Fin 64, c.free[j]? = some i → j < n → t.cfg.lcu.pool[i] =
          { target := 0, ramp := 0, hold := 0, link := if j + 1 < n then .next (j + 1) else .endHold }) ∧
        t.lif = answered 0x32 ([.u8 0, .u8 (emptyCount t.cfg.lcu), .u8 (c.free.length - n), .u8 q.val, .u8 n] ++
          (c.free.take n).map fun i => Field.u8 i.val) s.lif)) ∧
  (∀ (p : Payload) (q : Fin 16) (i : Fin 64) (l : StepLink) (s : State), Takes 0x33 p s → p.length = 10 →
    s.pst.writing = none → q.val = u8At p 0 → s.cfg.lcu.table[q].steps[u8At p 1]? = some i →
    (u8At p 8 = 0 ∧ l = .next (u8At p 9) ∧ u8At p 9 < s.cfg.lcu.table[q].steps.length) ∨ (u8At p 8 = 1 ∧ l = .endHold) ∨
      (u8At p 8 = 2 ∧ l = .endOff) →
    let r : StepRecord :=
      { target := min (u16At p 2) 1024, ramp := min (u16At p 4) 60000, hold := min (u16At p 6) 60000, link := l }
    let code : Nat := if u16At p 2 ≤ 1024 ∧ u16At p 4 ≤ 60000 ∧ u16At p 6 ≤ 60000 then 0 else 1
    ∃ x : Nat, (u8At p 8 = 0 → x = u8At p 9) ∧
      exec (.patternStep p) s = .next { s with
        freeIndex := s.freeIndex + 1
        cfg := { s.cfg with lcu := { s.cfg.lcu with pool := s.cfg.lcu.pool.set i r } }
        lif := answered 0x33 [.u8 code, .u8 (u8At p 0), .u8 (u8At p 1), .u8 i.val, .u16 r.target, .u16 r.ramp, .u16 r.hold,
          .u8 (u8At p 8), .u8 x] s.lif }) ∧
  (∀ (p : Payload) (s : State), Takes 0x33 p s → p.length = 10 →
    s.pst.writing ≠ none ∨ 16 ≤ u8At p 0 ∨ 3 ≤ u8At p 8 ∨
      (∀ q : Fin 16, q.val = u8At p 0 → s.cfg.lcu.table[q].steps.length ≤ u8At p 1) ∨
      (u8At p 8 = 0 ∧ ∀ q : Fin 16, q.val = u8At p 0 → s.cfg.lcu.table[q].steps.length ≤ u8At p 9) →
    ∃ t, exec (.patternStep p) s = .next t ∧ t = { s with freeIndex := t.freeIndex, lif := t.lif } ∧
      t.lif.replies.getLast?.map (fun f => f.fields.take 3) =
        some [.u8 (if s.pst.writing = none then 5 else 2), .u8 (u8At p 0), .u8 (u8At p 1)]) ∧
  (∀ (b : Byte) (q : Fin 16) (s : State), Takes 0x34 [b] s → q.val = b.toNat →
    let c := s.cfg.lcu
    let refused := fun code : Nat => Host.Outcome.next { s with
      lif := answered 0x34 [.u8 code, .u8 b.toNat, .u8 c.table[q].refs, .u8 c.free.length] s.lif }
    (s.pst.writing ≠ none → exec (.patternFree [b]) s = refused 2) ∧
    (s.pst.writing = none → c.table[q].steps = [] → exec (.patternFree [b]) s = refused 5) ∧
    (s.pst.writing = none → c.table[q].steps ≠ [] → 0 < c.table[q].refs → exec (.patternFree [b]) s = refused 9) ∧
    (s.pst.writing = none → c.table[q].steps ≠ [] → c.table[q].refs = 0 →
      exec (.patternFree [b]) s = .next { s with
        cfg := { s.cfg with lcu := { c with
          table := c.table.set q { steps := [], refs := 0 }, free := c.free ++ c.table[q].steps } }
        lif := answered 0x34
          [.u8 0, .u8 b.toNat, .u8 0, .u8 (c.free.length + c.table[q].steps.length)] s.lif })) ∧
  (∀ (b : Byte) (s : State), Takes 0x34 [b] s → 16 ≤ b.toNat →
    exec (.patternFree [b]) s = .next { s with
      freeIndex := s.freeIndex + 1
      lif := answered 0x34 [.u8 (if s.pst.writing = none then 5 else 2), .u8 b.toNat, .u8 (Config.freeValue s.freeIndex),
        .u8 s.cfg.lcu.free.length] s.lif })

/-- A light channel's period start: a forced-off channel does nothing; a steady one on a LEVEL action takes that level, and so does one
that switches its side or restarts after a cutoff; a PATTERN action so started enters its first step from the base level and takes one
period of it; a finished pattern keeps its finished level; a running pattern takes one more period of its step, ramping from its start
level, or follows the link of a completed step, entering the step that NEXT names; then the light scale and the dither give the level, and
the slot advances. PATTERN_STEP_COMPLETE is the period start that completes a step. The sources BRAKE and REVERSE read what the last update
of each drive channel left, the turn sources the setpoint record, the others the winch, the chassis state and the stage (R30, R79, R114,
R118 to R124, R126, R139 to R141). That the period start runs whole at the event row when its outcome
is due, and nothing happens when it is not, is the model's inference (logs 7 and 8). The flag `restart` is the model's own (log 21), and so
are the flags of R79 between updates (log 33) and the finished level of a running pattern (log 38). -/
def Obligations.LightPeriodRunsTheAction : Prop :=
  (∀ s : State,
    (sourceActive s .brake = true ↔
      s.csc.chassis = .hold ∨ ∃ ch, (s.drc.chan ch).lastTarget.natAbs < (s.drc.chan ch).lastOutput.natAbs) ∧
    (sourceActive s .reverse = true ↔ ∃ ch, (s.drc.chan ch).lastOutput < 0) ∧
    sourceActive s .none = false ∧
    (sourceActive s .turnLeft = true ↔ s.csc.setpoint.valid = true ∧ s.csc.setpoint.steer ≤ -(s.cfg.smx.turnThreshold : Int)) ∧
    (sourceActive s .turnRight = true ↔ s.csc.setpoint.valid = true ∧ (s.cfg.smx.turnThreshold : Int) ≤ s.csc.setpoint.steer) ∧
    (sourceActive s .winchActive = true ↔ s.wnc.state = .spoolIn ∨ s.wnc.state = .spoolOut ∨ s.wnc.state = .pull) ∧
    (sourceActive s .hazard = true ↔ s.csc.chassis = .hold ∨ s.csc.chassis = .failsafe) ∧
    (sourceActive s .lowBatt = true ↔
      s.bmn.pub.stage = .warn ∨ s.bmn.pub.stage = .limit ∨ s.bmn.pub.stage = .shed ∨ s.bmn.pub.stage = .cutoff)) ∧
  ∀ (k : Fin 8) (s : State), s.power = .running →
    let c := lightOfState s k
    let m := mapOf s k
    let scaled := fun base : Nat =>
      if s.csc.chassis = .cutoff ∧ m.source = .lowBatt then base else base * s.pba.pub.lightScale / 1024
    let shown := fun x : LightChan => { x with
      level := (ditherLevel m.dither (scaled x.base) c.slot c.residual).1
      residual := (ditherLevel m.dither (scaled x.base) c.slot c.residual).2
      slot := if 15 ≤ c.slot then 0 else c.slot + 1 }
    let leaves := fun x : LightChan => Host.Outcome.next { s with lcu := { chans := s.lcu.chans.set k x } }
    let single := fun st : StepRecord => st.ramp + st.hold ≤ 1
    let entered := fun (activity : Bool) (q : Fin 16) (j : Nat) (st : StepRecord) => shown { c with
      activity := activity, restart := false
      base := if 1 ≤ st.ramp then ((c.base : Int) + Int.tdiv ((st.target : Int) - c.base) st.ramp).toNat else st.target
      runner := some {
        pattern := q, finished := false, position := j, latch := st, start := c.base, elapsed := 1, complete := single st
        finishedLevel := 0 } }
    let enters := fun (activity : Bool) (q : Fin 16) (j : Nat) => ∀ i, s.cfg.lcu.table[q].steps[j]? = some i →
      let st := s.cfg.lcu.pool[i]
      exec (.lightPeriodStart k) s = leaves (entered activity q j st) ∧
        (single st → exec (.patternStepComplete k) s = exec (.lightPeriodStart k) s) ∧
        (¬single st → exec (.patternStepComplete k) s = .next s)
    (c.forcedOff = true →
      exec (.lightPeriodStart k) s = .next s ∧ exec (.patternStepComplete k) s = .next s) ∧
    (c.forcedOff = false → c.restart = false → sourceActive s m.source = c.activity → c.runner = none →
      ∀ v, m.action c.activity = .level v →
        exec (.lightPeriodStart k) s = leaves (shown { c with base := v }) ∧
          exec (.patternStepComplete k) s = .next s) ∧
    (c.forcedOff = false → c.restart = false → sourceActive s m.source = !c.activity →
      ∀ v, m.action (!c.activity) = .level v →
        exec (.lightPeriodStart k) s = leaves (shown { c with activity := !c.activity, runner := none, base := v }) ∧
          exec (.patternStepComplete k) s = .next s) ∧
    (c.forcedOff = false → c.restart = false → sourceActive s m.source = !c.activity →
      ∀ q, m.action (!c.activity) = .pattern q → enters (!c.activity) q 0) ∧
    (c.forcedOff = false → c.restart = true → ∀ v, m.action (sourceActive s m.source) = .level v →
      exec (.lightPeriodStart k) s =
        leaves (shown { c with activity := sourceActive s m.source, restart := false, runner := none, base := v }) ∧
        exec (.patternStepComplete k) s = .next s) ∧
    (c.forcedOff = false → c.restart = true → ∀ q, m.action (sourceActive s m.source) = .pattern q →
      enters (sourceActive s m.source) q 0) ∧
    (∀ r, c.forcedOff = false → c.restart = false → sourceActive s m.source = c.activity → c.runner = some r →
      r.finished = true → exec (.lightPeriodStart k) s = leaves (shown { c with base := r.finishedLevel }) ∧
        exec (.patternStepComplete k) s = .next s) ∧
    (∀ r, c.forcedOff = false → c.restart = false → sourceActive s m.source = c.activity → c.runner = some r →
      r.finished = false →
      (r.complete = false → r.elapsed < 120000 →
        let n := r.elapsed + 1
        let done := (if r.latch.ramp + r.latch.hold = 0 then 1 else r.latch.ramp + r.latch.hold) ≤ n
        let base := if 0 < r.latch.ramp ∧ n ≤ r.latch.ramp then
          ((r.start : Int) + Int.tdiv (((r.latch.target : Int) - r.start) * n) r.latch.ramp).toNat else r.latch.target
        exec (.lightPeriodStart k) s =
            leaves (shown { c with base := base, runner := some { r with elapsed := n, complete := done } }) ∧
          (done → exec (.patternStepComplete k) s = exec (.lightPeriodStart k) s) ∧
          (¬done → exec (.patternStepComplete k) s = .next s)) ∧
      (r.complete = true → r.latch.link = .endHold →
        exec (.lightPeriodStart k) s = leaves (shown { c with
          base := r.latch.target, runner := some { r with finished := true, finishedLevel := r.latch.target } }) ∧
          exec (.patternStepComplete k) s = .next s) ∧
      (r.complete = true → r.latch.link = .endOff →
        exec (.lightPeriodStart k) s = leaves (shown { c with
          base := 0, runner := some { r with finished := true, finishedLevel := 0 } }) ∧
          exec (.patternStepComplete k) s = .next s) ∧
      (∀ j, r.complete = true → r.latch.link = .next j → enters c.activity r.pattern j))

/-- In FRAME the level is one more where the slot's threshold is below the fraction; over the sixteen slots the levels of a brightness add
up to it; DIFFUSE carries what a period leaves and never loses
brightness; TRUNCATE loses less than one level (R122 to R124). -/
def Obligations.DitherKeepsTheBrightness : Prop :=
  (∀ (b e : Nat) (c : Fin 16),
    let thr : List Nat := [0, 8, 4, 12, 2, 10, 6, 14, 1, 9, 5, 13, 3, 11, 7, 15]
    ditherLevel .frame b c e = (if thr.getD c 0 < b % 16 then b / 16 + 1 else b / 16, e)) ∧
  (∀ b e : Nat, b ≤ 1024 → ((List.range 16).map fun slot => (ditherLevel .frame b slot e).1).sum = b) ∧
  (∀ b slot e : Nat, b ≤ 1024 → e ≤ 15 →
    16 * (ditherLevel .diffuse b slot e).1 + (ditherLevel .diffuse b slot e).2 = b + e ∧
      (ditherLevel .diffuse b slot e).2 ≤ 15 ∧ (ditherLevel .diffuse b slot e).1 ≤ 64) ∧
  (∀ b slot e : Nat, b ≤ 1024 →
    16 * (ditherLevel .truncate b slot e).1 ≤ b ∧ b < 16 * (ditherLevel .truncate b slot e).1 + 16 ∧
      (ditherLevel .truncate b slot e).2 = e) ∧
  (∀ (d : Dither) (b slot e : Nat), b ≤ 1024 → e ≤ 15 → (ditherLevel d b slot e).1 ≤ 64)

/-- Whatever is commanded, in the configuration in force and in every stored one each pool index is in the free list or in one step list
exactly once, each entry's reference count is the number of map actions that name it, and no action names an EMPTY entry (R115, R132, R133,
R136). -/
def Obligations.PatternPoolStaysConsistent : Prop :=
  ∀ s t : State, PoolPartitioned s → PatternsReferenced s → step s = .next t → PoolPartitioned t ∧ PatternsReferenced t

/-! ## Battery and budget -/

/-- BATTERY_LEVELS is refused while a store runs, while the protect lock is active and for thresholds that are no descending set; otherwise
it replaces the levels and zeroes the five stage counters. PROT_LOCK sets the flag always and clears a set flag only under a high strap
(R155 to R157). That BUSY is judged before BAD_VALUE in PROT_LOCK is the model's choice (log 15). Widths of reply fields that no rule
states are the model's inference (log 5). -/
def Obligations.BatteryLevelsAndLock : Prop :=
  (∀ (strap : PinLevel) (p : Payload) (s : State), Takes 0x38 p s → p.length = 10 →
    let asked : BatteryLevels :=
      { warn := u16At p 0, limit := u16At p 2, shed := u16At p 4, cutoff := u16At p 6
        hysteresis := max 20 (min (u16At p 8) 300) }
    let inRange := fun v : Nat => 2500 ≤ v ∧ v ≤ 4300
    let valid := inRange asked.warn ∧ inRange asked.limit ∧ inRange asked.shed ∧ inRange asked.cutoff ∧
      asked.limit + 50 ≤ asked.warn ∧ asked.shed + 50 ≤ asked.limit ∧ asked.cutoff + 50 ≤ asked.shed
    let active := s.cfg.bmn.lockFlag = true ∧ strap = .low
    let fields := fun (code : Nat) (l : BatteryLevels) =>
      [Field.u8 code, .u16 l.warn, .u16 l.limit, .u16 l.shed, .u16 l.cutoff, .u16 l.hysteresis]
    let kept := fun code : Nat => Host.Outcome.next { s with lif := answered 0x38 (fields code s.cfg.bmn.levels) s.lif }
    (s.pst.writing ≠ none → exec (.batteryLevels strap p) s = kept 2) ∧
    (s.pst.writing = none → active → exec (.batteryLevels strap p) s = kept 7) ∧
    (s.pst.writing = none → ¬active → ¬valid → exec (.batteryLevels strap p) s = kept 5) ∧
    (s.pst.writing = none → ¬active → valid →
      exec (.batteryLevels strap p) s = .next { s with
        cfg := { s.cfg with bmn := { s.cfg.bmn with levels := asked } }
        bmn := { s.bmn with warnRun := 0, limitRun := 0, shedRun := 0, cutoffRun := 0, recoverRun := 0 }
        lif := answered 0x38 (fields (if asked.hysteresis = u16At p 8 then 0 else 1) asked) s.lif })) ∧
  (∀ (strap : PinLevel) (b : Byte) (s : State), Takes 0x39 [b] s →
    let low := decide (strap = .low)
    let leaves := fun (code : Nat) (f : Bool) => Host.Outcome.next { s with
      cfg := { s.cfg with bmn := { s.cfg.bmn with lockFlag := f } }
      lif := answered 0x39 [.u8 code, .u8 f.toNat, .u8 (!low).toNat, .u8 (f && low).toNat] s.lif }
    (s.pst.writing ≠ none → exec (.protLock strap [b]) s = leaves 2 s.cfg.bmn.lockFlag) ∧
    (s.pst.writing = none →
      (2 ≤ b.toNat → exec (.protLock strap [b]) s = leaves 5 s.cfg.bmn.lockFlag) ∧
      (b.toNat = 1 → exec (.protLock strap [b]) s = leaves 0 true) ∧
      (b.toNat = 0 → s.cfg.bmn.lockFlag = true → strap = .low → exec (.protLock strap [b]) s = leaves 7 true) ∧
      (b.toNat = 0 → s.cfg.bmn.lockFlag = false ∨ strap = .high → exec (.protLock strap [b]) s = leaves 0 false)))

/-- A sweep completion settles the cell count and the tap fault flag, gives each cell's filter its raw reading, finds the weakest cell and
the lowest compensated voltage, counts the charge and publishes the set with the next sweep count. TAP_FAULT_CHANGE is the completion at
which the flag changes (R144 to R149, R158). That the sweep completion runs whole at the event row when its outcome is due, and nothing
happens when it is not, is the model's inference (logs 7 and 8). The order of the tap check and the readings and AUTO's one decision are
the model's inferences (logs 25 and 31). -/
def Obligations.SweepPublishesTheCells : Prop :=
  ∀ (x : SweepSamples) (s : State), s.power = .running → 2 ≤ s.bmn.cellCount → s.bmn.cellCount ≤ 4 →
    s.cfg.bmn.cellCount = 0 ∨ (2 ≤ s.cfg.bmn.cellCount ∧ s.cfg.bmn.cellCount ≤ 4) →
    (∀ i : Fin 4, s.bmn.filters[i].length ≤ 4) →
    let b := s.bmn
    let pack := min x.pack 25000
    let taps := [min x.tap1 5000, min x.tap2 10000, min x.tap3 15000]
    let current := min x.packCurrent 120000
    let n := if s.cfg.bmn.cellCount ≠ 0 then s.cfg.bmn.cellCount
      else if b.autoPending then max 2 (min ((pack + 4349) / 4350) 4) else b.cellCount
    let low := (taps.take (n - 1)).any fun v => decide (v < 500)
    let bad := if low then min ((if n = b.cellCount then b.badRun else 0) + 1) 255 else 0
    let good := if low then 0 else min ((if n = b.cellCount then b.goodRun else 0) + 1) 255
    let fault := if b.tapFault then decide (good < 25) else decide (25 ≤ bad)
    let raw := fun i : Nat =>
      if fault then pack / n
      else if i = 0 then taps.getD 0 0
      else if i + 1 < n then taps.getD i 0 - taps.getD (i - 1) 0 else pack - taps.getD (n - 2) 0
    let comp := min (current * s.cfg.bmn.cellMilliohm / 1000) s.cfg.bmn.compCap
    let charge := min (b.charge + current * 20) 235926000000
    let capacity := s.cfg.bmn.capacity
    let used := charge / 3600000
    ∃ t, exec (.sweepCompletion x) s = .next t ∧ t.bmn.cellCount = n ∧ t.bmn.tapFault = fault ∧ t.bmn.autoPending = false ∧
      t.bmn.auto = (if s.cfg.bmn.cellCount ≠ 0 then false else b.autoPending || b.auto) ∧
      t.bmn.badRun = (if fault = b.tapFault then bad else 0) ∧ t.bmn.goodRun = (if fault = b.tapFault then good else 0) ∧
      (∀ i : Fin 4, i.val < n → t.bmn.filters[i] =
        (if n = b.cellCount ∧ fault = b.tapFault then b.filters[i].drop (b.filters[i].length - 3) else []) ++ [raw i.val]) ∧
      (∀ i : Fin 4, i.val < n → t.bmn.pub.cells[i] =
        { mv := t.bmn.filters[i].sum / t.bmn.filters[i].length, entries := t.bmn.filters[i].length }) ∧
      (∀ i : Fin 4, n ≤ i.val → t.bmn.pub.cells[i] = { mv := 0, entries := 0 }) ∧
      t.bmn.pub.comp = comp ∧ 1 ≤ t.bmn.pub.weakest ∧ t.bmn.pub.weakest ≤ n ∧
      (∀ i : Fin 4, i.val + 1 = t.bmn.pub.weakest → t.bmn.pub.minVc = t.bmn.pub.cells[i].mv + comp) ∧
      (∀ i : Fin 4, i.val < n → t.bmn.pub.minVc ≤ t.bmn.pub.cells[i].mv + comp) ∧
      (∀ i : Fin 4, i.val + 1 < t.bmn.pub.weakest → t.bmn.pub.minVc < t.bmn.pub.cells[i].mv + comp) ∧
      t.bmn.charge = charge ∧ t.bmn.pub.usedMah = used ∧
      t.bmn.pub.remaining = (if capacity = 0 then 255 else if used < capacity then (capacity - used) * 100 / capacity else 0) ∧
      t.bmn.pub.sweep = b.pub.sweep + 1 ∧ t.bmn.pub.pack = pack ∧ t.bmn.pub.packCurrent = current ∧
      [t.bmn.pub.tap1, t.bmn.pub.tap2, t.bmn.pub.tap3] = taps ∧ t.bmn.pub.servoRail = min x.servoRail 65000 ∧
      t.bmn.pub.df = min x.df 65000 ∧ t.bmn.pub.dr = min x.dr 65000 ∧ t.bmn.pub.winch = min x.winch 65000 ∧
      t.bmn.pub.stage = t.bmn.stage ∧ t.cfg = s.cfg ∧ t.pst = s.pst ∧
      (fault ≠ b.tapFault → exec (.tapFaultChange x) s = .next t) ∧
      (fault = b.tapFault → exec (.tapFaultChange x) s = .next s)

/-- A sweep completion advances the four worsening counters and moves the stage: to the worst stage whose counter has reached its dwell,
or, with the recover counter at its dwell, one step better; each change is reported, and CUTOFF is entered by the chassis at once.
STAGE_WORSEN and STAGE_RECOVER are the completions at which it happens. The entry into CUTOFF clears the setpoint, ends the blends, the shift
and the winch operation, stops the drives and forces every light channel off whose source is not LOWBATT, its reports following in that
order (R12, R14, R28, R54, R75, R107, R125, R150 to R153). That the sweep completion runs whole at the event row when its outcome is due,
and nothing happens when it is not, is the model's inference (logs 7 and 8); so is its own flag `restart`, which a channel forced off loses
(log 21). -/
def Obligations.SweepMovesTheStage : Prop :=
  ∀ (x : SweepSamples) (s : State), s.power = .running →
    let b := s.bmn
    let g := s.cfg.bmn
    let counted := fun (held : Bool) (k : Nat) => if held then min (k + 1) 65535 else 0
    ∃ t, exec (.sweepCompletion x) s = .next t ∧
      (let v := t.bmn.pub.minVc
       let worst : Stage := if g.cutoffDwell ≤ t.bmn.cutoffRun then .cutoff else if g.stageDwell ≤ t.bmn.shedRun then .shed
         else if g.stageDwell ≤ t.bmn.limitRun then .limit else if g.stageDwell ≤ t.bmn.warnRun then .warn else .normal
       let threshold := match b.stage with
         | .warn => g.levels.warn
         | .limit => g.levels.limit
         | .shed => g.levels.shed
         | .normal | .cutoff => 0
       let risen := counted (decide (threshold + g.levels.hysteresis ≤ v)) b.recoverRun
       let better : Stage := match b.stage with
         | .warn | .normal => .normal
         | .limit => .warn
         | .shed => .limit
         | .cutoff => .cutoff
       let recovering := b.stage = .warn ∨ b.stage = .limit ∨ b.stage = .shed
       t.bmn.warnRun = counted (decide (v < g.levels.warn)) b.warnRun ∧
       t.bmn.limitRun = counted (decide (v < g.levels.limit)) b.limitRun ∧
       t.bmn.shedRun = counted (decide (v < g.levels.shed)) b.shedRun ∧
       t.bmn.cutoffRun = counted (decide (v < g.levels.cutoff)) b.cutoffRun ∧
       (b.stage.code < worst.code → t.bmn.stage = worst ∧ t.bmn.recoverRun = 0 ∧ exec (.stageWorsen x) s = .next t) ∧
       (worst.code ≤ b.stage.code → exec (.stageWorsen x) s = .next s ∧
         (¬recovering → t.bmn.stage = b.stage ∧ t.bmn.recoverRun = 0 ∧ exec (.stageRecover x) s = .next s) ∧
         (recovering → risen < g.recoverDwell →
           t.bmn.stage = b.stage ∧ t.bmn.recoverRun = risen ∧ exec (.stageRecover x) s = .next s) ∧
         (recovering → g.recoverDwell ≤ risen →
           t.bmn.stage = better ∧ t.bmn.recoverRun = 0 ∧ exec (.stageRecover x) s = .next t)) ∧
       t.cfg = s.cfg ∧ t.pst = s.pst ∧
       (t.bmn.stage = b.stage ∨ t.bmn.stage ≠ .cutoff →
         t.lcu = s.lcu ∧ t.smx = s.smx ∧ t.spg = s.spg ∧ t.drc = s.drc ∧ t.wnc = { s.wnc with grantUnread := true }) ∧
       (t.bmn.stage = b.stage → t.lif = s.lif ∧ t.csc = s.csc) ∧
       (t.bmn.stage ≠ b.stage → t.bmn.stage ≠ .cutoff → t.csc = s.csc ∧ t.lif = posted
         { type := 0xE1, fields := [.u8 b.stage.code, .u8 t.bmn.stage.code, .u16 v] } s.lif) ∧
       (t.bmn.stage ≠ b.stage → t.bmn.stage = .cutoff → s.csc.chassis ≠ .cutoff →
         let x := s.spg.shift
         let going := x.phase = .moving ∨ x.phase = .settling
         let gear := if going then x.pending.getD x.gear else x.gear
         let w := s.wnc
         let hasOp := w.state = .spoolIn ∨ w.state = .spoolOut ∨ w.state = .pull ∨ w.state = .suspended
         let held := if w.state = .suspended then w.reasons else noReasons
         let moved := posted { type := 0xE0, fields := [.u8 s.csc.chassis.code, .u8 4, .u8 4] } (posted
           { type := 0xE1, fields := [.u8 b.stage.code, .u8 4, .u16 v] } s.lif)
         let shifted := if x.phase = .idle then moved else posted
           { type := 0xE2, fields := [.u8 (if going then 3 else 2), .u8 gear.code, .u8 (pendingGearCode x.pending)] } moved
         t.csc = { s.csc with
           chassis := .cutoff, setpoint := { throttle := 0, steer := 0, valid := false }, hold := none } ∧
         t.smx = { s.smx with frontBlend := s.smx.frontBlend.dropped, rearBlend := s.smx.rearBlend.dropped } ∧
         t.spg = { s.spg with
           shift := { x with gear := gear, pending := none, phase := .idle, waitMs := 0, settleMs := 0 } } ∧
         t.drc = { s.drc with
           df := { s.drc.df with target := 0, output := 0, brake := 0 }
           dr := { s.drc.dr with target := 0, output := 0, brake := 0 } } ∧
         t.wnc = { w with
           state := .braked, duty := 0, op := none, reasons := noReasons, stall := none, grantUnread := true
           last := if hasOp then .cutoff else w.last } ∧
         (∀ k : Fin 8, ((mapOf s k).source = .lowBatt → lightOfState t k = lightOfState s k) ∧
           ((mapOf s k).source ≠ .lowBatt → lightOfState t k = { lightOfState s k with
             forcedOff := true, restart := false, runner := none, level := 0, base := 0 })) ∧
         t.lif = (if hasOp then posted
           { type := 0xE3, fields := [.u8 6, .i32 (Int.tdiv (w.position * s.cfg.wnc.umPerCount) 1000), .u8 w.valid.toNat,
             .u8 held.host.toNat, .u8 held.hold.toNat, .u8 held.budget.toNat] } shifted else shifted)))

/-- Whatever is commanded, the chassis record stays in order (a hold record exactly in HOLD, a valid setpoint exactly in RUN and HOLD,
CUTOFF exactly at the stage CUTOFF), and in CUTOFF nothing moves: both drives coast, the winch record is BRAKED at duty 0 and every lamp
whose source is not LOWBATT is at level 0 (R2, R3, R10, R12, R13, R75, R107, R125). -/
def Obligations.CutoffKeepsTheVehicleStill : Prop :=
  ∀ s t : State, ChassisRecordOk s → CutoffIsStill s → step s = .next t → ChassisRecordOk t ∧ CutoffIsStill t

/-- BUDGET_CLASS replaces one class record by the clamped values while the ceiling is not below the floor and the five floors fit under
half of Pmax; before the first allocation the published grants follow at once (R163, R164). For a class code above 4 the record in the
reply is free, the model's choice (log 3). Widths of reply fields that no rule states are the model's inference (log 5). -/
def Obligations.BudgetClassKeepsTheFloorSum : Prop :=
  (∀ (p : Payload) (id : ClassId) (s : State), Takes 0x3C p s → p.length = 8 → classOf (u8At p 0) = some id →
    let r : ClassRecord := { priority := min (u8At p 1) 7, floor := min (u16At p 2) 20000, ceiling := min (u32At p 4) 120000 }
    let exact := u8At p 1 ≤ 7 ∧ u16At p 2 ≤ 20000 ∧ u32At p 4 ≤ 120000
    let old := s.cfg.pba.classes
    let new := old.set id r
    let sum := fun c : PerClass ClassRecord =>
      c.servo.floor + c.driveF.floor + c.driveR.floor + c.winch.floor + c.lights.floor
    let fields := fun (code : Nat) (c : PerClass ClassRecord) =>
      [Field.u8 code, .u8 (u8At p 0), .u8 (c.get id).priority, .u16 (c.get id).floor, .u32 (c.get id).ceiling, .u32 (sum c)]
    (s.pst.writing ≠ none →
      exec (.budgetClass p) s = .next { s with lif := answered 0x3C (fields 2 old) s.lif }) ∧
    (s.pst.writing = none → r.ceiling < r.floor ∨ s.cfg.pba.pmax / 2 < sum new →
      exec (.budgetClass p) s = .next { s with lif := answered 0x3C (fields 5 old) s.lif }) ∧
    (s.pst.writing = none → r.floor ≤ r.ceiling → sum new ≤ s.cfg.pba.pmax / 2 →
      exec (.budgetClass p) s = .next { s with
        cfg := { s.cfg with pba := { s.cfg.pba with classes := new } }
        pba := if s.pba.allocated then s.pba else { s.pba with pub := { s.pba.pub with grant := floorsOf new } }
        lif := answered 0x3C (fields (if exact then 0 else 1) new) s.lif })) ∧
  (∀ (p : Payload) (s : State), Takes 0x3C p s → p.length = 8 → 5 ≤ u8At p 0 →
    exec (.budgetClass p) s = .next { s with
      freeIndex := s.freeIndex + 3
      lif := answered 0x3C [.u8 (if s.pst.writing = none then 5 else 2), .u8 (u8At p 0), .u8 (Config.freeValue s.freeIndex),
        .u16 (Config.freeValue (s.freeIndex + 1)), .u32 (Config.freeValue (s.freeIndex + 2)),
        .u32 (floorsOf s.cfg.pba.classes).sum] s.lif })

/-- The allocation of a sweep completion divides exactly the available current of its stage into the five grants and the leftover, so the
grants never exceed it; no class gets more than its ceiling, none but in CUTOFF less than its floor, and in CUTOFF every grant is 0. Each
grant is the floor and the extra of the class; the want is what the class needs beyond its floor grant, and the extras are served by
priority, in proportion where a level wants more than there is; the derived values follow (R165 to R171). -/
def Obligations.GrantsNeverExceedTheAvailable : Prop :=
  ∀ (x : SweepSamples) (s : State), s.power = .running →
    ∃ t, exec (.sweepCompletion x) s = .next t ∧
      (let a := t.pba.pub
       t.pba.allocated = true ∧ t.wnc.grantUnread = true ∧ a.pmax = s.cfg.pba.pmax ∧ a.stage = t.bmn.pub.stage ∧ a.sweep = t.bmn.pub.sweep ∧
       a.available = (match t.bmn.stage with
         | .normal | .warn => s.cfg.pba.pmax
         | .limit => s.cfg.pba.pmax * 3 / 4
         | .shed => s.cfg.pba.pmax / 2
         | .cutoff => 0) ∧
       a.grant.sum + a.leftover = a.available ∧
       (t.bmn.stage = .cutoff → a.grant.sum = 0) ∧
       ((∀ c, (s.cfg.pba.classes.get c).floor ≤ (s.cfg.pba.classes.get c).ceiling) →
         ∀ c, a.grant.get c ≤ (s.cfg.pba.classes.get c).ceiling) ∧
       ((∀ c, (s.cfg.pba.classes.get c).priority ≤ 7) → (floorsOf s.cfg.pba.classes).sum ≤ s.cfg.pba.pmax / 2 →
         t.bmn.stage ≠ .cutoff → ∀ c, (s.cfg.pba.classes.get c).floor ≤ a.grant.get c) ∧
       a.demand = { servo := min x.servoRail 65000, driveF := min x.df 65000, driveR := min x.dr 65000
                    winch := min x.winch 65000, lights := lightsDemand t } ∧
       (let cs := s.cfg.pba.classes
        (∀ c, (cs.get c).priority ≤ 7) → (floorsOf cs).sum ≤ s.cfg.pba.pmax / 2 →
          let floor := fun c => if t.bmn.stage = .cutoff then 0 else (cs.get c).floor
          (∀ c, a.want.get c = min (cs.get c).ceiling (max (a.demand.get c * 5 / 4) (cs.get c).floor) - floor c) ∧
            ∃ extra : PerClass Nat, (∀ c, a.grant.get c = floor c + extra.get c) ∧
              ServedByPriority cs a.want extra (a.available - (if t.bmn.stage = .cutoff then 0 else (floorsOf cs).sum)) a.leftover) ∧
       a.demand.lights = ((List.finRange 8).map fun k => (mapOf t k).fullOn * (lightOfState t k).base / 1024).sum ∧
       a.lightScale = (if a.demand.lights = 0 then 1024 else min 1024 (a.grant.lights * 1024 / a.demand.lights)) ∧
       a.starved = decide (a.grant.winch < s.cfg.wnc.minimum) ∧ a.lightScale ≤ 1024 ∧ a.servoFactor ≤ 1024 ∧
       (a.demand.servo ≤ a.grant.servo → a.servoFactor = 1024) ∧
       (a.grant.servo < a.demand.servo → a.servoFactor = a.grant.servo * 1024 / a.demand.servo))

/-- Whatever is commanded, in the configuration in force and in every stored one the five floors add up to at most half of Pmax, each
priority is at most 7 and no ceiling is below its floor; before the first allocation the grants are the floors (R163, R164, R172). -/
def Obligations.FloorsStayWithinHalfPmax : Prop :=
  ∀ s t : State, FloorsWithinHalfPmax s → step s = .next t → FloorsWithinHalfPmax t

/-! ## Configuration, profile, unit resets and queries -/

/-- The parameters are those of the owners' tables, each with its id, its field of the configuration, its range and its factory default,
and no other id is listed. SET_PARAM judges store, id, lock and the floor sum in that order, then one parameter takes the clamped value and
nothing else of the configuration changes; the telemetry period restarts its schedule. GET_PARAM reads (R9, R31, R57, R81, R110, R128,
R156, R160, R165, R183, R184, R186). For an unlisted id while a store
runs the value in the reply is free, the model's choice (log 3). -/
def Obligations.SetParamChangesOneParameter : Prop :=
  (ParamRow 0x10 (fun c => c.csc.linkTimeout) 100 2000 250 ∧ ParamRow 0x11 (fun c => c.csc.holdLinkTimeout) 250 10000 2000) ∧
  (ParamRow 0x20 (fun c => c.smx.ratio) 0 2048 768 ∧ ParamRow 0x22 (fun c => c.smx.turnThreshold) 100 1000 400 ∧
    ParamRow 0x23 (fun c => if c.smx.failsafeSteer = .center then 0 else 1) 0 1 0 ∧
    ParamRow 0x24 (fun c => c.smx.powerOnMode.code) 0 3 0 ∧
    paramOf 0x21 = some .blendMs ∧ (∀ c, readParam c .blendMs = c.smx.blendMs) ∧ factoryConfig.smx.blendMs = 400 ∧
    ∀ v : Int, paramClamp .blendMs v = max 0 (min 2000 v) / 10 * 10) ∧
  (ParamRow 0x33 (fun c => c.spg.fsSlew) 0 16000 0 ∧ ParamRow 0x34 (fun c => c.spg.rsSlew) 0 16000 0 ∧
    ParamRow 0x35 (fun c => c.spg.shSlew) 0 16000 200 ∧ ParamRow 0x36 (fun c => c.spg.shiftThreshold) 0 300 80 ∧
    ParamRow 0x37 (fun c => c.spg.shiftWait) 200 5000 1500 ∧ ParamRow 0x38 (fun c => c.spg.shiftSettle) 0 1000 250 ∧
    ParamRow 0x39 (fun c => if c.spg.powerOnGear = .low then 0 else 1) 0 1 0 ∧
    (paramOf 0x30 = some .fsPeriod ∧ paramOf 0x31 = some .rsPeriod ∧ paramOf 0x32 = some .shPeriod) ∧
    (∀ c, readParam c .fsPeriod = c.spg.fsPeriod ∧ readParam c .rsPeriod = c.spg.rsPeriod ∧ readParam c .shPeriod = c.spg.shPeriod) ∧
    (factoryConfig.spg.fsPeriod = 10 ∧ factoryConfig.spg.rsPeriod = 10 ∧ factoryConfig.spg.shPeriod = 20) ∧
    ∀ i, i = .fsPeriod ∨ i = .rsPeriod ∨ i = .shPeriod → ∀ v : Int,
      paramClamp i v = if 20 ≤ v then 20 else if 10 ≤ v then 10 else if 5 ≤ v then 5 else 3) ∧
  (ParamRow 0x40 (fun c => c.drc.neutral) 0 100 30 ∧ ParamRow 0x41 (fun c => c.drc.gainF) 0 1200 1000 ∧
    ParamRow 0x42 (fun c => c.drc.gainR) 0 1200 1000 ∧ ParamRow 0x43 (fun c => c.drc.aUp) 1 1000 2 ∧
    ParamRow 0x44 (fun c => c.drc.aDown) 1 1000 4 ∧ ParamRow 0x45 (fun c => c.drc.drag) 0 1000 300 ∧
    ParamRow 0x46 (fun c => c.drc.tripLevel) 10000 65000 50000 ∧ ParamRow 0x47 (fun c => if c.drc.assistOn then 1 else 0) 0 1 1 ∧
    ParamRow 0x48 (fun c => c.drc.assistGain) 0 100 20 ∧ ParamRow 0x49 (fun c => c.drc.assistCap) 0 500 250 ∧
    ParamRow 0x4A (fun c => if c.drc.failsafeBrake then 1 else 0) 0 1 1) ∧
  (ParamRow 0x50 (fun c => c.wnc.umPerCount) 10 5000 250 ∧ ParamRow 0x51 (fun c => c.wnc.approach) 0 20000 400 ∧
    ParamRow 0x52 (fun c => c.wnc.stallWindow) 100 2000 300 ∧ ParamRow 0x53 (fun c => c.wnc.stallCurrent) 1000 30000 8000 ∧
    ParamRow 0x54 (fun c => c.wnc.tripLevel) 5000 65000 30000 ∧ ParamRow 0x55 (fun c => c.wnc.minimum) 0 5000 500) ∧
  (∀ k : Fin 8, ParamRow (0x60 + k.val) (fun c => c.lcu.maps[k].fullOn) 0 2000 0) ∧
  (ParamRow 0x71 (fun c => c.bmn.cellMilliohm) 0 50 8 ∧ ParamRow 0x72 (fun c => c.bmn.compCap) 0 600 400 ∧
    ParamRow 0x73 (fun c => c.bmn.stageDwell) 1 250 25 ∧ ParamRow 0x74 (fun c => c.bmn.cutoffDwell) 10 1000 100 ∧
    ParamRow 0x75 (fun c => c.bmn.recoverDwell) 10 1000 100 ∧ ParamRow 0x76 (fun c => c.bmn.capacity) 0 20000 0 ∧
    paramOf 0x70 = some .cellCount ∧ (∀ c, readParam c .cellCount = c.bmn.cellCount) ∧ factoryConfig.bmn.cellCount = 0 ∧
    ∀ v : Int, paramClamp .cellCount v = if v ≤ 0 then 0 else if v ≤ 2 then 2 else if v ≤ 3 then 3 else 4) ∧
  (ParamRow 0x80 (fun c => c.pba.pmax) 5000 120000 40000 ∧ ParamRow 0x90 (fun c => c.lif.baud) 0 3 0 ∧
    paramOf 0x91 = some .telemetryMs ∧ (∀ c, readParam c .telemetryMs = c.lif.telemetryMs) ∧ factoryConfig.lif.telemetryMs = 0 ∧
    ∀ v : Int, paramClamp .telemetryMs v = if v ≤ 0 then 0 else max 20 (min 1000 v)) ∧
  (∀ n : Nat, paramOf n ≠ none ↔
    (0x10 ≤ n ∧ n ≤ 0x11) ∨ (0x20 ≤ n ∧ n ≤ 0x24) ∨ (0x30 ≤ n ∧ n ≤ 0x39) ∨ (0x40 ≤ n ∧ n ≤ 0x4A) ∨ (0x50 ≤ n ∧ n ≤ 0x55) ∨
      (0x60 ≤ n ∧ n ≤ 0x67) ∨ (0x70 ≤ n ∧ n ≤ 0x76) ∨ n = 0x80 ∨ (0x90 ≤ n ∧ n ≤ 0x91)) ∧
  (∀ (n : Nat) (i : ParamId), paramOf n = some i → (i.protected = true ↔ (0x70 ≤ n ∧ n ≤ 0x76) ∨ n = 0x80)) ∧
  (∀ (strap : PinLevel) (p : Payload) (s : State), Takes 0x40 p s → p.length = 5 →
    let n := u8At p 0
    let asked := i32At p 1
    let active := s.cfg.bmn.lockFlag = true ∧ strap = .low
    let kept := fun (code : Nat) (v : Int) =>
      Host.Outcome.next { s with lif := answered 0x40 [.u8 code, .u8 n, .i32 v] s.lif }
    (paramOf n = none → s.pst.writing = none → exec (.setParam strap p) s = kept 5 0) ∧
    (paramOf n = none → s.pst.writing ≠ none → exec (.setParam strap p) s = .next { s with
      freeIndex := s.freeIndex + 1
      lif := answered 0x40 [.u8 2, .u8 n, .i32 (Config.freeValue s.freeIndex)] s.lif }) ∧
    (∀ i : ParamId, paramOf n = some i →
      let v := paramClamp i asked
      let locked := active ∧ i.protected = true
      let fits := i ≠ .pmax ∨ (floorsOf s.cfg.pba.classes).sum ≤ v.toNat / 2
      (s.pst.writing ≠ none → exec (.setParam strap p) s = kept 2 (readParam s.cfg i)) ∧
      (s.pst.writing = none → locked → exec (.setParam strap p) s = kept 7 (readParam s.cfg i)) ∧
      (s.pst.writing = none → ¬locked → ¬fits → exec (.setParam strap p) s = kept 5 (readParam s.cfg i)) ∧
      (s.pst.writing = none → ¬locked → fits →
        ∃ t, exec (.setParam strap p) s = .next t ∧ readParam t.cfg i = v.toNat ∧ 0 ≤ v ∧
          (∀ j : ParamId, j ≠ i → readParam t.cfg j = readParam s.cfg j) ∧
          t.cfg.smx.frontTable = s.cfg.smx.frontTable ∧ t.cfg.smx.rearTable = s.cfg.smx.rearTable ∧
          t.cfg.drc.throttleTable = s.cfg.drc.throttleTable ∧ t.cfg.spg.fsEnds = s.cfg.spg.fsEnds ∧
          t.cfg.spg.rsEnds = s.cfg.spg.rsEnds ∧ t.cfg.spg.shEnds = s.cfg.spg.shEnds ∧ t.cfg.wnc.inner = s.cfg.wnc.inner ∧
          t.cfg.wnc.outer = s.cfg.wnc.outer ∧ t.cfg.bmn.levels = s.cfg.bmn.levels ∧
          t.cfg.bmn.lockFlag = s.cfg.bmn.lockFlag ∧ t.cfg.pba.classes = s.cfg.pba.classes ∧
          t.cfg.lcu.pool = s.cfg.lcu.pool ∧ t.cfg.lcu.table = s.cfg.lcu.table ∧ t.cfg.lcu.free = s.cfg.lcu.free ∧
          (∀ k : Fin 8, { mapOf t k with fullOn := 0 } = { mapOf s k with fullOn := 0 }) ∧
          t = { s with
            cfg := t.cfg
            lif := { answered 0x40 [.u8 (if v = asked then 0 else 1), .u8 n, .i32 v] s.lif with
              telNext := if i ≠ .telemetryMs then s.lif.telNext else if v = 0 then none
                else some (s.now + v.toNat) } }))) ∧
  (∀ (b : Byte) (s : State), Takes 0x41 [b] s →
    (paramOf b.toNat = none →
      exec (.getParam [b]) s = .next { s with lif := answered 0x41 [.u8 5, .u8 b.toNat, .i32 0] s.lif }) ∧
    (∀ i : ParamId, paramOf b.toNat = some i → exec (.getParam [b]) s = .next { s with
      lif := answered 0x41 [.u8 0, .u8 b.toNat, .i32 (readParam s.cfg i)] s.lif }))

/-- PROFILE_STORE is refused while a store runs and in SHED or CUTOFF; otherwise it takes a snapshot. The completion ends the store by the
outcome of the read-back and posts PROFILE_END; a snapshot that reads back is the stored image. While a store runs the sixteen requests
that would change the configuration or the profile are refused BUSY and change nothing (R189). That an image which does not read back fails
its check at the next power-on is the model's inference (log 12); the counter of free values is the model's own (log 3). Widths of reply
and report fields that no rule states are the model's inference (log 5), and so is that a set that waits is not in the snapshot (log 16).
That BUSY is judged before a bad value, where a chapter names no order, is the model's choice (log 15); that a completion without a store
changes nothing is its inference (log 7). -/
def Obligations.ProfileStoreWritesASnapshot : Prop :=
  (∀ s : State, Takes 0x48 [] s →
    let kept := fun code state : Nat =>
      Host.Outcome.next { s with lif := answered 0x48 [.u8 code, .u8 state] s.lif }
    (s.pst.writing ≠ none → exec (.profileStore []) s = kept 2 1) ∧
    (s.pst.writing = none → 3 ≤ s.bmn.pub.stage.code → exec (.profileStore []) s = kept 11 0) ∧
    (s.pst.writing = none → s.bmn.pub.stage.code ≤ 2 → exec (.profileStore []) s = .next { s with
      pst := { s.pst with writing := some { snapshot := s.cfg, acceptedAt := s.now } }
      lif := answered 0x48 [.u8 0, .u8 1] s.lif })) ∧
  (∀ (ok : Bool) (w : StoreWrite) (s : State), s.power = .running → s.pst.writing = some w →
    exec (.profileStoreCompletion ok) s = .next { s with
      pst := if ok then { stored := .passes w.snapshot, writing := none, valid := true, defaulted := false }
        else { s.pst with stored := .failsCheck, writing := none, valid := false }
      lif := posted { type := 0xE5, fields := [.u8 (if ok then 0 else 1), .u16 (s.now - w.acceptedAt)] } s.lif }) ∧
  (∀ (ok : Bool) (s : State), s.pst.writing = none → exec (.profileStoreCompletion ok) s = .next s) ∧
  (∀ (c : Instr) (ty : Byte) (p : Payload) (s : State), requestOf c = some (ty, p) → Takes ty p s →
    lengthAllowed ty p.length = true → s.pst.writing ≠ none →
    ty ∈ [0x40#8, 0x10#8, 0x09#8, 0x0A#8, 0x0B#8, 0x31#8, 0x32#8, 0x33#8, 0x34#8, 0x25#8, 0x38#8, 0x3C#8, 0x39#8, 0x48#8, 0x49#8,
      0x4A#8] →
    ∃ t fields, exec c s = .next t ∧ t = { s with freeIndex := t.freeIndex, lif := answered ty (.u8 2 :: fields) s.lif })

/-- A restore carried out replaces the configuration as one action: loads close, endpoints wait for the next frame start, the light channels
restart, the telemetry schedule restarts; an active lock keeps the battery part, Pmax and, if the floors would not fit, the classes. A
refused one changes nothing. With an active lock a refusal's two flags are free, the model's choice (log 3). R190, R37, R58, R111, R129,
R161, R163, R172. That a channel left forced off takes the activity that its source reads is the model's inference (log 20), and so is that
the model's own flag `restart` is cleared on a channel forced off and kept on the others (log 21; section 6.5). -/
def Obligations.RestoreReplacesTheConfiguration : Prop :=
  ∀ (fromStore : Bool) (strap : PinLevel) (s : State), Takes (if fromStore then 0x49 else 0x4A) [] s →
    let run := exec (if fromStore then .profileRestore strap [] else .profileDefaults strap []) s
    let reply := fun (code a b : Nat) => answered (if fromStore then 0x49 else 0x4A) [.u8 code, .u8 a, .u8 b] s.lif
    let active := s.cfg.bmn.lockFlag = true ∧ strap = .low
    let refused := fun code : Nat => if active
      then Host.Outcome.next { s with
        freeIndex := s.freeIndex + 2, lif := reply code (Config.freeValue s.freeIndex) (Config.freeValue (s.freeIndex + 1)) }
      else Host.Outcome.next { s with lif := reply code 0 0 }
    let found := !fromStore || (s.pst.valid && decide (s.pst.stored ≠ .failsCheck))
    (s.pst.writing ≠ none → run = refused 2) ∧
    (s.pst.writing = none → s.csc.chassis = .run ∨ found = false → run = refused 3) ∧
    (∀ new : WorkingConfig, s.pst.writing = none → s.csc.chassis ≠ .run → found = true →
      (if fromStore then s.pst.stored = .passes new else new = factoryConfig) → WinchRecordOk s →
      let keeps := active ∧ s.cfg.pba.pmax / 2 < (floorsOf new.pba.classes).sum
      let classes := if keeps then s.cfg.pba.classes else new.pba.classes
      ∃ t, run = .next t ∧
        t.cfg = { new with
          spg := { new.spg with fsEnds := s.cfg.spg.fsEnds, rsEnds := s.cfg.spg.rsEnds, shEnds := s.cfg.spg.shEnds }
          bmn := if active then s.cfg.bmn else new.bmn
          pba := { classes := classes, pmax := if active then s.cfg.pba.pmax else new.pba.pmax } } ∧
        t.spg = { s.spg with
          fs := { s.spg.fs with waiting := some new.spg.fsEnds }
          rs := { s.spg.rs with waiting := some new.spg.rsEnds }
          sh := { s.spg.sh with waiting := some new.spg.shEnds } } ∧
        t.smx = { s.smx with
          frontLoad := { state := .closed, pointer := 0, shadow := new.smx.frontTable }
          rearLoad := { state := .closed, pointer := 0, shadow := new.smx.rearTable }
          throttleLoad := { state := .closed, pointer := 0, shadow := new.drc.throttleTable } } ∧
        t.bmn = (if active then s.bmn
          else { s.bmn with warnRun := 0, limitRun := 0, shedRun := 0, cutoffRun := 0, recoverRun := 0 }) ∧
        t.pba = (if s.pba.allocated then s.pba else { s.pba with pub := { s.pba.pub with grant := floorsOf classes } }) ∧
        t.lif = { reply 0 (if active then 1 else 0) (if keeps then 1 else 0) with
          telNext := if new.lif.telemetryMs = 0 then none else some (s.now + new.lif.telemetryMs) } ∧
        t.csc = s.csc ∧ t.drc = s.drc ∧ t.wnc = s.wnc ∧ t.pst = s.pst ∧ t.power = s.power ∧ t.now = s.now ∧
        t.freeIndex = s.freeIndex ∧
        (∀ k : Fin 8,
          let m := new.lcu.maps[k]
          let c := lightOfState s k
          let a := sourceActive t m.source
          (s.csc.chassis = .cutoff → m.source ≠ .lowBatt → lightOfState t k = { c with
            activity := a, base := 0, runner := none, forcedOff := true, restart := false, residual := 0, level := 0 }) ∧
          (s.csc.chassis ≠ .cutoff ∨ m.source = .lowBatt → lightOfState t k =
            startAction new.lcu (m.action a) { c with runner := none, residual := 0, activity := a, forcedOff := false })))

/-- Each unit reset brings its blocks to the values of their tables and changes no configuration; an unknown unit is refused, BATTERY is
refused in CUTOFF (R38, R54, R59, R82, R112, R130, R162, R191). That the six rows share the requests naming no unit is the model's choice
(log 10). Widths of reply fields that no rule states are the model's inference (log 5), as are that UNIT_RESET LIGHTS leaves the model's
own flag `restart` as it was (log 21), UNIT_RESET DRIVE what the last update left for the flags of R79 (log 33), and UNIT_RESET LIGHTS
the activity of a channel that is forced off (log 42). -/
def Obligations.UnitResetsClearTheirBlocks : Prop :=
  (∀ s : State, Takes 0x50 [0] s →
    let x := s.spg.shift
    let going := x.phase = .moving ∨ x.phase = .settling
    let gear := if going then x.pending.getD x.gear else x.gear
    let idle := fun b : Blend => { b with elapsedUs := 0, active := false }
    let loaded := fun (l : CurveLoad) (active : CurveTable) =>
      if l.state = .opened then { state := .closed, pointer := 0, shadow := active } else l
    let ends := { type := 0xE2#8, fields := [.u8 (if going then 3 else 2), .u8 gear.code, .u8 (pendingGearCode x.pending)] : TxFrame }
    exec (.unitResetSteer [0]) s = .next { s with
      smx := { s.smx with
        frontBlend := idle s.smx.frontBlend, rearBlend := idle s.smx.rearBlend
        frontLoad := loaded s.smx.frontLoad s.cfg.smx.frontTable, rearLoad := loaded s.smx.rearLoad s.cfg.smx.rearTable
        throttleLoad := loaded s.smx.throttleLoad s.cfg.drc.throttleTable }
      spg := { fs := { s.spg.fs with acc := 0 }, rs := { s.spg.rs with acc := 0 }, sh := { s.spg.sh with acc := 0 }
               shift := { x with gear := gear, pending := none, phase := .idle, waitMs := 0, settleMs := 0 } }
      lif := answered 0x50 [.u8 0, .u8 0] (if x.phase = .idle then s.lif else posted ends s.lif) }) ∧
  (∀ s : State, Takes 0x50 [1] s →
    let atRest := fun (c : DriveChan) (locked : DigMode) => { powerOnDriveChan with
      lastTarget := c.lastTarget, lastOutput := c.lastOutput
      brake := if s.csc.chassis = .hold ∨ ((s.csc.chassis = .run ∨ s.csc.chassis = .failsafe) ∧ s.drc.digInForce = locked)
        then 1000 else 0 }
    exec (.unitResetDrive [1]) s = .next { s with
      drc := { s.drc with df := atRest s.drc.df .lockFront, dr := atRest s.drc.dr .lockRear }, lif := answered 0x50 [.u8 0, .u8 1] s.lif }) ∧
  (∀ s : State, Takes 0x50 [2] s →
    let w := s.wnc
    let hasOp := w.state = .spoolIn ∨ w.state = .spoolOut ∨ w.state = .pull ∨ w.state = .suspended
    let held := if w.state = .suspended then w.reasons else noReasons
    let ended := { type := 0xE3#8, fields := [.u8 7, .i32 (countsToMm s.cfg.wnc.umPerCount w.position), .u8 w.valid.toNat,
      .u8 held.host.toNat, .u8 held.hold.toNat, .u8 held.budget.toNat] : TxFrame }
    exec (.unitResetWinch [2]) s = .next { s with
      wnc := { w with
        state := .braked, duty := 0, op := none, speed := 0, target := 0, dir := .inward, reasons := noReasons, stall := none
        last := if hasOp then .reset else w.last
        cap := 1000, stallCount := 0, tripCount := 0, encErrors := 0 }
      lif := answered 0x50 [.u8 0, .u8 2] (if hasOp then posted ended s.lif else s.lif) }) ∧
  (∀ s : State, Takes 0x50 [3] s →
    ∃ t, exec (.unitResetLights [3]) s = .next t ∧
      t = { s with lcu := t.lcu, lif := answered 0x50 [.u8 0, .u8 3] s.lif } ∧
      ∀ k : Fin 8,
        let c := lightOfState s k
        let a := sourceActive s (mapOf s k).source
        lightOfState t k = (if c.forcedOff then { c with residual := 0 }
          else startAction s.cfg.lcu ((mapOf s k).action a) { c with runner := none, residual := 0, activity := a })) ∧
  (∀ s : State, Takes 0x50 [4] s →
    (s.csc.chassis = .cutoff →
      exec (.unitResetBattery [4]) s = .next { s with lif := answered 0x50 [.u8 3, .u8 4] s.lif }) ∧
    (s.csc.chassis ≠ .cutoff → exec (.unitResetBattery [4]) s = .next { s with
      bmn := { s.bmn with
        filters := Vector.replicate 4 [], warnRun := 0, limitRun := 0, shedRun := 0, cutoffRun := 0, recoverRun := 0, charge := 0 }
      lif := answered 0x50 [.u8 0, .u8 4] s.lif })) ∧
  (∀ (c : Instr) (b : Byte) (s : State), requestOf c = some (0x50, [b]) → Takes 0x50 [b] s → 6 ≤ b.toNat →
    exec c s = .next { s with lif := answered 0x50 [.u8 5, .u8 b.toNat] s.lif })

/-- The seven queries of state answer the values as they stand, in the order of their rules, and change nothing else; the reply of
GET_STATUS is 63 bytes long and laid out as in section 10.8, and no payload is longer than the 118 bytes of GET_BUDGET, whose Pmax is that
of the last allocation; a winch BRAKED in CUTOFF answers the code OFF, and the beyond-limit flag is set while the position is valid and
outside the stops (R56, R90, R91, R107, R109, R137, R138, R159, R171, R180, R185). Widths that no rule states are the model's choice (logs 4
and 5), as are the link position of an END step (log 3) and Pmax before the first allocation (log 40). The levels and the lock's state as at
the taking and the pull target's absence without a pull are the model's inferences (logs 23 and 29). -/
def Obligations.QueriesAnswerTheStateInForce : Prop :=
  let winch := fun s : State => match s.wnc.state with
    | .braked => if s.csc.chassis = .cutoff then 7 else 0
    | .free => 1
    | .spoolIn => 2
    | .spoolOut => 3
    | .pull => 4
    | .suspended => 5
    | .stalled => 6
  let beyond := fun s : State =>
    if s.wnc.valid = true ∧ (s.cfg.wnc.outer < s.wnc.position ∨ s.wnc.position < s.cfg.wnc.inner) then 1 else 0
  (∀ (strap : PinLevel) (s : State), Takes 0x51 [] s →
    let drive := fun c : DriveChan => [Field.i16 c.output, .u16 c.brake, .u16 c.cap, .u8 c.fault.code, .u8 c.tripCount]
    let lamp := fun k : Fin 8 =>
      let c := lightOfState s k
      [Field.u8 c.level, .u8 (match (mapOf s k).action c.activity with | .level _ => 255 | .pattern q => q.val),
        .u8 ((if c.activity then 3 else 0) + (if c.runner.map Runner.finished = some true then 4 else 0) +
          (if c.forcedOff then 8 else 0))]
    let fields := [Field.u8 0, .u8 s.csc.chassis.code, .u8 s.csc.linkLost.toNat,
        .u16 ((s.csc.hold.map fun h => min (s.now - h.entry) 65535).getD 0),
        .u8 ((s.csc.hold.map fun h => h.modeChange.toNat).getD 0), .u8 s.smx.target.code,
        .u8 (s.smx.frontBlend.active || s.smx.rearBlend.active).toNat, .u8 s.smx.frontBlend.active.toNat,
        .u8 s.smx.rearBlend.active.toNat, .u8 s.spg.shift.gear.code, .u8 s.spg.shift.phase.code, .u8 s.drc.digInForce.code,
        .u8 (s.drc.df.assist || s.drc.dr.assist).toNat] ++ drive s.drc.df ++ drive s.drc.dr ++
      [Field.u8 (winch s), .u8 s.wnc.valid.toNat, .u8 (beyond s), .u8 s.bmn.pub.stage.code,
        .u8 s.bmn.tapFault.toNat, .u8 s.bmn.pub.remaining, .u8 (if s.cfg.bmn.lockFlag = true ∧ strap = .low then 1 else 0),
        .u8 s.pst.defaulted.toNat, .u8 s.pst.writing.isSome.toNat] ++
      lamp 0 ++ lamp 1 ++ lamp 2 ++ lamp 3 ++ lamp 4 ++ lamp 5 ++ lamp 6 ++ lamp 7
    exec (.getStatus strap []) s = .next { s with lif := answered 0x51 fields s.lif } ∧
      (fields.flatMap Field.bytes).length = 63) ∧
  (∀ (b : Byte) (s : State), Takes 0x12 [b] s →
    let answers := fun fields : List Field =>
      exec (.getServo [b]) s = .next { s with lif := answered 0x12 fields s.lif } ∧ (fields.flatMap Field.bytes).length ≤ 117
    let fields := fun (c : ServoChan) (e : Endpoints) (slew : Nat) (more : List Field) =>
      let last := c.waiting.getD e
      [Field.u8 0, .unsized .servoPeriod c.periodMs, .unsized .servoLeft last.left, .unsized .servoCenter last.center,
        .unsized .servoRight last.right, .u8 c.waiting.isSome.toNat, .unsized .servoSlew slew, .unsized .servoEffSlew c.effSlew,
        .unsized .servoPulse c.pOut, .unsized .servoAcc c.acc, .unsized .servoWidth c.lastWidth] ++ more
    let x := s.spg.shift
    (b.toNat = 0 → answers (fields s.spg.fs s.cfg.spg.fsEnds s.cfg.spg.fsSlew [.unsized .servoAngle s.smx.frontAngle])) ∧
    (b.toNat = 1 → answers (fields s.spg.rs s.cfg.spg.rsEnds s.cfg.spg.rsSlew [.unsized .servoAngle s.smx.rearAngle])) ∧
    (b.toNat = 2 → answers (fields s.spg.sh s.cfg.spg.shEnds s.cfg.spg.shSlew
      [.u8 x.gear.code, .u8 (pendingGearCode x.pending), .u8 x.phase.code, .u16 x.latched, .unsized .shiftWait x.waitMs,
        .unsized .shiftSettle x.settleMs])) ∧
    (3 ≤ b.toNat → answers [.u8 5])) ∧
  (∀ s : State, Takes 0x26 [] s →
    let w := s.wnc
    let mm := countsToMm s.cfg.wnc.umPerCount
    let fields := [Field.u8 0, .u8 (winch s), .u8 (winchOpCode w.op), .i32 (mm w.position), .unsized .winchCounts w.position,
        .u8 w.valid.toNat, .u8 (beyond s), .unsized .winchSpeed w.lineSpeed, .u8 w.reasons.host.toNat,
        .u8 w.reasons.hold.toNat, .u8 w.reasons.budget.toNat, .i32 (mm s.cfg.wnc.inner), .i32 (mm s.cfg.wnc.outer), .u8 w.last.code,
        .unsized .winchDuty w.duty, .unsized .winchCap w.cap] ++ (if w.op = some .pull then [.i32 (mm w.target)] else []) ++
      [.unsized .winchStalls w.stallCount, .unsized .winchTrips w.tripCount, .unsized .winchEncErrors w.encErrors]
    exec (.getWinch []) s = .next { s with lif := answered 0x26 fields s.lif } ∧
      (fields.flatMap Field.bytes).length ≤ 117) ∧
  (∀ (a b : Byte) (s : State), Takes 0x35 [a, b] s →
    let indices := fun l : List (Fin 64) => l.map fun i => Field.u8 i.val
    (16 ≤ a.toNat → exec (.getPattern [a, b]) s = .next { s with lif := answered 0x35 [.u8 5] s.lif }) ∧
    (∀ q : Fin 16, q.val = a.toNat →
      let e := s.cfg.lcu.table[q]
      let front := [Field.u8 0, .u8 q.val, .u8 (if e.steps = [] then 0 else 1), .u8 e.refs, .u8 e.steps.length] ++ indices e.steps
      (e.steps.length ≤ b.toNat →
        exec (.getPattern [a, b]) s = .next { s with lif := answered 0x35 (front ++ [.u8 0]) s.lif }) ∧
      (∀ i : Fin 64, e.steps[b.toNat]? = some i →
        let r := s.cfg.lcu.pool[i]
        ∃ x : Nat, (∀ k, r.link = .next k → x = k) ∧ exec (.getPattern [a, b]) s = .next { s with
          freeIndex := s.freeIndex + 1
          lif := answered 0x35 (front ++
            [.u8 1, .u8 b.toNat, .u16 r.target, .u16 r.ramp, .u16 r.hold, .u8 r.link.code, .u8 x]) s.lif }))) ∧
  (∀ s : State, Takes 0x36 [] s →
    exec (.getFree []) s = .next { s with lif := (answered 0x36
      ([.u8 0, .u8 s.cfg.lcu.free.length] ++ (s.cfg.lcu.free.take 16).map fun i => Field.u8 i.val) s.lif) }) ∧
  (∀ (strap : PinLevel) (s : State), Takes 0x3A [] s →
    let b := s.bmn.pub
    let l := s.cfg.bmn.levels
    let cell := fun i : Fin 4 => [Field.u16 b.cells[i].mv, .u8 b.cells[i].entries]
    exec (.getCells strap []) s = .next { s with lif := (answered 0x3A
      ([.u8 0, .u32 b.sweep.toNat, .u8 s.bmn.cellCount, .u8 s.bmn.auto.toNat, .u8 s.bmn.tapFault.toNat, .u16 b.pack, .u16 b.tap1,
          .u16 b.tap2, .u16 b.tap3, .u32 b.packCurrent] ++ cell 0 ++ cell 1 ++ cell 2 ++ cell 3 ++
        [.u16 b.comp, .u16 b.minVc, .u8 b.weakest, .u8 b.stage.code, .u16 l.warn, .u16 l.limit, .u16 l.shed, .u16 l.cutoff,
          .u16 l.hysteresis, .u16 b.usedMah, .u8 b.remaining, .u8 s.cfg.bmn.lockFlag.toNat, .u8 (if strap = .high then 1 else 0),
          .u8 (if s.cfg.bmn.lockFlag = true ∧ strap = .low then 1 else 0)]) s.lif) }) ∧
  (∀ s : State, Takes 0x3D [] s →
    let a := s.pba.pub
    let r := s.cfg.pba.classes
    let record := fun c : ClassRecord => [Field.u8 c.priority, .u16 c.floor, .u32 c.ceiling]
    let last := fun c : ClassId => [Field.u32 (a.demand.get c), .u32 (a.want.get c), .u32 (a.grant.get c)]
    let fields := [Field.u8 0, .u32 a.sweep.toNat, .u8 a.stage.code, .u32 (if s.pba.allocated then a.pmax else s.cfg.pba.pmax),
        .u32 a.available, .u32 a.leftover, .u16 a.lightScale, .u16 a.servoFactor, .u8 a.starved.toNat] ++
      record r.servo ++ record r.driveF ++ record r.driveR ++ record r.winch ++ record r.lights ++
      last .servo ++ last .driveF ++ last .driveR ++ last .winch ++ last .lights
    exec (.getBudget []) s = .next { s with lif := answered 0x3D fields s.lif } ∧
      (fields.flatMap Field.bytes).length = 118)
end

