-- ==== Sys2Proof/Laws/State.lean ====
section
/-! SUPPORT. One lemma per field per update of the state, true by unfolding, so that no proof unfolds a record update. -/

namespace Sys2Proof.Machine

variable (s : State)

/-! ### withCfg -/

@[simp] theorem withCfg_power (x : WorkingConfig) : (s.withCfg x).power = s.power := rfl
@[simp] theorem withCfg_now (x : WorkingConfig) : (s.withCfg x).now = s.now := rfl
@[simp] theorem withCfg_freeIndex (x : WorkingConfig) : (s.withCfg x).freeIndex = s.freeIndex := rfl
@[simp] theorem withCfg_pending (x : WorkingConfig) : (s.withCfg x).pending = s.pending := rfl
@[simp] theorem withCfg_cfg (x : WorkingConfig) : (s.withCfg x).cfg = x := rfl
@[simp] theorem withCfg_csc (x : WorkingConfig) : (s.withCfg x).csc = s.csc := rfl
@[simp] theorem withCfg_smx (x : WorkingConfig) : (s.withCfg x).smx = s.smx := rfl
@[simp] theorem withCfg_spg (x : WorkingConfig) : (s.withCfg x).spg = s.spg := rfl
@[simp] theorem withCfg_drc (x : WorkingConfig) : (s.withCfg x).drc = s.drc := rfl
@[simp] theorem withCfg_wnc (x : WorkingConfig) : (s.withCfg x).wnc = s.wnc := rfl
@[simp] theorem withCfg_lcu (x : WorkingConfig) : (s.withCfg x).lcu = s.lcu := rfl
@[simp] theorem withCfg_bmn (x : WorkingConfig) : (s.withCfg x).bmn = s.bmn := rfl
@[simp] theorem withCfg_pba (x : WorkingConfig) : (s.withCfg x).pba = s.pba := rfl
@[simp] theorem withCfg_lif (x : WorkingConfig) : (s.withCfg x).lif = s.lif := rfl
@[simp] theorem withCfg_pst (x : WorkingConfig) : (s.withCfg x).pst = s.pst := rfl
@[simp] theorem withCfg_self : s.withCfg s.cfg = s := rfl
@[simp] theorem withCfg_withCfg (x y : WorkingConfig) : (s.withCfg x).withCfg y = s.withCfg y := rfl

/-! ### withCsc -/

@[simp] theorem withCsc_power (x : Csc) : (s.withCsc x).power = s.power := rfl
@[simp] theorem withCsc_now (x : Csc) : (s.withCsc x).now = s.now := rfl
@[simp] theorem withCsc_freeIndex (x : Csc) : (s.withCsc x).freeIndex = s.freeIndex := rfl
@[simp] theorem withCsc_pending (x : Csc) : (s.withCsc x).pending = s.pending := rfl
@[simp] theorem withCsc_cfg (x : Csc) : (s.withCsc x).cfg = s.cfg := rfl
@[simp] theorem withCsc_csc (x : Csc) : (s.withCsc x).csc = x := rfl
@[simp] theorem withCsc_smx (x : Csc) : (s.withCsc x).smx = s.smx := rfl
@[simp] theorem withCsc_spg (x : Csc) : (s.withCsc x).spg = s.spg := rfl
@[simp] theorem withCsc_drc (x : Csc) : (s.withCsc x).drc = s.drc := rfl
@[simp] theorem withCsc_wnc (x : Csc) : (s.withCsc x).wnc = s.wnc := rfl
@[simp] theorem withCsc_lcu (x : Csc) : (s.withCsc x).lcu = s.lcu := rfl
@[simp] theorem withCsc_bmn (x : Csc) : (s.withCsc x).bmn = s.bmn := rfl
@[simp] theorem withCsc_pba (x : Csc) : (s.withCsc x).pba = s.pba := rfl
@[simp] theorem withCsc_lif (x : Csc) : (s.withCsc x).lif = s.lif := rfl
@[simp] theorem withCsc_pst (x : Csc) : (s.withCsc x).pst = s.pst := rfl
@[simp] theorem withCsc_self : s.withCsc s.csc = s := rfl
@[simp] theorem withCsc_withCsc (x y : Csc) : (s.withCsc x).withCsc y = s.withCsc y := rfl

/-! ### withSmx -/

@[simp] theorem withSmx_power (x : Smx) : (s.withSmx x).power = s.power := rfl
@[simp] theorem withSmx_now (x : Smx) : (s.withSmx x).now = s.now := rfl
@[simp] theorem withSmx_freeIndex (x : Smx) : (s.withSmx x).freeIndex = s.freeIndex := rfl
@[simp] theorem withSmx_pending (x : Smx) : (s.withSmx x).pending = s.pending := rfl
@[simp] theorem withSmx_cfg (x : Smx) : (s.withSmx x).cfg = s.cfg := rfl
@[simp] theorem withSmx_csc (x : Smx) : (s.withSmx x).csc = s.csc := rfl
@[simp] theorem withSmx_smx (x : Smx) : (s.withSmx x).smx = x := rfl
@[simp] theorem withSmx_spg (x : Smx) : (s.withSmx x).spg = s.spg := rfl
@[simp] theorem withSmx_drc (x : Smx) : (s.withSmx x).drc = s.drc := rfl
@[simp] theorem withSmx_wnc (x : Smx) : (s.withSmx x).wnc = s.wnc := rfl
@[simp] theorem withSmx_lcu (x : Smx) : (s.withSmx x).lcu = s.lcu := rfl
@[simp] theorem withSmx_bmn (x : Smx) : (s.withSmx x).bmn = s.bmn := rfl
@[simp] theorem withSmx_pba (x : Smx) : (s.withSmx x).pba = s.pba := rfl
@[simp] theorem withSmx_lif (x : Smx) : (s.withSmx x).lif = s.lif := rfl
@[simp] theorem withSmx_pst (x : Smx) : (s.withSmx x).pst = s.pst := rfl
@[simp] theorem withSmx_self : s.withSmx s.smx = s := rfl
@[simp] theorem withSmx_withSmx (x y : Smx) : (s.withSmx x).withSmx y = s.withSmx y := rfl

/-! ### withSpg -/

@[simp] theorem withSpg_power (x : Spg) : (s.withSpg x).power = s.power := rfl
@[simp] theorem withSpg_now (x : Spg) : (s.withSpg x).now = s.now := rfl
@[simp] theorem withSpg_freeIndex (x : Spg) : (s.withSpg x).freeIndex = s.freeIndex := rfl
@[simp] theorem withSpg_pending (x : Spg) : (s.withSpg x).pending = s.pending := rfl
@[simp] theorem withSpg_cfg (x : Spg) : (s.withSpg x).cfg = s.cfg := rfl
@[simp] theorem withSpg_csc (x : Spg) : (s.withSpg x).csc = s.csc := rfl
@[simp] theorem withSpg_smx (x : Spg) : (s.withSpg x).smx = s.smx := rfl
@[simp] theorem withSpg_spg (x : Spg) : (s.withSpg x).spg = x := rfl
@[simp] theorem withSpg_drc (x : Spg) : (s.withSpg x).drc = s.drc := rfl
@[simp] theorem withSpg_wnc (x : Spg) : (s.withSpg x).wnc = s.wnc := rfl
@[simp] theorem withSpg_lcu (x : Spg) : (s.withSpg x).lcu = s.lcu := rfl
@[simp] theorem withSpg_bmn (x : Spg) : (s.withSpg x).bmn = s.bmn := rfl
@[simp] theorem withSpg_pba (x : Spg) : (s.withSpg x).pba = s.pba := rfl
@[simp] theorem withSpg_lif (x : Spg) : (s.withSpg x).lif = s.lif := rfl
@[simp] theorem withSpg_pst (x : Spg) : (s.withSpg x).pst = s.pst := rfl
@[simp] theorem withSpg_self : s.withSpg s.spg = s := rfl
@[simp] theorem withSpg_withSpg (x y : Spg) : (s.withSpg x).withSpg y = s.withSpg y := rfl

/-! ### withDrc -/

@[simp] theorem withDrc_power (x : Drc) : (s.withDrc x).power = s.power := rfl
@[simp] theorem withDrc_now (x : Drc) : (s.withDrc x).now = s.now := rfl
@[simp] theorem withDrc_freeIndex (x : Drc) : (s.withDrc x).freeIndex = s.freeIndex := rfl
@[simp] theorem withDrc_pending (x : Drc) : (s.withDrc x).pending = s.pending := rfl
@[simp] theorem withDrc_cfg (x : Drc) : (s.withDrc x).cfg = s.cfg := rfl
@[simp] theorem withDrc_csc (x : Drc) : (s.withDrc x).csc = s.csc := rfl
@[simp] theorem withDrc_smx (x : Drc) : (s.withDrc x).smx = s.smx := rfl
@[simp] theorem withDrc_spg (x : Drc) : (s.withDrc x).spg = s.spg := rfl
@[simp] theorem withDrc_drc (x : Drc) : (s.withDrc x).drc = x := rfl
@[simp] theorem withDrc_wnc (x : Drc) : (s.withDrc x).wnc = s.wnc := rfl
@[simp] theorem withDrc_lcu (x : Drc) : (s.withDrc x).lcu = s.lcu := rfl
@[simp] theorem withDrc_bmn (x : Drc) : (s.withDrc x).bmn = s.bmn := rfl
@[simp] theorem withDrc_pba (x : Drc) : (s.withDrc x).pba = s.pba := rfl
@[simp] theorem withDrc_lif (x : Drc) : (s.withDrc x).lif = s.lif := rfl
@[simp] theorem withDrc_pst (x : Drc) : (s.withDrc x).pst = s.pst := rfl
@[simp] theorem withDrc_self : s.withDrc s.drc = s := rfl
@[simp] theorem withDrc_withDrc (x y : Drc) : (s.withDrc x).withDrc y = s.withDrc y := rfl

/-! ### withWnc -/

@[simp] theorem withWnc_power (x : Wnc) : (s.withWnc x).power = s.power := rfl
@[simp] theorem withWnc_now (x : Wnc) : (s.withWnc x).now = s.now := rfl
@[simp] theorem withWnc_freeIndex (x : Wnc) : (s.withWnc x).freeIndex = s.freeIndex := rfl
@[simp] theorem withWnc_pending (x : Wnc) : (s.withWnc x).pending = s.pending := rfl
@[simp] theorem withWnc_cfg (x : Wnc) : (s.withWnc x).cfg = s.cfg := rfl
@[simp] theorem withWnc_csc (x : Wnc) : (s.withWnc x).csc = s.csc := rfl
@[simp] theorem withWnc_smx (x : Wnc) : (s.withWnc x).smx = s.smx := rfl
@[simp] theorem withWnc_spg (x : Wnc) : (s.withWnc x).spg = s.spg := rfl
@[simp] theorem withWnc_drc (x : Wnc) : (s.withWnc x).drc = s.drc := rfl
@[simp] theorem withWnc_wnc (x : Wnc) : (s.withWnc x).wnc = x := rfl
@[simp] theorem withWnc_lcu (x : Wnc) : (s.withWnc x).lcu = s.lcu := rfl
@[simp] theorem withWnc_bmn (x : Wnc) : (s.withWnc x).bmn = s.bmn := rfl
@[simp] theorem withWnc_pba (x : Wnc) : (s.withWnc x).pba = s.pba := rfl
@[simp] theorem withWnc_lif (x : Wnc) : (s.withWnc x).lif = s.lif := rfl
@[simp] theorem withWnc_pst (x : Wnc) : (s.withWnc x).pst = s.pst := rfl
@[simp] theorem withWnc_self : s.withWnc s.wnc = s := rfl
@[simp] theorem withWnc_withWnc (x y : Wnc) : (s.withWnc x).withWnc y = s.withWnc y := rfl

/-! ### withLcu -/

@[simp] theorem withLcu_power (x : Lcu) : (s.withLcu x).power = s.power := rfl
@[simp] theorem withLcu_now (x : Lcu) : (s.withLcu x).now = s.now := rfl
@[simp] theorem withLcu_freeIndex (x : Lcu) : (s.withLcu x).freeIndex = s.freeIndex := rfl
@[simp] theorem withLcu_pending (x : Lcu) : (s.withLcu x).pending = s.pending := rfl
@[simp] theorem withLcu_cfg (x : Lcu) : (s.withLcu x).cfg = s.cfg := rfl
@[simp] theorem withLcu_csc (x : Lcu) : (s.withLcu x).csc = s.csc := rfl
@[simp] theorem withLcu_smx (x : Lcu) : (s.withLcu x).smx = s.smx := rfl
@[simp] theorem withLcu_spg (x : Lcu) : (s.withLcu x).spg = s.spg := rfl
@[simp] theorem withLcu_drc (x : Lcu) : (s.withLcu x).drc = s.drc := rfl
@[simp] theorem withLcu_wnc (x : Lcu) : (s.withLcu x).wnc = s.wnc := rfl
@[simp] theorem withLcu_lcu (x : Lcu) : (s.withLcu x).lcu = x := rfl
@[simp] theorem withLcu_bmn (x : Lcu) : (s.withLcu x).bmn = s.bmn := rfl
@[simp] theorem withLcu_pba (x : Lcu) : (s.withLcu x).pba = s.pba := rfl
@[simp] theorem withLcu_lif (x : Lcu) : (s.withLcu x).lif = s.lif := rfl
@[simp] theorem withLcu_pst (x : Lcu) : (s.withLcu x).pst = s.pst := rfl
@[simp] theorem withLcu_self : s.withLcu s.lcu = s := rfl
@[simp] theorem withLcu_withLcu (x y : Lcu) : (s.withLcu x).withLcu y = s.withLcu y := rfl

/-! ### withBmn -/

@[simp] theorem withBmn_power (x : Bmn) : (s.withBmn x).power = s.power := rfl
@[simp] theorem withBmn_now (x : Bmn) : (s.withBmn x).now = s.now := rfl
@[simp] theorem withBmn_freeIndex (x : Bmn) : (s.withBmn x).freeIndex = s.freeIndex := rfl
@[simp] theorem withBmn_pending (x : Bmn) : (s.withBmn x).pending = s.pending := rfl
@[simp] theorem withBmn_cfg (x : Bmn) : (s.withBmn x).cfg = s.cfg := rfl
@[simp] theorem withBmn_csc (x : Bmn) : (s.withBmn x).csc = s.csc := rfl
@[simp] theorem withBmn_smx (x : Bmn) : (s.withBmn x).smx = s.smx := rfl
@[simp] theorem withBmn_spg (x : Bmn) : (s.withBmn x).spg = s.spg := rfl
@[simp] theorem withBmn_drc (x : Bmn) : (s.withBmn x).drc = s.drc := rfl
@[simp] theorem withBmn_wnc (x : Bmn) : (s.withBmn x).wnc = s.wnc := rfl
@[simp] theorem withBmn_lcu (x : Bmn) : (s.withBmn x).lcu = s.lcu := rfl
@[simp] theorem withBmn_bmn (x : Bmn) : (s.withBmn x).bmn = x := rfl
@[simp] theorem withBmn_pba (x : Bmn) : (s.withBmn x).pba = s.pba := rfl
@[simp] theorem withBmn_lif (x : Bmn) : (s.withBmn x).lif = s.lif := rfl
@[simp] theorem withBmn_pst (x : Bmn) : (s.withBmn x).pst = s.pst := rfl
@[simp] theorem withBmn_self : s.withBmn s.bmn = s := rfl
@[simp] theorem withBmn_withBmn (x y : Bmn) : (s.withBmn x).withBmn y = s.withBmn y := rfl

/-! ### withPba -/

@[simp] theorem withPba_power (x : Pba) : (s.withPba x).power = s.power := rfl
@[simp] theorem withPba_now (x : Pba) : (s.withPba x).now = s.now := rfl
@[simp] theorem withPba_freeIndex (x : Pba) : (s.withPba x).freeIndex = s.freeIndex := rfl
@[simp] theorem withPba_pending (x : Pba) : (s.withPba x).pending = s.pending := rfl
@[simp] theorem withPba_cfg (x : Pba) : (s.withPba x).cfg = s.cfg := rfl
@[simp] theorem withPba_csc (x : Pba) : (s.withPba x).csc = s.csc := rfl
@[simp] theorem withPba_smx (x : Pba) : (s.withPba x).smx = s.smx := rfl
@[simp] theorem withPba_spg (x : Pba) : (s.withPba x).spg = s.spg := rfl
@[simp] theorem withPba_drc (x : Pba) : (s.withPba x).drc = s.drc := rfl
@[simp] theorem withPba_wnc (x : Pba) : (s.withPba x).wnc = s.wnc := rfl
@[simp] theorem withPba_lcu (x : Pba) : (s.withPba x).lcu = s.lcu := rfl
@[simp] theorem withPba_bmn (x : Pba) : (s.withPba x).bmn = s.bmn := rfl
@[simp] theorem withPba_pba (x : Pba) : (s.withPba x).pba = x := rfl
@[simp] theorem withPba_lif (x : Pba) : (s.withPba x).lif = s.lif := rfl
@[simp] theorem withPba_pst (x : Pba) : (s.withPba x).pst = s.pst := rfl
@[simp] theorem withPba_self : s.withPba s.pba = s := rfl
@[simp] theorem withPba_withPba (x y : Pba) : (s.withPba x).withPba y = s.withPba y := rfl

/-! ### withLif -/

@[simp] theorem withLif_power (x : Lif) : (s.withLif x).power = s.power := rfl
@[simp] theorem withLif_now (x : Lif) : (s.withLif x).now = s.now := rfl
@[simp] theorem withLif_freeIndex (x : Lif) : (s.withLif x).freeIndex = s.freeIndex := rfl
@[simp] theorem withLif_pending (x : Lif) : (s.withLif x).pending = s.pending := rfl
@[simp] theorem withLif_cfg (x : Lif) : (s.withLif x).cfg = s.cfg := rfl
@[simp] theorem withLif_csc (x : Lif) : (s.withLif x).csc = s.csc := rfl
@[simp] theorem withLif_smx (x : Lif) : (s.withLif x).smx = s.smx := rfl
@[simp] theorem withLif_spg (x : Lif) : (s.withLif x).spg = s.spg := rfl
@[simp] theorem withLif_drc (x : Lif) : (s.withLif x).drc = s.drc := rfl
@[simp] theorem withLif_wnc (x : Lif) : (s.withLif x).wnc = s.wnc := rfl
@[simp] theorem withLif_lcu (x : Lif) : (s.withLif x).lcu = s.lcu := rfl
@[simp] theorem withLif_bmn (x : Lif) : (s.withLif x).bmn = s.bmn := rfl
@[simp] theorem withLif_pba (x : Lif) : (s.withLif x).pba = s.pba := rfl
@[simp] theorem withLif_lif (x : Lif) : (s.withLif x).lif = x := rfl
@[simp] theorem withLif_pst (x : Lif) : (s.withLif x).pst = s.pst := rfl
@[simp] theorem withLif_self : s.withLif s.lif = s := rfl
@[simp] theorem withLif_withLif (x y : Lif) : (s.withLif x).withLif y = s.withLif y := rfl

/-! ### withPst -/

@[simp] theorem withPst_power (x : Pst) : (s.withPst x).power = s.power := rfl
@[simp] theorem withPst_now (x : Pst) : (s.withPst x).now = s.now := rfl
@[simp] theorem withPst_freeIndex (x : Pst) : (s.withPst x).freeIndex = s.freeIndex := rfl
@[simp] theorem withPst_pending (x : Pst) : (s.withPst x).pending = s.pending := rfl
@[simp] theorem withPst_cfg (x : Pst) : (s.withPst x).cfg = s.cfg := rfl
@[simp] theorem withPst_csc (x : Pst) : (s.withPst x).csc = s.csc := rfl
@[simp] theorem withPst_smx (x : Pst) : (s.withPst x).smx = s.smx := rfl
@[simp] theorem withPst_spg (x : Pst) : (s.withPst x).spg = s.spg := rfl
@[simp] theorem withPst_drc (x : Pst) : (s.withPst x).drc = s.drc := rfl
@[simp] theorem withPst_wnc (x : Pst) : (s.withPst x).wnc = s.wnc := rfl
@[simp] theorem withPst_lcu (x : Pst) : (s.withPst x).lcu = s.lcu := rfl
@[simp] theorem withPst_bmn (x : Pst) : (s.withPst x).bmn = s.bmn := rfl
@[simp] theorem withPst_pba (x : Pst) : (s.withPst x).pba = s.pba := rfl
@[simp] theorem withPst_lif (x : Pst) : (s.withPst x).lif = s.lif := rfl
@[simp] theorem withPst_pst (x : Pst) : (s.withPst x).pst = x := rfl
@[simp] theorem withPst_self : s.withPst s.pst = s := rfl
@[simp] theorem withPst_withPst (x y : Pst) : (s.withPst x).withPst y = s.withPst y := rfl

/-! ### useFree -/

@[simp] theorem useFree_power (n : Nat) : (s.useFree n).power = s.power := rfl
@[simp] theorem useFree_now (n : Nat) : (s.useFree n).now = s.now := rfl
@[simp] theorem useFree_freeIndex (n : Nat) : (s.useFree n).freeIndex = s.freeIndex + n := rfl
@[simp] theorem useFree_pending (n : Nat) : (s.useFree n).pending = s.pending := rfl
@[simp] theorem useFree_cfg (n : Nat) : (s.useFree n).cfg = s.cfg := rfl
@[simp] theorem useFree_csc (n : Nat) : (s.useFree n).csc = s.csc := rfl
@[simp] theorem useFree_smx (n : Nat) : (s.useFree n).smx = s.smx := rfl
@[simp] theorem useFree_spg (n : Nat) : (s.useFree n).spg = s.spg := rfl
@[simp] theorem useFree_drc (n : Nat) : (s.useFree n).drc = s.drc := rfl
@[simp] theorem useFree_wnc (n : Nat) : (s.useFree n).wnc = s.wnc := rfl
@[simp] theorem useFree_lcu (n : Nat) : (s.useFree n).lcu = s.lcu := rfl
@[simp] theorem useFree_bmn (n : Nat) : (s.useFree n).bmn = s.bmn := rfl
@[simp] theorem useFree_pba (n : Nat) : (s.useFree n).pba = s.pba := rfl
@[simp] theorem useFree_lif (n : Nat) : (s.useFree n).lif = s.lif := rfl
@[simp] theorem useFree_pst (n : Nat) : (s.useFree n).pst = s.pst := rfl

/-! ### leaveUpdate -/

@[simp] theorem leaveUpdate_target (c : DriveChan) : c.leaveUpdate.target = c.target := rfl
@[simp] theorem leaveUpdate_output (c : DriveChan) : c.leaveUpdate.output = c.output := rfl
@[simp] theorem leaveUpdate_brake (c : DriveChan) : c.leaveUpdate.brake = c.brake := rfl
@[simp] theorem leaveUpdate_cap (c : DriveChan) : c.leaveUpdate.cap = c.cap := rfl
@[simp] theorem leaveUpdate_fault (c : DriveChan) : c.leaveUpdate.fault = c.fault := rfl
@[simp] theorem leaveUpdate_history (c : DriveChan) : c.leaveUpdate.history = c.history := rfl
@[simp] theorem leaveUpdate_retry (c : DriveChan) : c.leaveUpdate.retry = c.retry := rfl
@[simp] theorem leaveUpdate_tripCount (c : DriveChan) : c.leaveUpdate.tripCount = c.tripCount := rfl
@[simp] theorem leaveUpdate_assist (c : DriveChan) : c.leaveUpdate.assist = c.assist := rfl
@[simp] theorem leaveUpdate_lastTarget (c : DriveChan) : c.leaveUpdate.lastTarget = c.target := rfl
@[simp] theorem leaveUpdate_lastOutput (c : DriveChan) : c.leaveUpdate.lastOutput = c.output := rfl

end Sys2Proof.Machine
end

