-- ==== Sys2Proof/Laws/Link.lean ====
section
/-! SUPPORT. What the shared operations over the link do: posting a report, taking a request, events that are due. -/

namespace Sys2Proof.Machine

/-! ## Posting a report -/

/-- Posting changes LIF's record alone. -/
theorem postReport_eq (f : TxFrame) (s : State) : postReport f s = s.withLif (posted f s.lif) := by
  unfold postReport posted countUp
  split <;> rfl

@[simp] theorem posted_rx (f : TxFrame) (l : Lif) : (posted f l).rx = l.rx := by unfold posted; split <;> rfl
@[simp] theorem posted_gapSince (f : TxFrame) (l : Lif) : (posted f l).gapSince = l.gapSince := by unfold posted; split <;> rfl
@[simp] theorem posted_inBreak (f : TxFrame) (l : Lif) : (posted f l).inBreak = l.inBreak := by unfold posted; split <;> rfl
@[simp] theorem posted_intake (f : TxFrame) (l : Lif) : (posted f l).intake = l.intake := by unfold posted; split <;> rfl
@[simp] theorem posted_replies (f : TxFrame) (l : Lif) : (posted f l).replies = l.replies := by unfold posted; split <;> rfl
@[simp] theorem posted_tx (f : TxFrame) (l : Lif) : (posted f l).tx = l.tx := by unfold posted; split <;> rfl
@[simp] theorem posted_lastGood (f : TxFrame) (l : Lif) : (posted f l).lastGood = l.lastGood := by unfold posted; split <;> rfl
@[simp] theorem posted_loss (f : TxFrame) (l : Lif) : (posted f l).loss = l.loss := by unfold posted; split <;> rfl
@[simp] theorem posted_telSeq (f : TxFrame) (l : Lif) : (posted f l).telSeq = l.telSeq := by unfold posted; split <;> rfl
@[simp] theorem posted_telNext (f : TxFrame) (l : Lif) : (posted f l).telNext = l.telNext := by unfold posted; split <;> rfl
@[simp] theorem posted_baud (f : TxFrame) (l : Lif) : (posted f l).baud = l.baud := by unfold posted; split <;> rfl

/-- A report joins a queue that has room. -/
theorem posted_room (f : TxFrame) (l : Lif) (h : l.reports.length < 4) : posted f l = { l with reports := l.reports ++ [f] } := by
  simp [posted, h]

/-- A report is dropped and counted when the queue is full. -/
theorem posted_full (f : TxFrame) (l : Lif) (h : ¬l.reports.length < 4) :
    posted f l = { l with counts := { l.counts with reportDrop := min (l.counts.reportDrop + 1) 255 } } := by
  simp [posted, h]

/-- The report queue stays within four places. -/
theorem posted_reports_le (f : TxFrame) (l : Lif) (h : l.reports.length ≤ 4) : (posted f l).reports.length ≤ 4 := by
  unfold posted; split
  · simp; omega
  · exact h

/-! ## Taking a request -/

/-- The Boolean test of a taking says what `Takes` says. -/
theorem canTake_iff (ty : Byte) (p : Payload) (s : State) : canTake ty p s = true ↔ Takes ty p s := by
  simp [canTake, Takes, and_assoc]

/-- A request of a permitted length is handed to its owner, and its reply is placed. -/
theorem taking_owner {ty : Byte} {p : Payload} {s : State} (owner : State → State × List Field) (h : Takes ty p s)
    (hl : lengthAllowed ty p.length = true) :
    taking ty p owner s =
      putReply { type := ty + 0x80#8, fields := (owner (popIntake s)).2 } (owner (popIntake s)).1 := by
  simp [taking, (canTake_iff ty p s).2 h, hl]

/-- A request of a wrong length is answered BAD_LENGTH and changes nothing else. -/
theorem taking_badLength {ty : Byte} {p : Payload} {s : State} (owner : State → State × List Field) (h : Takes ty p s)
    (hl : lengthAllowed ty p.length = false) :
    taking ty p owner s = s.withLif (answered ty [.u8 4, .u8 p.length] s.lif) := by
  simp [taking, (canTake_iff ty p s).2 h, hl, putReply, popIntake, answered, rc, ResultCode.code]

/-- A request that cannot be taken waits. -/
theorem taking_waits {ty : Byte} {p : Payload} {s : State} (owner : State → State × List Field) (h : ¬Takes ty p s) :
    taking ty p owner s = s := by
  have : canTake ty p s = false := by rw [Bool.eq_false_iff, ne_eq, canTake_iff]; exact h
  simp [taking, this]

/-- Everything a taking can do: wait, answer BAD_LENGTH, or let the owner act and answer. -/
theorem taking_cases (ty : Byte) (p : Payload) (owner : State → State × List Field) (s : State) :
    taking ty p owner s = s ∨
      (Takes ty p s ∧ taking ty p owner s = s.withLif (answered ty [.u8 4, .u8 p.length] s.lif)) ∨
      (Takes ty p s ∧ lengthAllowed ty p.length = true ∧
        taking ty p owner s =
          putReply { type := ty + 0x80#8, fields := (owner (popIntake s)).2 } (owner (popIntake s)).1) := by
  by_cases h : Takes ty p s
  · by_cases hl : lengthAllowed ty p.length = true
    · exact .inr (.inr ⟨h, hl, taking_owner owner h hl⟩)
    · exact .inr (.inl ⟨h, taking_badLength owner h (by simpa using hl)⟩)
  · exact .inl (taking_waits owner h)

/-- Taking the oldest frame changes LIF's record alone. -/
theorem popIntake_eq (s : State) : popIntake s = s.withLif { s.lif with intake := s.lif.intake.tail } := rfl

/-- Placing a reply changes LIF's record alone. -/
theorem putReply_eq (f : TxFrame) (s : State) :
    putReply f s = s.withLif { s.lif with replies := s.lif.replies ++ [f] } := rfl

/-! ## Events -/

/-- An event that is not due changes nothing. -/
theorem whenDue_not {due : State → Bool} {act : State → State} {s : State} (h : due s = false) : whenDue due act s = s := by
  simp [whenDue, h]

/-- An event that is due acts. -/
theorem whenDue_due {due : State → Bool} {act : State → State} {s : State} (hr : s.power = .running) (h : due s = true) :
    whenDue due act s = act s := by
  simp [whenDue, isRunning, hr, h]

/-- A part that does not run takes no event. -/
theorem whenDue_stopped {due : State → Bool} {act : State → State} {s : State} (hr : s.power ≠ .running) :
    whenDue due act s = s := by
  simp [whenDue, isRunning, hr]

/-- A running part acts. -/
theorem whenRunning_runs {act : State → State} {s : State} (hr : s.power = .running) : whenRunning act s = act s := by
  simp [whenRunning, isRunning, hr]

/-- A part that does not run takes no event. -/
theorem whenRunning_stopped {act : State → State} {s : State} (hr : s.power ≠ .running) : whenRunning act s = s := by
  simp [whenRunning, isRunning, hr]

end Sys2Proof.Machine
end

