-- ==== Sys2Proof/Laws/Frames.lean ====
section
/-! SUPPORT. What each operation and each owner of a request leaves unchanged, one lemma per operation. -/

namespace Sys2Proof.Machine

/-! ### Ops -/

@[simp] theorem postReport_keeps (f : TxFrame) (s : State) :
    (postReport f s).power = s.power ∧ (postReport f s).now = s.now ∧ (postReport f s).freeIndex = s.freeIndex ∧
    (postReport f s).pending = s.pending ∧ (postReport f s).cfg = s.cfg ∧ (postReport f s).csc = s.csc ∧
    (postReport f s).smx = s.smx ∧ (postReport f s).spg = s.spg ∧ (postReport f s).drc = s.drc ∧ (postReport f s).wnc = s.wnc ∧
    (postReport f s).lcu = s.lcu ∧ (postReport f s).bmn = s.bmn ∧ (postReport f s).pba = s.pba ∧ (postReport f s).pst = s.pst := by
  unfold postReport; split <;> simp

@[simp] theorem popIntake_keeps (s : State) :
    (popIntake s).power = s.power ∧ (popIntake s).now = s.now ∧ (popIntake s).freeIndex = s.freeIndex ∧
    (popIntake s).pending = s.pending ∧ (popIntake s).cfg = s.cfg ∧ (popIntake s).csc = s.csc ∧ (popIntake s).smx = s.smx ∧
    (popIntake s).spg = s.spg ∧ (popIntake s).drc = s.drc ∧ (popIntake s).wnc = s.wnc ∧ (popIntake s).lcu = s.lcu ∧
    (popIntake s).bmn = s.bmn ∧ (popIntake s).pba = s.pba ∧ (popIntake s).pst = s.pst := by simp [popIntake]

@[simp] theorem putReply_keeps (f : TxFrame) (s : State) :
    (putReply f s).power = s.power ∧ (putReply f s).now = s.now ∧ (putReply f s).freeIndex = s.freeIndex ∧
    (putReply f s).pending = s.pending ∧ (putReply f s).cfg = s.cfg ∧ (putReply f s).csc = s.csc ∧ (putReply f s).smx = s.smx ∧
    (putReply f s).spg = s.spg ∧ (putReply f s).drc = s.drc ∧ (putReply f s).wnc = s.wnc ∧ (putReply f s).lcu = s.lcu ∧
    (putReply f s).bmn = s.bmn ∧ (putReply f s).pba = s.pba ∧ (putReply f s).pst = s.pst := by simp [putReply]

/-! ### Steering -/

@[simp] theorem curveChangeover_keeps (id : CurveId) (s : State) :
    (curveChangeover id s).power = s.power ∧ (curveChangeover id s).now = s.now ∧ (curveChangeover id s).freeIndex = s.freeIndex ∧
    (curveChangeover id s).pending = s.pending ∧ (curveChangeover id s).csc = s.csc ∧ (curveChangeover id s).spg = s.spg ∧
    (curveChangeover id s).drc = s.drc ∧ (curveChangeover id s).wnc = s.wnc ∧ (curveChangeover id s).lcu = s.lcu ∧
    (curveChangeover id s).bmn = s.bmn ∧ (curveChangeover id s).pba = s.pba ∧ (curveChangeover id s).lif = s.lif ∧
    (curveChangeover id s).pst = s.pst := by unfold curveChangeover; split <;> simp

@[simp] theorem smxRun_keeps (axle : Axle) (periodMs : Nat) (s : State) :
    (smxRun axle periodMs s).power = s.power ∧ (smxRun axle periodMs s).now = s.now ∧
    (smxRun axle periodMs s).freeIndex = s.freeIndex ∧ (smxRun axle periodMs s).pending = s.pending ∧
    (smxRun axle periodMs s).cfg = s.cfg ∧ (smxRun axle periodMs s).csc = s.csc ∧ (smxRun axle periodMs s).spg = s.spg ∧
    (smxRun axle periodMs s).drc = s.drc ∧ (smxRun axle periodMs s).wnc = s.wnc ∧ (smxRun axle periodMs s).lcu = s.lcu ∧
    (smxRun axle periodMs s).bmn = s.bmn ∧ (smxRun axle periodMs s).pba = s.pba ∧ (smxRun axle periodMs s).lif = s.lif ∧
    (smxRun axle periodMs s).pst = s.pst := by unfold smxRun; dsimp only; split <;> simp

@[simp] theorem smxCompute_keeps (axle : Axle) (periodMs : Nat) (s : State) :
    (smxCompute axle periodMs s).power = s.power ∧ (smxCompute axle periodMs s).now = s.now ∧
    (smxCompute axle periodMs s).freeIndex = s.freeIndex ∧ (smxCompute axle periodMs s).pending = s.pending ∧
    (smxCompute axle periodMs s).cfg = s.cfg ∧ (smxCompute axle periodMs s).csc = s.csc ∧ (smxCompute axle periodMs s).spg = s.spg
    ∧ (smxCompute axle periodMs s).drc = s.drc ∧ (smxCompute axle periodMs s).wnc = s.wnc ∧
    (smxCompute axle periodMs s).lcu = s.lcu ∧ (smxCompute axle periodMs s).bmn = s.bmn ∧ (smxCompute axle periodMs s).pba = s.pba
    ∧ (smxCompute axle periodMs s).lif = s.lif ∧ (smxCompute axle periodMs s).pst = s.pst := by
  unfold smxCompute; (repeat' split) <;> simp

@[simp] theorem smxFrame_keeps (axle : Axle) (periodMs : Nat) (s : State) :
    (smxFrame axle periodMs s).power = s.power ∧ (smxFrame axle periodMs s).now = s.now ∧
    (smxFrame axle periodMs s).freeIndex = s.freeIndex ∧ (smxFrame axle periodMs s).pending = s.pending ∧
    (smxFrame axle periodMs s).csc = s.csc ∧ (smxFrame axle periodMs s).spg = s.spg ∧ (smxFrame axle periodMs s).drc = s.drc ∧
    (smxFrame axle periodMs s).wnc = s.wnc ∧ (smxFrame axle periodMs s).lcu = s.lcu ∧ (smxFrame axle periodMs s).bmn = s.bmn ∧
    (smxFrame axle periodMs s).pba = s.pba ∧ (smxFrame axle periodMs s).lif = s.lif ∧ (smxFrame axle periodMs s).pst = s.pst := by
  simp [smxFrame]

@[simp] theorem dropBlends_keeps (s : State) :
    (dropBlends s).power = s.power ∧ (dropBlends s).now = s.now ∧ (dropBlends s).freeIndex = s.freeIndex ∧
    (dropBlends s).pending = s.pending ∧ (dropBlends s).cfg = s.cfg ∧ (dropBlends s).csc = s.csc ∧ (dropBlends s).spg = s.spg ∧
    (dropBlends s).drc = s.drc ∧ (dropBlends s).wnc = s.wnc ∧ (dropBlends s).lcu = s.lcu ∧ (dropBlends s).bmn = s.bmn ∧
    (dropBlends s).pba = s.pba ∧ (dropBlends s).lif = s.lif ∧ (dropBlends s).pst = s.pst := by simp [dropBlends]

@[simp] theorem noteModeChange_keeps (s : State) :
    (noteModeChange s).power = s.power ∧ (noteModeChange s).now = s.now ∧ (noteModeChange s).freeIndex = s.freeIndex ∧
    (noteModeChange s).pending = s.pending ∧ (noteModeChange s).cfg = s.cfg ∧ (noteModeChange s).smx = s.smx ∧
    (noteModeChange s).spg = s.spg ∧ (noteModeChange s).drc = s.drc ∧ (noteModeChange s).wnc = s.wnc ∧
    (noteModeChange s).lcu = s.lcu ∧ (noteModeChange s).bmn = s.bmn ∧ (noteModeChange s).pba = s.pba ∧
    (noteModeChange s).lif = s.lif ∧ (noteModeChange s).pst = s.pst := by unfold noteModeChange; (repeat' split) <;> simp

@[simp] theorem changeMode_keeps (m : SteerMode) (s : State) :
    (changeMode m s).power = s.power ∧ (changeMode m s).now = s.now ∧ (changeMode m s).freeIndex = s.freeIndex ∧
    (changeMode m s).pending = s.pending ∧ (changeMode m s).cfg = s.cfg ∧ (changeMode m s).spg = s.spg ∧
    (changeMode m s).drc = s.drc ∧ (changeMode m s).wnc = s.wnc ∧ (changeMode m s).lcu = s.lcu ∧ (changeMode m s).bmn = s.bmn ∧
    (changeMode m s).pba = s.pba ∧ (changeMode m s).lif = s.lif ∧ (changeMode m s).pst = s.pst := by
  unfold changeMode; dsimp only; split <;> simp

@[simp] theorem steerModeOwner_keeps (p : Payload) (s : State) :
    (steerModeOwner p s).1.power = s.power ∧ (steerModeOwner p s).1.now = s.now ∧ (steerModeOwner p s).1.freeIndex = s.freeIndex ∧
    (steerModeOwner p s).1.pending = s.pending ∧ (steerModeOwner p s).1.cfg = s.cfg ∧ (steerModeOwner p s).1.spg = s.spg ∧
    (steerModeOwner p s).1.drc = s.drc ∧ (steerModeOwner p s).1.wnc = s.wnc ∧ (steerModeOwner p s).1.lcu = s.lcu ∧
    (steerModeOwner p s).1.bmn = s.bmn ∧ (steerModeOwner p s).1.pba = s.pba ∧ (steerModeOwner p s).1.lif = s.lif ∧
    (steerModeOwner p s).1.pst = s.pst := by unfold steerModeOwner; (repeat' split) <;> simp

@[simp] theorem curveBeginRefusal_keeps (c : ResultCode) (p : Payload) (s : State) :
    (curveBeginRefusal c p s).1.power = s.power ∧ (curveBeginRefusal c p s).1.now = s.now ∧
    (curveBeginRefusal c p s).1.pending = s.pending ∧ (curveBeginRefusal c p s).1.cfg = s.cfg ∧
    (curveBeginRefusal c p s).1.csc = s.csc ∧ (curveBeginRefusal c p s).1.smx = s.smx ∧ (curveBeginRefusal c p s).1.spg = s.spg ∧
    (curveBeginRefusal c p s).1.drc = s.drc ∧ (curveBeginRefusal c p s).1.wnc = s.wnc ∧ (curveBeginRefusal c p s).1.lcu = s.lcu ∧
    (curveBeginRefusal c p s).1.bmn = s.bmn ∧ (curveBeginRefusal c p s).1.pba = s.pba ∧ (curveBeginRefusal c p s).1.lif = s.lif ∧
    (curveBeginRefusal c p s).1.pst = s.pst := by unfold curveBeginRefusal; split <;> simp

@[simp] theorem curveBeginOwner_keeps (p : Payload) (s : State) :
    (curveBeginOwner p s).1.power = s.power ∧ (curveBeginOwner p s).1.now = s.now ∧ (curveBeginOwner p s).1.pending = s.pending ∧
    (curveBeginOwner p s).1.cfg = s.cfg ∧ (curveBeginOwner p s).1.csc = s.csc ∧ (curveBeginOwner p s).1.spg = s.spg ∧
    (curveBeginOwner p s).1.drc = s.drc ∧ (curveBeginOwner p s).1.wnc = s.wnc ∧ (curveBeginOwner p s).1.lcu = s.lcu ∧
    (curveBeginOwner p s).1.bmn = s.bmn ∧ (curveBeginOwner p s).1.pba = s.pba ∧ (curveBeginOwner p s).1.lif = s.lif ∧
    (curveBeginOwner p s).1.pst = s.pst := by unfold curveBeginOwner; (repeat' split) <;> simp

@[simp] theorem curveDataRefusal_keeps (c : ResultCode) (p : Payload) (s : State) :
    (curveDataRefusal c p s).1.power = s.power ∧ (curveDataRefusal c p s).1.now = s.now ∧
    (curveDataRefusal c p s).1.pending = s.pending ∧ (curveDataRefusal c p s).1.cfg = s.cfg ∧
    (curveDataRefusal c p s).1.csc = s.csc ∧ (curveDataRefusal c p s).1.smx = s.smx ∧ (curveDataRefusal c p s).1.spg = s.spg ∧
    (curveDataRefusal c p s).1.drc = s.drc ∧ (curveDataRefusal c p s).1.wnc = s.wnc ∧ (curveDataRefusal c p s).1.lcu = s.lcu ∧
    (curveDataRefusal c p s).1.bmn = s.bmn ∧ (curveDataRefusal c p s).1.pba = s.pba ∧ (curveDataRefusal c p s).1.lif = s.lif ∧
    (curveDataRefusal c p s).1.pst = s.pst := by unfold curveDataRefusal; split <;> simp

@[simp] theorem curveDataOwner_keeps (p : Payload) (s : State) :
    (curveDataOwner p s).1.power = s.power ∧ (curveDataOwner p s).1.now = s.now ∧ (curveDataOwner p s).1.pending = s.pending ∧
    (curveDataOwner p s).1.cfg = s.cfg ∧ (curveDataOwner p s).1.csc = s.csc ∧ (curveDataOwner p s).1.spg = s.spg ∧
    (curveDataOwner p s).1.drc = s.drc ∧ (curveDataOwner p s).1.wnc = s.wnc ∧ (curveDataOwner p s).1.lcu = s.lcu ∧
    (curveDataOwner p s).1.bmn = s.bmn ∧ (curveDataOwner p s).1.pba = s.pba ∧ (curveDataOwner p s).1.lif = s.lif ∧
    (curveDataOwner p s).1.pst = s.pst := by unfold curveDataOwner; dsimp only; (repeat' split) <;> simp

@[simp] theorem curveCommitRefusal_keeps (c : ResultCode) (s : State) :
    (curveCommitRefusal c s).1.power = s.power ∧ (curveCommitRefusal c s).1.now = s.now ∧
    (curveCommitRefusal c s).1.pending = s.pending ∧ (curveCommitRefusal c s).1.cfg = s.cfg ∧
    (curveCommitRefusal c s).1.csc = s.csc ∧ (curveCommitRefusal c s).1.smx = s.smx ∧ (curveCommitRefusal c s).1.spg = s.spg ∧
    (curveCommitRefusal c s).1.drc = s.drc ∧ (curveCommitRefusal c s).1.wnc = s.wnc ∧ (curveCommitRefusal c s).1.lcu = s.lcu ∧
    (curveCommitRefusal c s).1.bmn = s.bmn ∧ (curveCommitRefusal c s).1.pba = s.pba ∧ (curveCommitRefusal c s).1.lif = s.lif ∧
    (curveCommitRefusal c s).1.pst = s.pst := by simp [curveCommitRefusal]

@[simp] theorem curveCommitOwner_keeps (p : Payload) (s : State) :
    (curveCommitOwner p s).1.power = s.power ∧ (curveCommitOwner p s).1.now = s.now ∧ (curveCommitOwner p s).1.pending = s.pending
    ∧ (curveCommitOwner p s).1.cfg = s.cfg ∧ (curveCommitOwner p s).1.csc = s.csc ∧ (curveCommitOwner p s).1.spg = s.spg ∧
    (curveCommitOwner p s).1.drc = s.drc ∧ (curveCommitOwner p s).1.wnc = s.wnc ∧ (curveCommitOwner p s).1.lcu = s.lcu ∧
    (curveCommitOwner p s).1.bmn = s.bmn ∧ (curveCommitOwner p s).1.pba = s.pba ∧ (curveCommitOwner p s).1.lif = s.lif ∧
    (curveCommitOwner p s).1.pst = s.pst := by unfold curveCommitOwner; dsimp only; (repeat' split) <;> simp

@[simp] theorem closeAllLoads_keeps (s : State) :
    (closeAllLoads s).power = s.power ∧ (closeAllLoads s).now = s.now ∧ (closeAllLoads s).freeIndex = s.freeIndex ∧
    (closeAllLoads s).pending = s.pending ∧ (closeAllLoads s).cfg = s.cfg ∧ (closeAllLoads s).csc = s.csc ∧
    (closeAllLoads s).spg = s.spg ∧ (closeAllLoads s).drc = s.drc ∧ (closeAllLoads s).wnc = s.wnc ∧ (closeAllLoads s).lcu = s.lcu
    ∧ (closeAllLoads s).bmn = s.bmn ∧ (closeAllLoads s).pba = s.pba ∧ (closeAllLoads s).lif = s.lif ∧
    (closeAllLoads s).pst = s.pst := by simp [closeAllLoads]

@[simp] theorem smxUnitReset_keeps (s : State) :
    (smxUnitReset s).power = s.power ∧ (smxUnitReset s).now = s.now ∧ (smxUnitReset s).freeIndex = s.freeIndex ∧
    (smxUnitReset s).pending = s.pending ∧ (smxUnitReset s).cfg = s.cfg ∧ (smxUnitReset s).csc = s.csc ∧
    (smxUnitReset s).spg = s.spg ∧ (smxUnitReset s).drc = s.drc ∧ (smxUnitReset s).wnc = s.wnc ∧ (smxUnitReset s).lcu = s.lcu ∧
    (smxUnitReset s).bmn = s.bmn ∧ (smxUnitReset s).pba = s.pba ∧ (smxUnitReset s).lif = s.lif ∧ (smxUnitReset s).pst = s.pst := by
  simp [smxUnitReset]

/-! ### Servo -/

@[simp] theorem setServo_keeps (ch : ServoCh) (c : ServoChan) (s : State) :
    (setServo ch c s).power = s.power ∧ (setServo ch c s).now = s.now ∧ (setServo ch c s).freeIndex = s.freeIndex ∧
    (setServo ch c s).pending = s.pending ∧ (setServo ch c s).cfg = s.cfg ∧ (setServo ch c s).csc = s.csc ∧
    (setServo ch c s).smx = s.smx ∧ (setServo ch c s).drc = s.drc ∧ (setServo ch c s).wnc = s.wnc ∧ (setServo ch c s).lcu = s.lcu
    ∧ (setServo ch c s).bmn = s.bmn ∧ (setServo ch c s).pba = s.pba ∧ (setServo ch c s).lif = s.lif ∧
    (setServo ch c s).pst = s.pst := by simp [setServo]

@[simp] theorem setShift_keeps (x : Shift) (s : State) :
    (setShift x s).power = s.power ∧ (setShift x s).now = s.now ∧ (setShift x s).freeIndex = s.freeIndex ∧
    (setShift x s).pending = s.pending ∧ (setShift x s).cfg = s.cfg ∧ (setShift x s).csc = s.csc ∧ (setShift x s).smx = s.smx ∧
    (setShift x s).drc = s.drc ∧ (setShift x s).wnc = s.wnc ∧ (setShift x s).lcu = s.lcu ∧ (setShift x s).bmn = s.bmn ∧
    (setShift x s).pba = s.pba ∧ (setShift x s).lif = s.lif ∧ (setShift x s).pst = s.pst := by simp [setShift]

@[simp] theorem latchPeriod_keeps (ch : ServoCh) (s : State) :
    (latchPeriod ch s).power = s.power ∧ (latchPeriod ch s).now = s.now ∧ (latchPeriod ch s).freeIndex = s.freeIndex ∧
    (latchPeriod ch s).pending = s.pending ∧ (latchPeriod ch s).cfg = s.cfg ∧ (latchPeriod ch s).csc = s.csc ∧
    (latchPeriod ch s).smx = s.smx ∧ (latchPeriod ch s).drc = s.drc ∧ (latchPeriod ch s).wnc = s.wnc ∧
    (latchPeriod ch s).lcu = s.lcu ∧ (latchPeriod ch s).bmn = s.bmn ∧ (latchPeriod ch s).pba = s.pba ∧
    (latchPeriod ch s).lif = s.lif ∧ (latchPeriod ch s).pst = s.pst := by simp [latchPeriod]

@[simp] theorem endpointChangeover_keeps (ch : ServoCh) (s : State) :
    (endpointChangeover ch s).power = s.power ∧ (endpointChangeover ch s).now = s.now ∧
    (endpointChangeover ch s).freeIndex = s.freeIndex ∧ (endpointChangeover ch s).pending = s.pending ∧
    (endpointChangeover ch s).csc = s.csc ∧ (endpointChangeover ch s).smx = s.smx ∧ (endpointChangeover ch s).drc = s.drc ∧
    (endpointChangeover ch s).wnc = s.wnc ∧ (endpointChangeover ch s).lcu = s.lcu ∧ (endpointChangeover ch s).bmn = s.bmn ∧
    (endpointChangeover ch s).pba = s.pba ∧ (endpointChangeover ch s).lif = s.lif ∧ (endpointChangeover ch s).pst = s.pst := by
  unfold endpointChangeover; dsimp only; split <;> simp

@[simp] theorem servoEndsNoChannel_keeps (c : ResultCode) (p : Payload) (s : State) :
    (servoEndsNoChannel c p s).1.power = s.power ∧ (servoEndsNoChannel c p s).1.now = s.now ∧
    (servoEndsNoChannel c p s).1.pending = s.pending ∧ (servoEndsNoChannel c p s).1.cfg = s.cfg ∧
    (servoEndsNoChannel c p s).1.csc = s.csc ∧ (servoEndsNoChannel c p s).1.smx = s.smx ∧ (servoEndsNoChannel c p s).1.spg = s.spg
    ∧ (servoEndsNoChannel c p s).1.drc = s.drc ∧ (servoEndsNoChannel c p s).1.wnc = s.wnc ∧
    (servoEndsNoChannel c p s).1.lcu = s.lcu ∧ (servoEndsNoChannel c p s).1.bmn = s.bmn ∧ (servoEndsNoChannel c p s).1.pba = s.pba
    ∧ (servoEndsNoChannel c p s).1.lif = s.lif ∧ (servoEndsNoChannel c p s).1.pst = s.pst := by simp [servoEndsNoChannel]

@[simp] theorem servoEndsOwner_keeps (p : Payload) (s : State) :
    (servoEndsOwner p s).1.power = s.power ∧ (servoEndsOwner p s).1.now = s.now ∧ (servoEndsOwner p s).1.pending = s.pending ∧
    (servoEndsOwner p s).1.cfg = s.cfg ∧ (servoEndsOwner p s).1.csc = s.csc ∧ (servoEndsOwner p s).1.smx = s.smx ∧
    (servoEndsOwner p s).1.drc = s.drc ∧ (servoEndsOwner p s).1.wnc = s.wnc ∧ (servoEndsOwner p s).1.lcu = s.lcu ∧
    (servoEndsOwner p s).1.bmn = s.bmn ∧ (servoEndsOwner p s).1.pba = s.pba ∧ (servoEndsOwner p s).1.lif = s.lif ∧
    (servoEndsOwner p s).1.pst = s.pst := by unfold servoEndsOwner; dsimp only; (repeat' split) <;> simp

@[simp] theorem slewStep_keeps (ch : ServoCh) (s : State) :
    (slewStep ch s).power = s.power ∧ (slewStep ch s).now = s.now ∧ (slewStep ch s).freeIndex = s.freeIndex ∧
    (slewStep ch s).pending = s.pending ∧ (slewStep ch s).cfg = s.cfg ∧ (slewStep ch s).csc = s.csc ∧ (slewStep ch s).smx = s.smx
    ∧ (slewStep ch s).drc = s.drc ∧ (slewStep ch s).wnc = s.wnc ∧ (slewStep ch s).lcu = s.lcu ∧ (slewStep ch s).bmn = s.bmn ∧
    (slewStep ch s).pba = s.pba ∧ (slewStep ch s).lif = s.lif ∧ (slewStep ch s).pst = s.pst := by unfold slewStep; split <;> simp

@[simp] theorem emitPulse_keeps (ch : ServoCh) (s : State) :
    (emitPulse ch s).power = s.power ∧ (emitPulse ch s).now = s.now ∧ (emitPulse ch s).freeIndex = s.freeIndex ∧
    (emitPulse ch s).pending = s.pending ∧ (emitPulse ch s).cfg = s.cfg ∧ (emitPulse ch s).csc = s.csc ∧
    (emitPulse ch s).smx = s.smx ∧ (emitPulse ch s).drc = s.drc ∧ (emitPulse ch s).wnc = s.wnc ∧ (emitPulse ch s).lcu = s.lcu ∧
    (emitPulse ch s).bmn = s.bmn ∧ (emitPulse ch s).pba = s.pba ∧ (emitPulse ch s).lif = s.lif ∧ (emitPulse ch s).pst = s.pst := by
  unfold emitPulse; split <;> simp

@[simp] theorem endShift_keeps (r : ShiftResult) (gear : Gear) (s : State) :
    (endShift r gear s).power = s.power ∧ (endShift r gear s).now = s.now ∧ (endShift r gear s).freeIndex = s.freeIndex ∧
    (endShift r gear s).pending = s.pending ∧ (endShift r gear s).cfg = s.cfg ∧ (endShift r gear s).csc = s.csc ∧
    (endShift r gear s).smx = s.smx ∧ (endShift r gear s).drc = s.drc ∧ (endShift r gear s).wnc = s.wnc ∧
    (endShift r gear s).lcu = s.lcu ∧ (endShift r gear s).bmn = s.bmn ∧ (endShift r gear s).pba = s.pba ∧
    (endShift r gear s).pst = s.pst := by simp [endShift]

@[simp] theorem completeShift_keeps (s : State) :
    (completeShift s).power = s.power ∧ (completeShift s).now = s.now ∧ (completeShift s).freeIndex = s.freeIndex ∧
    (completeShift s).pending = s.pending ∧ (completeShift s).cfg = s.cfg ∧ (completeShift s).csc = s.csc ∧
    (completeShift s).smx = s.smx ∧ (completeShift s).drc = s.drc ∧ (completeShift s).wnc = s.wnc ∧ (completeShift s).lcu = s.lcu
    ∧ (completeShift s).bmn = s.bmn ∧ (completeShift s).pba = s.pba ∧ (completeShift s).pst = s.pst := by simp [completeShift]

@[simp] theorem abandonShift_keeps (s : State) :
    (abandonShift s).power = s.power ∧ (abandonShift s).now = s.now ∧ (abandonShift s).freeIndex = s.freeIndex ∧
    (abandonShift s).pending = s.pending ∧ (abandonShift s).cfg = s.cfg ∧ (abandonShift s).csc = s.csc ∧
    (abandonShift s).smx = s.smx ∧ (abandonShift s).drc = s.drc ∧ (abandonShift s).wnc = s.wnc ∧ (abandonShift s).lcu = s.lcu ∧
    (abandonShift s).bmn = s.bmn ∧ (abandonShift s).pba = s.pba ∧ (abandonShift s).pst = s.pst := by simp [abandonShift]

@[simp] theorem shiftStep_keeps (s : State) :
    (shiftStep s).power = s.power ∧ (shiftStep s).now = s.now ∧ (shiftStep s).freeIndex = s.freeIndex ∧
    (shiftStep s).pending = s.pending ∧ (shiftStep s).cfg = s.cfg ∧ (shiftStep s).csc = s.csc ∧ (shiftStep s).smx = s.smx ∧
    (shiftStep s).drc = s.drc ∧ (shiftStep s).wnc = s.wnc ∧ (shiftStep s).lcu = s.lcu ∧ (shiftStep s).bmn = s.bmn ∧
    (shiftStep s).pba = s.pba ∧ (shiftStep s).pst = s.pst := by unfold shiftStep; dsimp only; (repeat' split) <;> simp

@[simp] theorem settleEntry_keeps (s : State) :
    (settleEntry s).power = s.power ∧ (settleEntry s).now = s.now ∧ (settleEntry s).freeIndex = s.freeIndex ∧
    (settleEntry s).pending = s.pending ∧ (settleEntry s).cfg = s.cfg ∧ (settleEntry s).csc = s.csc ∧ (settleEntry s).smx = s.smx
    ∧ (settleEntry s).drc = s.drc ∧ (settleEntry s).wnc = s.wnc ∧ (settleEntry s).lcu = s.lcu ∧ (settleEntry s).bmn = s.bmn ∧
    (settleEntry s).pba = s.pba ∧ (settleEntry s).pst = s.pst := by unfold settleEntry; dsimp only; (repeat' split) <;> simp

@[simp] theorem shiftFailsafe_keeps (s : State) :
    (shiftFailsafe s).power = s.power ∧ (shiftFailsafe s).now = s.now ∧ (shiftFailsafe s).freeIndex = s.freeIndex ∧
    (shiftFailsafe s).pending = s.pending ∧ (shiftFailsafe s).cfg = s.cfg ∧ (shiftFailsafe s).csc = s.csc ∧
    (shiftFailsafe s).smx = s.smx ∧ (shiftFailsafe s).drc = s.drc ∧ (shiftFailsafe s).wnc = s.wnc ∧ (shiftFailsafe s).lcu = s.lcu
    ∧ (shiftFailsafe s).bmn = s.bmn ∧ (shiftFailsafe s).pba = s.pba ∧ (shiftFailsafe s).pst = s.pst := by
  unfold shiftFailsafe; split <;> simp

@[simp] theorem shiftToIdle_keeps (s : State) :
    (shiftToIdle s).power = s.power ∧ (shiftToIdle s).now = s.now ∧ (shiftToIdle s).freeIndex = s.freeIndex ∧
    (shiftToIdle s).pending = s.pending ∧ (shiftToIdle s).cfg = s.cfg ∧ (shiftToIdle s).csc = s.csc ∧ (shiftToIdle s).smx = s.smx
    ∧ (shiftToIdle s).drc = s.drc ∧ (shiftToIdle s).wnc = s.wnc ∧ (shiftToIdle s).lcu = s.lcu ∧ (shiftToIdle s).bmn = s.bmn ∧
    (shiftToIdle s).pba = s.pba ∧ (shiftToIdle s).pst = s.pst := by unfold shiftToIdle; split <;> simp

@[simp] theorem gearInRecord_keeps (g : Gear) (s : State) :
    (gearInRecord g s).1.power = s.power ∧ (gearInRecord g s).1.now = s.now ∧ (gearInRecord g s).1.freeIndex = s.freeIndex ∧
    (gearInRecord g s).1.pending = s.pending ∧ (gearInRecord g s).1.cfg = s.cfg ∧ (gearInRecord g s).1.csc = s.csc ∧
    (gearInRecord g s).1.smx = s.smx ∧ (gearInRecord g s).1.drc = s.drc ∧ (gearInRecord g s).1.wnc = s.wnc ∧
    (gearInRecord g s).1.lcu = s.lcu ∧ (gearInRecord g s).1.bmn = s.bmn ∧ (gearInRecord g s).1.pba = s.pba ∧
    (gearInRecord g s).1.pst = s.pst := by unfold gearInRecord; dsimp only; (repeat' split) <;> simp

@[simp] theorem gearOwner_keeps (p : Payload) (s : State) :
    (gearOwner p s).1.power = s.power ∧ (gearOwner p s).1.now = s.now ∧ (gearOwner p s).1.freeIndex = s.freeIndex ∧
    (gearOwner p s).1.pending = s.pending ∧ (gearOwner p s).1.cfg = s.cfg ∧ (gearOwner p s).1.csc = s.csc ∧
    (gearOwner p s).1.smx = s.smx ∧ (gearOwner p s).1.drc = s.drc ∧ (gearOwner p s).1.wnc = s.wnc ∧ (gearOwner p s).1.lcu = s.lcu
    ∧ (gearOwner p s).1.bmn = s.bmn ∧ (gearOwner p s).1.pba = s.pba ∧ (gearOwner p s).1.pst = s.pst := by
  unfold gearOwner; (repeat' split) <;> simp

@[simp] theorem getServoOwner_keeps (p : Payload) (s : State) :
    (getServoOwner p s).1.power = s.power ∧ (getServoOwner p s).1.now = s.now ∧ (getServoOwner p s).1.freeIndex = s.freeIndex ∧
    (getServoOwner p s).1.pending = s.pending ∧ (getServoOwner p s).1.cfg = s.cfg ∧ (getServoOwner p s).1.csc = s.csc ∧
    (getServoOwner p s).1.smx = s.smx ∧ (getServoOwner p s).1.spg = s.spg ∧ (getServoOwner p s).1.drc = s.drc ∧
    (getServoOwner p s).1.wnc = s.wnc ∧ (getServoOwner p s).1.lcu = s.lcu ∧ (getServoOwner p s).1.bmn = s.bmn ∧
    (getServoOwner p s).1.pba = s.pba ∧ (getServoOwner p s).1.lif = s.lif ∧ (getServoOwner p s).1.pst = s.pst := by
  unfold getServoOwner; split <;> simp

@[simp] theorem acceptRestoredEnds_keeps (new : SpgCfg) (s : State) :
    (acceptRestoredEnds new s).power = s.power ∧ (acceptRestoredEnds new s).now = s.now ∧
    (acceptRestoredEnds new s).freeIndex = s.freeIndex ∧ (acceptRestoredEnds new s).pending = s.pending ∧
    (acceptRestoredEnds new s).cfg = s.cfg ∧ (acceptRestoredEnds new s).csc = s.csc ∧ (acceptRestoredEnds new s).smx = s.smx ∧
    (acceptRestoredEnds new s).drc = s.drc ∧ (acceptRestoredEnds new s).wnc = s.wnc ∧ (acceptRestoredEnds new s).lcu = s.lcu ∧
    (acceptRestoredEnds new s).bmn = s.bmn ∧ (acceptRestoredEnds new s).pba = s.pba ∧ (acceptRestoredEnds new s).lif = s.lif ∧
    (acceptRestoredEnds new s).pst = s.pst := by simp [acceptRestoredEnds]

@[simp] theorem spgUnitReset_keeps (s : State) :
    (spgUnitReset s).power = s.power ∧ (spgUnitReset s).now = s.now ∧ (spgUnitReset s).freeIndex = s.freeIndex ∧
    (spgUnitReset s).pending = s.pending ∧ (spgUnitReset s).cfg = s.cfg ∧ (spgUnitReset s).csc = s.csc ∧
    (spgUnitReset s).smx = s.smx ∧ (spgUnitReset s).drc = s.drc ∧ (spgUnitReset s).wnc = s.wnc ∧ (spgUnitReset s).lcu = s.lcu ∧
    (spgUnitReset s).bmn = s.bmn ∧ (spgUnitReset s).pba = s.pba ∧ (spgUnitReset s).pst = s.pst := by simp [spgUnitReset]

@[simp] theorem channelWork_keeps (ch : ServoCh) (s : State) :
    (channelWork ch s).power = s.power ∧ (channelWork ch s).now = s.now ∧ (channelWork ch s).freeIndex = s.freeIndex ∧
    (channelWork ch s).pending = s.pending ∧ (channelWork ch s).csc = s.csc ∧ (channelWork ch s).drc = s.drc ∧
    (channelWork ch s).wnc = s.wnc ∧ (channelWork ch s).lcu = s.lcu ∧ (channelWork ch s).bmn = s.bmn ∧
    (channelWork ch s).pba = s.pba ∧ (channelWork ch s).pst = s.pst := by unfold channelWork; split <;> simp

@[simp] theorem frameStart_keeps (ch : ServoCh) (s : State) :
    (frameStart ch s).power = s.power ∧ (frameStart ch s).now = s.now ∧ (frameStart ch s).freeIndex = s.freeIndex ∧
    (frameStart ch s).pending = s.pending ∧ (frameStart ch s).csc = s.csc ∧ (frameStart ch s).drc = s.drc ∧
    (frameStart ch s).wnc = s.wnc ∧ (frameStart ch s).lcu = s.lcu ∧ (frameStart ch s).bmn = s.bmn ∧ (frameStart ch s).pba = s.pba
    ∧ (frameStart ch s).pst = s.pst := by unfold frameStart; split <;> simp

/-! ### Drive -/

@[simp] theorem setDrive_keeps (ch : DriveCh) (c : DriveChan) (s : State) :
    (setDrive ch c s).power = s.power ∧ (setDrive ch c s).now = s.now ∧ (setDrive ch c s).freeIndex = s.freeIndex ∧
    (setDrive ch c s).pending = s.pending ∧ (setDrive ch c s).cfg = s.cfg ∧ (setDrive ch c s).csc = s.csc ∧
    (setDrive ch c s).smx = s.smx ∧ (setDrive ch c s).spg = s.spg ∧ (setDrive ch c s).wnc = s.wnc ∧ (setDrive ch c s).lcu = s.lcu
    ∧ (setDrive ch c s).bmn = s.bmn ∧ (setDrive ch c s).pba = s.pba ∧ (setDrive ch c s).lif = s.lif ∧
    (setDrive ch c s).pst = s.pst := by simp [setDrive]

@[simp] theorem faultStep_keeps (ch : DriveCh) (current : Nat) (s : State) :
    (faultStep ch current s).power = s.power ∧ (faultStep ch current s).now = s.now ∧
    (faultStep ch current s).freeIndex = s.freeIndex ∧ (faultStep ch current s).pending = s.pending ∧
    (faultStep ch current s).cfg = s.cfg ∧ (faultStep ch current s).csc = s.csc ∧ (faultStep ch current s).smx = s.smx ∧
    (faultStep ch current s).spg = s.spg ∧ (faultStep ch current s).wnc = s.wnc ∧ (faultStep ch current s).lcu = s.lcu ∧
    (faultStep ch current s).bmn = s.bmn ∧ (faultStep ch current s).pba = s.pba ∧ (faultStep ch current s).pst = s.pst := by
  unfold faultStep; dsimp only; (repeat' split) <;> simp

@[simp] theorem digIntoForce_keeps (s : State) :
    (digIntoForce s).power = s.power ∧ (digIntoForce s).now = s.now ∧ (digIntoForce s).freeIndex = s.freeIndex ∧
    (digIntoForce s).pending = s.pending ∧ (digIntoForce s).cfg = s.cfg ∧ (digIntoForce s).csc = s.csc ∧
    (digIntoForce s).smx = s.smx ∧ (digIntoForce s).spg = s.spg ∧ (digIntoForce s).wnc = s.wnc ∧ (digIntoForce s).lcu = s.lcu ∧
    (digIntoForce s).bmn = s.bmn ∧ (digIntoForce s).pba = s.pba ∧ (digIntoForce s).lif = s.lif ∧ (digIntoForce s).pst = s.pst := by
  simp [digIntoForce]

@[simp] theorem driveFoldback_keeps (ch : DriveCh) (current : Nat) (s : State) :
    (driveFoldback ch current s).power = s.power ∧ (driveFoldback ch current s).now = s.now ∧
    (driveFoldback ch current s).freeIndex = s.freeIndex ∧ (driveFoldback ch current s).pending = s.pending ∧
    (driveFoldback ch current s).cfg = s.cfg ∧ (driveFoldback ch current s).csc = s.csc ∧ (driveFoldback ch current s).smx = s.smx
    ∧ (driveFoldback ch current s).spg = s.spg ∧ (driveFoldback ch current s).wnc = s.wnc ∧
    (driveFoldback ch current s).lcu = s.lcu ∧ (driveFoldback ch current s).bmn = s.bmn ∧ (driveFoldback ch current s).pba = s.pba
    ∧ (driveFoldback ch current s).lif = s.lif ∧ (driveFoldback ch current s).pst = s.pst := by simp [driveFoldback]

@[simp] theorem driveUpdate_keeps (ch : DriveCh) (current : Nat) (s : State) :
    (driveUpdate ch current s).power = s.power ∧ (driveUpdate ch current s).now = s.now ∧
    (driveUpdate ch current s).freeIndex = s.freeIndex ∧ (driveUpdate ch current s).pending = s.pending ∧
    (driveUpdate ch current s).csc = s.csc ∧ (driveUpdate ch current s).spg = s.spg ∧ (driveUpdate ch current s).wnc = s.wnc ∧
    (driveUpdate ch current s).lcu = s.lcu ∧ (driveUpdate ch current s).bmn = s.bmn ∧ (driveUpdate ch current s).pba = s.pba ∧
    (driveUpdate ch current s).pst = s.pst := by simp [driveUpdate]

@[simp] theorem mapDrive_keeps (f : DriveCh → DriveChan → DriveChan) (s : State) :
    (mapDrive f s).power = s.power ∧ (mapDrive f s).now = s.now ∧ (mapDrive f s).freeIndex = s.freeIndex ∧
    (mapDrive f s).pending = s.pending ∧ (mapDrive f s).cfg = s.cfg ∧ (mapDrive f s).csc = s.csc ∧ (mapDrive f s).smx = s.smx ∧
    (mapDrive f s).spg = s.spg ∧ (mapDrive f s).wnc = s.wnc ∧ (mapDrive f s).lcu = s.lcu ∧ (mapDrive f s).bmn = s.bmn ∧
    (mapDrive f s).pba = s.pba ∧ (mapDrive f s).lif = s.lif ∧ (mapDrive f s).pst = s.pst := by simp [mapDrive]

@[simp] theorem driveCutoff_keeps (s : State) :
    (driveCutoff s).power = s.power ∧ (driveCutoff s).now = s.now ∧ (driveCutoff s).freeIndex = s.freeIndex ∧
    (driveCutoff s).pending = s.pending ∧ (driveCutoff s).cfg = s.cfg ∧ (driveCutoff s).csc = s.csc ∧ (driveCutoff s).smx = s.smx
    ∧ (driveCutoff s).spg = s.spg ∧ (driveCutoff s).wnc = s.wnc ∧ (driveCutoff s).lcu = s.lcu ∧ (driveCutoff s).bmn = s.bmn ∧
    (driveCutoff s).pba = s.pba ∧ (driveCutoff s).lif = s.lif ∧ (driveCutoff s).pst = s.pst := by simp [driveCutoff]

@[simp] theorem driveHold_keeps (s : State) :
    (driveHold s).power = s.power ∧ (driveHold s).now = s.now ∧ (driveHold s).freeIndex = s.freeIndex ∧
    (driveHold s).pending = s.pending ∧ (driveHold s).cfg = s.cfg ∧ (driveHold s).csc = s.csc ∧ (driveHold s).smx = s.smx ∧
    (driveHold s).spg = s.spg ∧ (driveHold s).wnc = s.wnc ∧ (driveHold s).lcu = s.lcu ∧ (driveHold s).bmn = s.bmn ∧
    (driveHold s).pba = s.pba ∧ (driveHold s).lif = s.lif ∧ (driveHold s).pst = s.pst := by simp [driveHold]

@[simp] theorem digOwner_keeps (p : Payload) (s : State) :
    (digOwner p s).1.power = s.power ∧ (digOwner p s).1.now = s.now ∧ (digOwner p s).1.freeIndex = s.freeIndex ∧
    (digOwner p s).1.pending = s.pending ∧ (digOwner p s).1.cfg = s.cfg ∧ (digOwner p s).1.csc = s.csc ∧
    (digOwner p s).1.smx = s.smx ∧ (digOwner p s).1.spg = s.spg ∧ (digOwner p s).1.wnc = s.wnc ∧ (digOwner p s).1.lcu = s.lcu ∧
    (digOwner p s).1.bmn = s.bmn ∧ (digOwner p s).1.pba = s.pba ∧ (digOwner p s).1.lif = s.lif ∧ (digOwner p s).1.pst = s.pst := by
  unfold digOwner; split <;> simp

@[simp] theorem faultClearOwner_keeps (p : Payload) (s : State) :
    (faultClearOwner p s).1.power = s.power ∧ (faultClearOwner p s).1.now = s.now ∧
    (faultClearOwner p s).1.freeIndex = s.freeIndex ∧ (faultClearOwner p s).1.pending = s.pending ∧
    (faultClearOwner p s).1.cfg = s.cfg ∧ (faultClearOwner p s).1.csc = s.csc ∧ (faultClearOwner p s).1.smx = s.smx ∧
    (faultClearOwner p s).1.spg = s.spg ∧ (faultClearOwner p s).1.wnc = s.wnc ∧ (faultClearOwner p s).1.lcu = s.lcu ∧
    (faultClearOwner p s).1.bmn = s.bmn ∧ (faultClearOwner p s).1.pba = s.pba ∧ (faultClearOwner p s).1.lif = s.lif ∧
    (faultClearOwner p s).1.pst = s.pst := by unfold faultClearOwner; dsimp only; (repeat' split) <;> simp

@[simp] theorem driveUnitReset_keeps (s : State) :
    (driveUnitReset s).power = s.power ∧ (driveUnitReset s).now = s.now ∧ (driveUnitReset s).freeIndex = s.freeIndex ∧
    (driveUnitReset s).pending = s.pending ∧ (driveUnitReset s).cfg = s.cfg ∧ (driveUnitReset s).csc = s.csc ∧
    (driveUnitReset s).smx = s.smx ∧ (driveUnitReset s).spg = s.spg ∧ (driveUnitReset s).wnc = s.wnc ∧
    (driveUnitReset s).lcu = s.lcu ∧ (driveUnitReset s).bmn = s.bmn ∧ (driveUnitReset s).pba = s.pba ∧
    (driveUnitReset s).lif = s.lif ∧ (driveUnitReset s).pst = s.pst := by simp [driveUnitReset]

/-! ### Winch -/

@[simp] theorem endOp_keeps (r : WinchResult) (st : WinchState) (s : State) :
    (endOp r st s).power = s.power ∧ (endOp r st s).now = s.now ∧ (endOp r st s).freeIndex = s.freeIndex ∧
    (endOp r st s).pending = s.pending ∧ (endOp r st s).cfg = s.cfg ∧ (endOp r st s).csc = s.csc ∧ (endOp r st s).smx = s.smx ∧
    (endOp r st s).spg = s.spg ∧ (endOp r st s).drc = s.drc ∧ (endOp r st s).lcu = s.lcu ∧ (endOp r st s).bmn = s.bmn ∧
    (endOp r st s).pba = s.pba ∧ (endOp r st s).pst = s.pst := by simp [endOp]

@[simp] theorem endAnyOp_keeps (r : WinchResult) (s : State) :
    (endAnyOp r s).power = s.power ∧ (endAnyOp r s).now = s.now ∧ (endAnyOp r s).freeIndex = s.freeIndex ∧
    (endAnyOp r s).pending = s.pending ∧ (endAnyOp r s).cfg = s.cfg ∧ (endAnyOp r s).csc = s.csc ∧ (endAnyOp r s).smx = s.smx ∧
    (endAnyOp r s).spg = s.spg ∧ (endAnyOp r s).drc = s.drc ∧ (endAnyOp r s).lcu = s.lcu ∧ (endAnyOp r s).bmn = s.bmn ∧
    (endAnyOp r s).pba = s.pba ∧ (endAnyOp r s).pst = s.pst := by unfold endAnyOp; split <;> simp

@[simp] theorem limitCheck_keeps (s : State) :
    (limitCheck s).power = s.power ∧ (limitCheck s).now = s.now ∧ (limitCheck s).freeIndex = s.freeIndex ∧
    (limitCheck s).pending = s.pending ∧ (limitCheck s).cfg = s.cfg ∧ (limitCheck s).csc = s.csc ∧ (limitCheck s).smx = s.smx ∧
    (limitCheck s).spg = s.spg ∧ (limitCheck s).drc = s.drc ∧ (limitCheck s).lcu = s.lcu ∧ (limitCheck s).bmn = s.bmn ∧
    (limitCheck s).pba = s.pba ∧ (limitCheck s).pst = s.pst := by unfold limitCheck; dsimp only; (repeat' split) <;> simp

@[simp] theorem restoreOp_keeps (s : State) :
    (restoreOp s).power = s.power ∧ (restoreOp s).now = s.now ∧ (restoreOp s).freeIndex = s.freeIndex ∧
    (restoreOp s).pending = s.pending ∧ (restoreOp s).cfg = s.cfg ∧ (restoreOp s).csc = s.csc ∧ (restoreOp s).smx = s.smx ∧
    (restoreOp s).spg = s.spg ∧ (restoreOp s).drc = s.drc ∧ (restoreOp s).lcu = s.lcu ∧ (restoreOp s).bmn = s.bmn ∧
    (restoreOp s).pba = s.pba ∧ (restoreOp s).pst = s.pst := by unfold restoreOp; dsimp only; (repeat' split) <;> simp

@[simp] theorem dropReason_keeps (r : Reasons) (s : State) :
    (dropReason r s).power = s.power ∧ (dropReason r s).now = s.now ∧ (dropReason r s).freeIndex = s.freeIndex ∧
    (dropReason r s).pending = s.pending ∧ (dropReason r s).cfg = s.cfg ∧ (dropReason r s).csc = s.csc ∧
    (dropReason r s).smx = s.smx ∧ (dropReason r s).spg = s.spg ∧ (dropReason r s).drc = s.drc ∧ (dropReason r s).lcu = s.lcu ∧
    (dropReason r s).bmn = s.bmn ∧ (dropReason r s).pba = s.pba ∧ (dropReason r s).pst = s.pst := by
  unfold dropReason; split <;> simp

@[simp] theorem winchHold_keeps (s : State) :
    (winchHold s).power = s.power ∧ (winchHold s).now = s.now ∧ (winchHold s).freeIndex = s.freeIndex ∧
    (winchHold s).pending = s.pending ∧ (winchHold s).cfg = s.cfg ∧ (winchHold s).csc = s.csc ∧ (winchHold s).smx = s.smx ∧
    (winchHold s).spg = s.spg ∧ (winchHold s).drc = s.drc ∧ (winchHold s).lcu = s.lcu ∧ (winchHold s).bmn = s.bmn ∧
    (winchHold s).pba = s.pba ∧ (winchHold s).lif = s.lif ∧ (winchHold s).pst = s.pst := by
  unfold winchHold; dsimp only; (repeat' split) <;> simp

@[simp] theorem winchUnhold_keeps (s : State) :
    (winchUnhold s).power = s.power ∧ (winchUnhold s).now = s.now ∧ (winchUnhold s).freeIndex = s.freeIndex ∧
    (winchUnhold s).pending = s.pending ∧ (winchUnhold s).cfg = s.cfg ∧ (winchUnhold s).csc = s.csc ∧ (winchUnhold s).smx = s.smx
    ∧ (winchUnhold s).spg = s.spg ∧ (winchUnhold s).drc = s.drc ∧ (winchUnhold s).lcu = s.lcu ∧ (winchUnhold s).bmn = s.bmn ∧
    (winchUnhold s).pba = s.pba ∧ (winchUnhold s).pst = s.pst := by unfold winchUnhold; split <;> simp

@[simp] theorem replaceOp_keeps (s : State) :
    (replaceOp s).power = s.power ∧ (replaceOp s).now = s.now ∧ (replaceOp s).freeIndex = s.freeIndex ∧
    (replaceOp s).pending = s.pending ∧ (replaceOp s).cfg = s.cfg ∧ (replaceOp s).csc = s.csc ∧ (replaceOp s).smx = s.smx ∧
    (replaceOp s).spg = s.spg ∧ (replaceOp s).drc = s.drc ∧ (replaceOp s).lcu = s.lcu ∧ (replaceOp s).bmn = s.bmn ∧
    (replaceOp s).pba = s.pba ∧ (replaceOp s).pst = s.pst := by unfold replaceOp; split <;> simp

@[simp] theorem startOp_keeps (k : WinchOp) (d : WinchDir) (speed : Nat) (target : Int) (s : State) :
    (startOp k d speed target s).power = s.power ∧ (startOp k d speed target s).now = s.now ∧
    (startOp k d speed target s).freeIndex = s.freeIndex ∧ (startOp k d speed target s).pending = s.pending ∧
    (startOp k d speed target s).cfg = s.cfg ∧ (startOp k d speed target s).csc = s.csc ∧ (startOp k d speed target s).smx = s.smx
    ∧ (startOp k d speed target s).spg = s.spg ∧ (startOp k d speed target s).drc = s.drc ∧
    (startOp k d speed target s).lcu = s.lcu ∧ (startOp k d speed target s).bmn = s.bmn ∧ (startOp k d speed target s).pba = s.pba
    ∧ (startOp k d speed target s).lif = s.lif ∧ (startOp k d speed target s).pst = s.pst := by unfold startOp; split <;> simp

@[simp] theorem runSpool_keeps (k : WinchOp) (d : WinchDir) (asked : Nat) (s : State) :
    (runSpool k d asked s).1.power = s.power ∧ (runSpool k d asked s).1.now = s.now ∧
    (runSpool k d asked s).1.freeIndex = s.freeIndex ∧ (runSpool k d asked s).1.pending = s.pending ∧
    (runSpool k d asked s).1.cfg = s.cfg ∧ (runSpool k d asked s).1.csc = s.csc ∧ (runSpool k d asked s).1.smx = s.smx ∧
    (runSpool k d asked s).1.spg = s.spg ∧ (runSpool k d asked s).1.drc = s.drc ∧ (runSpool k d asked s).1.lcu = s.lcu ∧
    (runSpool k d asked s).1.bmn = s.bmn ∧ (runSpool k d asked s).1.pba = s.pba ∧ (runSpool k d asked s).1.pst = s.pst := by
  unfold runSpool; split <;> simp

@[simp] theorem winchRunMode_keeps (mode asked : Nat) (s : State) :
    (winchRunMode mode asked s).1.power = s.power ∧ (winchRunMode mode asked s).1.now = s.now ∧
    (winchRunMode mode asked s).1.freeIndex = s.freeIndex ∧ (winchRunMode mode asked s).1.pending = s.pending ∧
    (winchRunMode mode asked s).1.cfg = s.cfg ∧ (winchRunMode mode asked s).1.csc = s.csc ∧
    (winchRunMode mode asked s).1.smx = s.smx ∧ (winchRunMode mode asked s).1.spg = s.spg ∧
    (winchRunMode mode asked s).1.drc = s.drc ∧ (winchRunMode mode asked s).1.lcu = s.lcu ∧
    (winchRunMode mode asked s).1.bmn = s.bmn ∧ (winchRunMode mode asked s).1.pba = s.pba ∧
    (winchRunMode mode asked s).1.pst = s.pst := by unfold winchRunMode; (repeat' split) <;> simp

@[simp] theorem winchRunOwner_keeps (p : Payload) (s : State) :
    (winchRunOwner p s).1.power = s.power ∧ (winchRunOwner p s).1.now = s.now ∧ (winchRunOwner p s).1.freeIndex = s.freeIndex ∧
    (winchRunOwner p s).1.pending = s.pending ∧ (winchRunOwner p s).1.cfg = s.cfg ∧ (winchRunOwner p s).1.csc = s.csc ∧
    (winchRunOwner p s).1.smx = s.smx ∧ (winchRunOwner p s).1.spg = s.spg ∧ (winchRunOwner p s).1.drc = s.drc ∧
    (winchRunOwner p s).1.lcu = s.lcu ∧ (winchRunOwner p s).1.bmn = s.bmn ∧ (winchRunOwner p s).1.pba = s.pba ∧
    (winchRunOwner p s).1.pst = s.pst := by simp [winchRunOwner]

@[simp] theorem startPull_keeps (target : Int) (speed : Nat) (s : State) :
    (startPull target speed s).power = s.power ∧ (startPull target speed s).now = s.now ∧
    (startPull target speed s).freeIndex = s.freeIndex ∧ (startPull target speed s).pending = s.pending ∧
    (startPull target speed s).cfg = s.cfg ∧ (startPull target speed s).csc = s.csc ∧ (startPull target speed s).smx = s.smx ∧
    (startPull target speed s).spg = s.spg ∧ (startPull target speed s).drc = s.drc ∧ (startPull target speed s).lcu = s.lcu ∧
    (startPull target speed s).bmn = s.bmn ∧ (startPull target speed s).pba = s.pba ∧ (startPull target speed s).pst = s.pst := by
  unfold startPull; dsimp only; split <;> simp

@[simp] theorem winchPullOwner_keeps (p : Payload) (s : State) :
    (winchPullOwner p s).1.power = s.power ∧ (winchPullOwner p s).1.now = s.now ∧ (winchPullOwner p s).1.pending = s.pending ∧
    (winchPullOwner p s).1.cfg = s.cfg ∧ (winchPullOwner p s).1.csc = s.csc ∧ (winchPullOwner p s).1.smx = s.smx ∧
    (winchPullOwner p s).1.spg = s.spg ∧ (winchPullOwner p s).1.drc = s.drc ∧ (winchPullOwner p s).1.lcu = s.lcu ∧
    (winchPullOwner p s).1.bmn = s.bmn ∧ (winchPullOwner p s).1.pba = s.pba ∧ (winchPullOwner p s).1.pst = s.pst := by
  unfold winchPullOwner; split <;> simp

@[simp] theorem winchSuspendOwner_keeps (s : State) :
    (winchSuspendOwner s).1.power = s.power ∧ (winchSuspendOwner s).1.now = s.now ∧
    (winchSuspendOwner s).1.freeIndex = s.freeIndex ∧ (winchSuspendOwner s).1.pending = s.pending ∧
    (winchSuspendOwner s).1.cfg = s.cfg ∧ (winchSuspendOwner s).1.csc = s.csc ∧ (winchSuspendOwner s).1.smx = s.smx ∧
    (winchSuspendOwner s).1.spg = s.spg ∧ (winchSuspendOwner s).1.drc = s.drc ∧ (winchSuspendOwner s).1.lcu = s.lcu ∧
    (winchSuspendOwner s).1.bmn = s.bmn ∧ (winchSuspendOwner s).1.pba = s.pba ∧ (winchSuspendOwner s).1.lif = s.lif ∧
    (winchSuspendOwner s).1.pst = s.pst := by unfold winchSuspendOwner; dsimp only; (repeat' split) <;> simp

@[simp] theorem winchResumeOwner_keeps (s : State) :
    (winchResumeOwner s).1.power = s.power ∧ (winchResumeOwner s).1.now = s.now ∧ (winchResumeOwner s).1.freeIndex = s.freeIndex ∧
    (winchResumeOwner s).1.pending = s.pending ∧ (winchResumeOwner s).1.cfg = s.cfg ∧ (winchResumeOwner s).1.csc = s.csc ∧
    (winchResumeOwner s).1.smx = s.smx ∧ (winchResumeOwner s).1.spg = s.spg ∧ (winchResumeOwner s).1.drc = s.drc ∧
    (winchResumeOwner s).1.lcu = s.lcu ∧ (winchResumeOwner s).1.bmn = s.bmn ∧ (winchResumeOwner s).1.pba = s.pba ∧
    (winchResumeOwner s).1.pst = s.pst := by unfold winchResumeOwner; split <;> simp

@[simp] theorem winchZeroOwner_keeps (s : State) :
    (winchZeroOwner s).1.power = s.power ∧ (winchZeroOwner s).1.now = s.now ∧ (winchZeroOwner s).1.freeIndex = s.freeIndex ∧
    (winchZeroOwner s).1.pending = s.pending ∧ (winchZeroOwner s).1.cfg = s.cfg ∧ (winchZeroOwner s).1.csc = s.csc ∧
    (winchZeroOwner s).1.smx = s.smx ∧ (winchZeroOwner s).1.spg = s.spg ∧ (winchZeroOwner s).1.drc = s.drc ∧
    (winchZeroOwner s).1.lcu = s.lcu ∧ (winchZeroOwner s).1.bmn = s.bmn ∧ (winchZeroOwner s).1.pba = s.pba ∧
    (winchZeroOwner s).1.pst = s.pst := by unfold winchZeroOwner; dsimp only; split <;> simp

@[simp] theorem winchLimitsOwner_keeps (p : Payload) (s : State) :
    (winchLimitsOwner p s).1.power = s.power ∧ (winchLimitsOwner p s).1.now = s.now ∧
    (winchLimitsOwner p s).1.freeIndex = s.freeIndex ∧ (winchLimitsOwner p s).1.pending = s.pending ∧
    (winchLimitsOwner p s).1.csc = s.csc ∧ (winchLimitsOwner p s).1.smx = s.smx ∧ (winchLimitsOwner p s).1.spg = s.spg ∧
    (winchLimitsOwner p s).1.drc = s.drc ∧ (winchLimitsOwner p s).1.lcu = s.lcu ∧ (winchLimitsOwner p s).1.bmn = s.bmn ∧
    (winchLimitsOwner p s).1.pba = s.pba ∧ (winchLimitsOwner p s).1.pst = s.pst := by
  unfold winchLimitsOwner; dsimp only; (repeat' split) <;> simp

@[simp] theorem grantRead_keeps (current : Nat) (s : State) :
    (grantRead current s).power = s.power ∧ (grantRead current s).now = s.now ∧ (grantRead current s).freeIndex = s.freeIndex ∧
    (grantRead current s).pending = s.pending ∧ (grantRead current s).cfg = s.cfg ∧ (grantRead current s).csc = s.csc ∧
    (grantRead current s).smx = s.smx ∧ (grantRead current s).spg = s.spg ∧ (grantRead current s).drc = s.drc ∧
    (grantRead current s).lcu = s.lcu ∧ (grantRead current s).bmn = s.bmn ∧ (grantRead current s).pba = s.pba ∧
    (grantRead current s).pst = s.pst := by unfold grantRead; dsimp only; (repeat' split) <;> simp

@[simp] theorem winchFoldback_keeps (current : Nat) (s : State) :
    (winchFoldback current s).power = s.power ∧ (winchFoldback current s).now = s.now ∧
    (winchFoldback current s).freeIndex = s.freeIndex ∧ (winchFoldback current s).pending = s.pending ∧
    (winchFoldback current s).cfg = s.cfg ∧ (winchFoldback current s).csc = s.csc ∧ (winchFoldback current s).smx = s.smx ∧
    (winchFoldback current s).spg = s.spg ∧ (winchFoldback current s).drc = s.drc ∧ (winchFoldback current s).lcu = s.lcu ∧
    (winchFoldback current s).bmn = s.bmn ∧ (winchFoldback current s).pba = s.pba ∧ (winchFoldback current s).lif = s.lif ∧
    (winchFoldback current s).pst = s.pst := by simp [winchFoldback]

@[simp] theorem winchTrip_keeps (s : State) :
    (winchTrip s).power = s.power ∧ (winchTrip s).now = s.now ∧ (winchTrip s).freeIndex = s.freeIndex ∧
    (winchTrip s).pending = s.pending ∧ (winchTrip s).cfg = s.cfg ∧ (winchTrip s).csc = s.csc ∧ (winchTrip s).smx = s.smx ∧
    (winchTrip s).spg = s.spg ∧ (winchTrip s).drc = s.drc ∧ (winchTrip s).lcu = s.lcu ∧ (winchTrip s).bmn = s.bmn ∧
    (winchTrip s).pba = s.pba ∧ (winchTrip s).pst = s.pst := by simp [winchTrip]

@[simp] theorem winchStalls_keeps (s : State) :
    (winchStalls s).power = s.power ∧ (winchStalls s).now = s.now ∧ (winchStalls s).freeIndex = s.freeIndex ∧
    (winchStalls s).pending = s.pending ∧ (winchStalls s).cfg = s.cfg ∧ (winchStalls s).csc = s.csc ∧ (winchStalls s).smx = s.smx
    ∧ (winchStalls s).spg = s.spg ∧ (winchStalls s).drc = s.drc ∧ (winchStalls s).lcu = s.lcu ∧ (winchStalls s).bmn = s.bmn ∧
    (winchStalls s).pba = s.pba ∧ (winchStalls s).pst = s.pst := by simp [winchStalls]

@[simp] theorem capAndLimit_keeps (duty : Int) (arm : Option StallArm) (s : State) :
    (capAndLimit duty arm s).power = s.power ∧ (capAndLimit duty arm s).now = s.now ∧
    (capAndLimit duty arm s).freeIndex = s.freeIndex ∧ (capAndLimit duty arm s).pending = s.pending ∧
    (capAndLimit duty arm s).cfg = s.cfg ∧ (capAndLimit duty arm s).csc = s.csc ∧ (capAndLimit duty arm s).smx = s.smx ∧
    (capAndLimit duty arm s).spg = s.spg ∧ (capAndLimit duty arm s).drc = s.drc ∧ (capAndLimit duty arm s).lcu = s.lcu ∧
    (capAndLimit duty arm s).bmn = s.bmn ∧ (capAndLimit duty arm s).pba = s.pba ∧ (capAndLimit duty arm s).pst = s.pst := by
  simp [capAndLimit]

@[simp] theorem winchDrive_keeps (current : Nat) (s : State) :
    (winchDrive current s).power = s.power ∧ (winchDrive current s).now = s.now ∧ (winchDrive current s).freeIndex = s.freeIndex ∧
    (winchDrive current s).pending = s.pending ∧ (winchDrive current s).cfg = s.cfg ∧ (winchDrive current s).csc = s.csc ∧
    (winchDrive current s).smx = s.smx ∧ (winchDrive current s).spg = s.spg ∧ (winchDrive current s).drc = s.drc ∧
    (winchDrive current s).lcu = s.lcu ∧ (winchDrive current s).bmn = s.bmn ∧ (winchDrive current s).pba = s.pba ∧
    (winchDrive current s).pst = s.pst := by unfold winchDrive; dsimp only; (repeat' split) <;> simp

@[simp] theorem winchUpdate_keeps (current : Nat) (s : State) :
    (winchUpdate current s).power = s.power ∧ (winchUpdate current s).now = s.now ∧
    (winchUpdate current s).freeIndex = s.freeIndex ∧ (winchUpdate current s).pending = s.pending ∧
    (winchUpdate current s).cfg = s.cfg ∧ (winchUpdate current s).csc = s.csc ∧ (winchUpdate current s).smx = s.smx ∧
    (winchUpdate current s).spg = s.spg ∧ (winchUpdate current s).drc = s.drc ∧ (winchUpdate current s).lcu = s.lcu ∧
    (winchUpdate current s).bmn = s.bmn ∧ (winchUpdate current s).pba = s.pba ∧ (winchUpdate current s).pst = s.pst := by
  unfold winchUpdate; dsimp only; split <;> simp

@[simp] theorem countChecks_keeps (s : State) :
    (countChecks s).power = s.power ∧ (countChecks s).now = s.now ∧ (countChecks s).freeIndex = s.freeIndex ∧
    (countChecks s).pending = s.pending ∧ (countChecks s).cfg = s.cfg ∧ (countChecks s).csc = s.csc ∧ (countChecks s).smx = s.smx
    ∧ (countChecks s).spg = s.spg ∧ (countChecks s).drc = s.drc ∧ (countChecks s).lcu = s.lcu ∧ (countChecks s).bmn = s.bmn ∧
    (countChecks s).pba = s.pba ∧ (countChecks s).pst = s.pst := by unfold countChecks; split <;> simp

@[simp] theorem loseValidity_keeps (s : State) :
    (loseValidity s).power = s.power ∧ (loseValidity s).now = s.now ∧ (loseValidity s).freeIndex = s.freeIndex ∧
    (loseValidity s).pending = s.pending ∧ (loseValidity s).cfg = s.cfg ∧ (loseValidity s).csc = s.csc ∧
    (loseValidity s).smx = s.smx ∧ (loseValidity s).spg = s.spg ∧ (loseValidity s).drc = s.drc ∧ (loseValidity s).lcu = s.lcu ∧
    (loseValidity s).bmn = s.bmn ∧ (loseValidity s).pba = s.pba ∧ (loseValidity s).pst = s.pst := by
  unfold loseValidity; dsimp only; split <;> simp

@[simp] theorem encoderStep_keeps (d : Int) (s : State) :
    (encoderStep d s).power = s.power ∧ (encoderStep d s).now = s.now ∧ (encoderStep d s).freeIndex = s.freeIndex ∧
    (encoderStep d s).pending = s.pending ∧ (encoderStep d s).cfg = s.cfg ∧ (encoderStep d s).csc = s.csc ∧
    (encoderStep d s).smx = s.smx ∧ (encoderStep d s).spg = s.spg ∧ (encoderStep d s).drc = s.drc ∧ (encoderStep d s).lcu = s.lcu
    ∧ (encoderStep d s).bmn = s.bmn ∧ (encoderStep d s).pba = s.pba ∧ (encoderStep d s).pst = s.pst := by
  unfold encoderStep; dsimp only; split <;> simp

@[simp] theorem encoderError_keeps (s : State) :
    (encoderError s).power = s.power ∧ (encoderError s).now = s.now ∧ (encoderError s).freeIndex = s.freeIndex ∧
    (encoderError s).pending = s.pending ∧ (encoderError s).cfg = s.cfg ∧ (encoderError s).csc = s.csc ∧
    (encoderError s).smx = s.smx ∧ (encoderError s).spg = s.spg ∧ (encoderError s).drc = s.drc ∧ (encoderError s).lcu = s.lcu ∧
    (encoderError s).bmn = s.bmn ∧ (encoderError s).pba = s.pba ∧ (encoderError s).pst = s.pst := by simp [encoderError]

@[simp] theorem encoderChange_keeps (e : EncoderPins) (s : State) :
    (encoderChange e s).power = s.power ∧ (encoderChange e s).now = s.now ∧ (encoderChange e s).freeIndex = s.freeIndex ∧
    (encoderChange e s).pending = s.pending ∧ (encoderChange e s).cfg = s.cfg ∧ (encoderChange e s).csc = s.csc ∧
    (encoderChange e s).smx = s.smx ∧ (encoderChange e s).spg = s.spg ∧ (encoderChange e s).drc = s.drc ∧
    (encoderChange e s).lcu = s.lcu ∧ (encoderChange e s).bmn = s.bmn ∧ (encoderChange e s).pba = s.pba ∧
    (encoderChange e s).pst = s.pst := by unfold encoderChange; dsimp only; (repeat' split) <;> simp

@[simp] theorem windowEnd_keeps (s : State) :
    (windowEnd s).power = s.power ∧ (windowEnd s).now = s.now ∧ (windowEnd s).freeIndex = s.freeIndex ∧
    (windowEnd s).pending = s.pending ∧ (windowEnd s).cfg = s.cfg ∧ (windowEnd s).csc = s.csc ∧ (windowEnd s).smx = s.smx ∧
    (windowEnd s).spg = s.spg ∧ (windowEnd s).drc = s.drc ∧ (windowEnd s).lcu = s.lcu ∧ (windowEnd s).bmn = s.bmn ∧
    (windowEnd s).pba = s.pba ∧ (windowEnd s).lif = s.lif ∧ (windowEnd s).pst = s.pst := by simp [windowEnd]

@[simp] theorem winchUnitReset_keeps (s : State) :
    (winchUnitReset s).power = s.power ∧ (winchUnitReset s).now = s.now ∧ (winchUnitReset s).freeIndex = s.freeIndex ∧
    (winchUnitReset s).pending = s.pending ∧ (winchUnitReset s).cfg = s.cfg ∧ (winchUnitReset s).csc = s.csc ∧
    (winchUnitReset s).smx = s.smx ∧ (winchUnitReset s).spg = s.spg ∧ (winchUnitReset s).drc = s.drc ∧
    (winchUnitReset s).lcu = s.lcu ∧ (winchUnitReset s).bmn = s.bmn ∧ (winchUnitReset s).pba = s.pba ∧
    (winchUnitReset s).pst = s.pst := by simp [winchUnitReset]

/-! ### Lights -/

@[simp] theorem setLight_keeps (k : Fin 8) (c : LightChan) (s : State) :
    (setLight k c s).power = s.power ∧ (setLight k c s).now = s.now ∧ (setLight k c s).freeIndex = s.freeIndex ∧
    (setLight k c s).pending = s.pending ∧ (setLight k c s).cfg = s.cfg ∧ (setLight k c s).csc = s.csc ∧
    (setLight k c s).smx = s.smx ∧ (setLight k c s).spg = s.spg ∧ (setLight k c s).drc = s.drc ∧ (setLight k c s).wnc = s.wnc ∧
    (setLight k c s).bmn = s.bmn ∧ (setLight k c s).pba = s.pba ∧ (setLight k c s).lif = s.lif ∧ (setLight k c s).pst = s.pst := by
  simp [setLight]

@[simp] theorem setLcuCfg_keeps (c : LcuCfg) (s : State) :
    (setLcuCfg c s).power = s.power ∧ (setLcuCfg c s).now = s.now ∧ (setLcuCfg c s).freeIndex = s.freeIndex ∧
    (setLcuCfg c s).pending = s.pending ∧ (setLcuCfg c s).csc = s.csc ∧ (setLcuCfg c s).smx = s.smx ∧ (setLcuCfg c s).spg = s.spg
    ∧ (setLcuCfg c s).drc = s.drc ∧ (setLcuCfg c s).wnc = s.wnc ∧ (setLcuCfg c s).lcu = s.lcu ∧ (setLcuCfg c s).bmn = s.bmn ∧
    (setLcuCfg c s).pba = s.pba ∧ (setLcuCfg c s).lif = s.lif ∧ (setLcuCfg c s).pst = s.pst := by simp [setLcuCfg]

@[simp] theorem lightPeriodStart_keeps (k : Fin 8) (s : State) :
    (lightPeriodStart k s).power = s.power ∧ (lightPeriodStart k s).now = s.now ∧ (lightPeriodStart k s).freeIndex = s.freeIndex ∧
    (lightPeriodStart k s).pending = s.pending ∧ (lightPeriodStart k s).cfg = s.cfg ∧ (lightPeriodStart k s).csc = s.csc ∧
    (lightPeriodStart k s).smx = s.smx ∧ (lightPeriodStart k s).spg = s.spg ∧ (lightPeriodStart k s).drc = s.drc ∧
    (lightPeriodStart k s).wnc = s.wnc ∧ (lightPeriodStart k s).bmn = s.bmn ∧ (lightPeriodStart k s).pba = s.pba ∧
    (lightPeriodStart k s).lif = s.lif ∧ (lightPeriodStart k s).pst = s.pst := by simp [lightPeriodStart]

@[simp] theorem mapLights_keeps (f : Fin 8 → LightChan → LightChan) (s : State) :
    (mapLights f s).power = s.power ∧ (mapLights f s).now = s.now ∧ (mapLights f s).freeIndex = s.freeIndex ∧
    (mapLights f s).pending = s.pending ∧ (mapLights f s).cfg = s.cfg ∧ (mapLights f s).csc = s.csc ∧ (mapLights f s).smx = s.smx
    ∧ (mapLights f s).spg = s.spg ∧ (mapLights f s).drc = s.drc ∧ (mapLights f s).wnc = s.wnc ∧ (mapLights f s).bmn = s.bmn ∧
    (mapLights f s).pba = s.pba ∧ (mapLights f s).lif = s.lif ∧ (mapLights f s).pst = s.pst := by simp [mapLights]

@[simp] theorem lightsCutoff_keeps (s : State) :
    (lightsCutoff s).power = s.power ∧ (lightsCutoff s).now = s.now ∧ (lightsCutoff s).freeIndex = s.freeIndex ∧
    (lightsCutoff s).pending = s.pending ∧ (lightsCutoff s).cfg = s.cfg ∧ (lightsCutoff s).csc = s.csc ∧
    (lightsCutoff s).smx = s.smx ∧ (lightsCutoff s).spg = s.spg ∧ (lightsCutoff s).drc = s.drc ∧ (lightsCutoff s).wnc = s.wnc ∧
    (lightsCutoff s).bmn = s.bmn ∧ (lightsCutoff s).pba = s.pba ∧ (lightsCutoff s).lif = s.lif ∧ (lightsCutoff s).pst = s.pst := by
  simp [lightsCutoff]

@[simp] theorem lightsRelease_keeps (s : State) :
    (lightsRelease s).power = s.power ∧ (lightsRelease s).now = s.now ∧ (lightsRelease s).freeIndex = s.freeIndex ∧
    (lightsRelease s).pending = s.pending ∧ (lightsRelease s).cfg = s.cfg ∧ (lightsRelease s).csc = s.csc ∧
    (lightsRelease s).smx = s.smx ∧ (lightsRelease s).spg = s.spg ∧ (lightsRelease s).drc = s.drc ∧ (lightsRelease s).wnc = s.wnc
    ∧ (lightsRelease s).bmn = s.bmn ∧ (lightsRelease s).pba = s.pba ∧ (lightsRelease s).lif = s.lif ∧
    (lightsRelease s).pst = s.pst := by simp [lightsRelease]

@[simp] theorem lightsRestored_keeps (s : State) :
    (lightsRestored s).power = s.power ∧ (lightsRestored s).now = s.now ∧ (lightsRestored s).freeIndex = s.freeIndex ∧
    (lightsRestored s).pending = s.pending ∧ (lightsRestored s).cfg = s.cfg ∧ (lightsRestored s).csc = s.csc ∧
    (lightsRestored s).smx = s.smx ∧ (lightsRestored s).spg = s.spg ∧ (lightsRestored s).drc = s.drc ∧
    (lightsRestored s).wnc = s.wnc ∧ (lightsRestored s).bmn = s.bmn ∧ (lightsRestored s).pba = s.pba ∧
    (lightsRestored s).lif = s.lif ∧ (lightsRestored s).pst = s.pst := by simp [lightsRestored]

@[simp] theorem lightsUnitReset_keeps (s : State) :
    (lightsUnitReset s).power = s.power ∧ (lightsUnitReset s).now = s.now ∧ (lightsUnitReset s).freeIndex = s.freeIndex ∧
    (lightsUnitReset s).pending = s.pending ∧ (lightsUnitReset s).cfg = s.cfg ∧ (lightsUnitReset s).csc = s.csc ∧
    (lightsUnitReset s).smx = s.smx ∧ (lightsUnitReset s).spg = s.spg ∧ (lightsUnitReset s).drc = s.drc ∧
    (lightsUnitReset s).wnc = s.wnc ∧ (lightsUnitReset s).bmn = s.bmn ∧ (lightsUnitReset s).pba = s.pba ∧
    (lightsUnitReset s).lif = s.lif ∧ (lightsUnitReset s).pst = s.pst := by simp [lightsUnitReset]

@[simp] theorem replaceMap_keeps (k : Fin 8) (m : LightMap) (s : State) :
    (replaceMap k m s).power = s.power ∧ (replaceMap k m s).now = s.now ∧ (replaceMap k m s).freeIndex = s.freeIndex ∧
    (replaceMap k m s).pending = s.pending ∧ (replaceMap k m s).csc = s.csc ∧ (replaceMap k m s).smx = s.smx ∧
    (replaceMap k m s).spg = s.spg ∧ (replaceMap k m s).drc = s.drc ∧ (replaceMap k m s).wnc = s.wnc ∧
    (replaceMap k m s).lcu = s.lcu ∧ (replaceMap k m s).bmn = s.bmn ∧ (replaceMap k m s).pba = s.pba ∧
    (replaceMap k m s).lif = s.lif ∧ (replaceMap k m s).pst = s.pst := by simp [replaceMap]

@[simp] theorem lightMapNoChannel_keeps (c : ResultCode) (p : Payload) (s : State) :
    (lightMapNoChannel c p s).1.power = s.power ∧ (lightMapNoChannel c p s).1.now = s.now ∧
    (lightMapNoChannel c p s).1.pending = s.pending ∧ (lightMapNoChannel c p s).1.cfg = s.cfg ∧
    (lightMapNoChannel c p s).1.csc = s.csc ∧ (lightMapNoChannel c p s).1.smx = s.smx ∧ (lightMapNoChannel c p s).1.spg = s.spg ∧
    (lightMapNoChannel c p s).1.drc = s.drc ∧ (lightMapNoChannel c p s).1.wnc = s.wnc ∧ (lightMapNoChannel c p s).1.lcu = s.lcu ∧
    (lightMapNoChannel c p s).1.bmn = s.bmn ∧ (lightMapNoChannel c p s).1.pba = s.pba ∧ (lightMapNoChannel c p s).1.lif = s.lif ∧
    (lightMapNoChannel c p s).1.pst = s.pst := by simp [lightMapNoChannel]

@[simp] theorem lightMapOwner_keeps (p : Payload) (s : State) :
    (lightMapOwner p s).1.power = s.power ∧ (lightMapOwner p s).1.now = s.now ∧ (lightMapOwner p s).1.pending = s.pending ∧
    (lightMapOwner p s).1.csc = s.csc ∧ (lightMapOwner p s).1.smx = s.smx ∧ (lightMapOwner p s).1.spg = s.spg ∧
    (lightMapOwner p s).1.drc = s.drc ∧ (lightMapOwner p s).1.wnc = s.wnc ∧ (lightMapOwner p s).1.bmn = s.bmn ∧
    (lightMapOwner p s).1.pba = s.pba ∧ (lightMapOwner p s).1.lif = s.lif ∧ (lightMapOwner p s).1.pst = s.pst := by
  unfold lightMapOwner; (repeat' split) <;> simp

@[simp] theorem lightLevelOwner_keeps (p : Payload) (s : State) :
    (lightLevelOwner p s).1.power = s.power ∧ (lightLevelOwner p s).1.now = s.now ∧ (lightLevelOwner p s).1.pending = s.pending ∧
    (lightLevelOwner p s).1.csc = s.csc ∧ (lightLevelOwner p s).1.smx = s.smx ∧ (lightLevelOwner p s).1.spg = s.spg ∧
    (lightLevelOwner p s).1.drc = s.drc ∧ (lightLevelOwner p s).1.wnc = s.wnc ∧ (lightLevelOwner p s).1.bmn = s.bmn ∧
    (lightLevelOwner p s).1.pba = s.pba ∧ (lightLevelOwner p s).1.lif = s.lif ∧ (lightLevelOwner p s).1.pst = s.pst := by
  unfold lightLevelOwner; split <;> simp

@[simp] theorem patternAllocOwner_keeps (p : Payload) (s : State) :
    (patternAllocOwner p s).1.power = s.power ∧ (patternAllocOwner p s).1.now = s.now ∧
    (patternAllocOwner p s).1.freeIndex = s.freeIndex ∧ (patternAllocOwner p s).1.pending = s.pending ∧
    (patternAllocOwner p s).1.csc = s.csc ∧ (patternAllocOwner p s).1.smx = s.smx ∧ (patternAllocOwner p s).1.spg = s.spg ∧
    (patternAllocOwner p s).1.drc = s.drc ∧ (patternAllocOwner p s).1.wnc = s.wnc ∧ (patternAllocOwner p s).1.lcu = s.lcu ∧
    (patternAllocOwner p s).1.bmn = s.bmn ∧ (patternAllocOwner p s).1.pba = s.pba ∧ (patternAllocOwner p s).1.lif = s.lif ∧
    (patternAllocOwner p s).1.pst = s.pst := by unfold patternAllocOwner; dsimp only; (repeat' split) <;> simp

@[simp] theorem patternStepRefusal_keeps (c : ResultCode) (p : Payload) (s : State) :
    (patternStepRefusal c p s).1.power = s.power ∧ (patternStepRefusal c p s).1.now = s.now ∧
    (patternStepRefusal c p s).1.pending = s.pending ∧ (patternStepRefusal c p s).1.cfg = s.cfg ∧
    (patternStepRefusal c p s).1.csc = s.csc ∧ (patternStepRefusal c p s).1.smx = s.smx ∧ (patternStepRefusal c p s).1.spg = s.spg
    ∧ (patternStepRefusal c p s).1.drc = s.drc ∧ (patternStepRefusal c p s).1.wnc = s.wnc ∧
    (patternStepRefusal c p s).1.lcu = s.lcu ∧ (patternStepRefusal c p s).1.bmn = s.bmn ∧ (patternStepRefusal c p s).1.pba = s.pba
    ∧ (patternStepRefusal c p s).1.lif = s.lif ∧ (patternStepRefusal c p s).1.pst = s.pst := by simp [patternStepRefusal]

@[simp] theorem patternStepOwner_keeps (p : Payload) (s : State) :
    (patternStepOwner p s).1.power = s.power ∧ (patternStepOwner p s).1.now = s.now ∧ (patternStepOwner p s).1.pending = s.pending
    ∧ (patternStepOwner p s).1.csc = s.csc ∧ (patternStepOwner p s).1.smx = s.smx ∧ (patternStepOwner p s).1.spg = s.spg ∧
    (patternStepOwner p s).1.drc = s.drc ∧ (patternStepOwner p s).1.wnc = s.wnc ∧ (patternStepOwner p s).1.lcu = s.lcu ∧
    (patternStepOwner p s).1.bmn = s.bmn ∧ (patternStepOwner p s).1.pba = s.pba ∧ (patternStepOwner p s).1.lif = s.lif ∧
    (patternStepOwner p s).1.pst = s.pst := by unfold patternStepOwner; dsimp only; (repeat' split) <;> simp

@[simp] theorem patternFreeOwner_keeps (p : Payload) (s : State) :
    (patternFreeOwner p s).1.power = s.power ∧ (patternFreeOwner p s).1.now = s.now ∧ (patternFreeOwner p s).1.pending = s.pending
    ∧ (patternFreeOwner p s).1.csc = s.csc ∧ (patternFreeOwner p s).1.smx = s.smx ∧ (patternFreeOwner p s).1.spg = s.spg ∧
    (patternFreeOwner p s).1.drc = s.drc ∧ (patternFreeOwner p s).1.wnc = s.wnc ∧ (patternFreeOwner p s).1.lcu = s.lcu ∧
    (patternFreeOwner p s).1.bmn = s.bmn ∧ (patternFreeOwner p s).1.pba = s.pba ∧ (patternFreeOwner p s).1.lif = s.lif ∧
    (patternFreeOwner p s).1.pst = s.pst := by unfold patternFreeOwner; dsimp only; (repeat' split) <;> simp

@[simp] theorem getPatternOwner_keeps (p : Payload) (s : State) :
    (getPatternOwner p s).1.power = s.power ∧ (getPatternOwner p s).1.now = s.now ∧ (getPatternOwner p s).1.pending = s.pending ∧
    (getPatternOwner p s).1.cfg = s.cfg ∧ (getPatternOwner p s).1.csc = s.csc ∧ (getPatternOwner p s).1.smx = s.smx ∧
    (getPatternOwner p s).1.spg = s.spg ∧ (getPatternOwner p s).1.drc = s.drc ∧ (getPatternOwner p s).1.wnc = s.wnc ∧
    (getPatternOwner p s).1.lcu = s.lcu ∧ (getPatternOwner p s).1.bmn = s.bmn ∧ (getPatternOwner p s).1.pba = s.pba ∧
    (getPatternOwner p s).1.lif = s.lif ∧ (getPatternOwner p s).1.pst = s.pst := by
  unfold getPatternOwner; dsimp only; (repeat' split) <;> simp

/-! ### Chassis -/

@[simp] theorem moveChassis_keeps (new : Chassis) (cause : Cause) (s : State) :
    (moveChassis new cause s).power = s.power ∧ (moveChassis new cause s).now = s.now ∧
    (moveChassis new cause s).freeIndex = s.freeIndex ∧ (moveChassis new cause s).pending = s.pending ∧
    (moveChassis new cause s).cfg = s.cfg ∧ (moveChassis new cause s).smx = s.smx ∧ (moveChassis new cause s).spg = s.spg ∧
    (moveChassis new cause s).drc = s.drc ∧ (moveChassis new cause s).wnc = s.wnc ∧ (moveChassis new cause s).lcu = s.lcu ∧
    (moveChassis new cause s).bmn = s.bmn ∧ (moveChassis new cause s).pba = s.pba ∧ (moveChassis new cause s).pst = s.pst := by
  simp [moveChassis]

@[simp] theorem clearMotion_keeps (s : State) :
    (clearMotion s).power = s.power ∧ (clearMotion s).now = s.now ∧ (clearMotion s).freeIndex = s.freeIndex ∧
    (clearMotion s).pending = s.pending ∧ (clearMotion s).cfg = s.cfg ∧ (clearMotion s).smx = s.smx ∧ (clearMotion s).spg = s.spg
    ∧ (clearMotion s).drc = s.drc ∧ (clearMotion s).wnc = s.wnc ∧ (clearMotion s).lcu = s.lcu ∧ (clearMotion s).bmn = s.bmn ∧
    (clearMotion s).pba = s.pba ∧ (clearMotion s).lif = s.lif ∧ (clearMotion s).pst = s.pst := by simp [clearMotion]

@[simp] theorem enterFailsafe_keeps (cause : Cause) (s : State) :
    (enterFailsafe cause s).power = s.power ∧ (enterFailsafe cause s).now = s.now ∧
    (enterFailsafe cause s).freeIndex = s.freeIndex ∧ (enterFailsafe cause s).pending = s.pending ∧
    (enterFailsafe cause s).cfg = s.cfg ∧ (enterFailsafe cause s).drc = s.drc ∧ (enterFailsafe cause s).lcu = s.lcu ∧
    (enterFailsafe cause s).bmn = s.bmn ∧ (enterFailsafe cause s).pba = s.pba ∧ (enterFailsafe cause s).pst = s.pst := by
  simp [enterFailsafe]

@[simp] theorem enterCutoff_keeps (s : State) :
    (enterCutoff s).power = s.power ∧ (enterCutoff s).now = s.now ∧ (enterCutoff s).freeIndex = s.freeIndex ∧
    (enterCutoff s).pending = s.pending ∧ (enterCutoff s).cfg = s.cfg ∧ (enterCutoff s).bmn = s.bmn ∧ (enterCutoff s).pba = s.pba
    ∧ (enterCutoff s).pst = s.pst := by unfold enterCutoff; split <;> simp

@[simp] theorem linkLost_keeps (cause : Cause) (s : State) :
    (linkLost cause s).power = s.power ∧ (linkLost cause s).now = s.now ∧ (linkLost cause s).freeIndex = s.freeIndex ∧
    (linkLost cause s).pending = s.pending ∧ (linkLost cause s).cfg = s.cfg ∧ (linkLost cause s).drc = s.drc ∧
    (linkLost cause s).lcu = s.lcu ∧ (linkLost cause s).bmn = s.bmn ∧ (linkLost cause s).pba = s.pba ∧
    (linkLost cause s).pst = s.pst := by unfold linkLost; split <;> simp

@[simp] theorem linkRegained_keeps (s : State) :
    (linkRegained s).power = s.power ∧ (linkRegained s).now = s.now ∧ (linkRegained s).freeIndex = s.freeIndex ∧
    (linkRegained s).pending = s.pending ∧ (linkRegained s).cfg = s.cfg ∧ (linkRegained s).smx = s.smx ∧
    (linkRegained s).spg = s.spg ∧ (linkRegained s).drc = s.drc ∧ (linkRegained s).wnc = s.wnc ∧ (linkRegained s).lcu = s.lcu ∧
    (linkRegained s).bmn = s.bmn ∧ (linkRegained s).pba = s.pba ∧ (linkRegained s).lif = s.lif ∧ (linkRegained s).pst = s.pst := by
  simp [linkRegained]

@[simp] theorem enterHold_keeps (s : State) :
    (enterHold s).power = s.power ∧ (enterHold s).now = s.now ∧ (enterHold s).freeIndex = s.freeIndex ∧
    (enterHold s).pending = s.pending ∧ (enterHold s).cfg = s.cfg ∧ (enterHold s).smx = s.smx ∧ (enterHold s).spg = s.spg ∧
    (enterHold s).lcu = s.lcu ∧ (enterHold s).bmn = s.bmn ∧ (enterHold s).pba = s.pba ∧ (enterHold s).pst = s.pst := by
  simp [enterHold]

@[simp] theorem resumeRun_keeps (s : State) :
    (resumeRun s).power = s.power ∧ (resumeRun s).now = s.now ∧ (resumeRun s).freeIndex = s.freeIndex ∧
    (resumeRun s).pending = s.pending ∧ (resumeRun s).cfg = s.cfg ∧ (resumeRun s).smx = s.smx ∧ (resumeRun s).spg = s.spg ∧
    (resumeRun s).drc = s.drc ∧ (resumeRun s).lcu = s.lcu ∧ (resumeRun s).bmn = s.bmn ∧ (resumeRun s).pba = s.pba ∧
    (resumeRun s).pst = s.pst := by simp [resumeRun]

@[simp] theorem writeSetpoint_keeps (p : Payload) (s : State) :
    (writeSetpoint p s).power = s.power ∧ (writeSetpoint p s).now = s.now ∧ (writeSetpoint p s).freeIndex = s.freeIndex ∧
    (writeSetpoint p s).pending = s.pending ∧ (writeSetpoint p s).cfg = s.cfg ∧ (writeSetpoint p s).smx = s.smx ∧
    (writeSetpoint p s).spg = s.spg ∧ (writeSetpoint p s).drc = s.drc ∧ (writeSetpoint p s).wnc = s.wnc ∧
    (writeSetpoint p s).lcu = s.lcu ∧ (writeSetpoint p s).bmn = s.bmn ∧ (writeSetpoint p s).pba = s.pba ∧
    (writeSetpoint p s).lif = s.lif ∧ (writeSetpoint p s).pst = s.pst := by simp [writeSetpoint]

@[simp] theorem setMotionOwner_keeps (p : Payload) (s : State) :
    (setMotionOwner p s).1.power = s.power ∧ (setMotionOwner p s).1.now = s.now ∧ (setMotionOwner p s).1.freeIndex = s.freeIndex ∧
    (setMotionOwner p s).1.pending = s.pending ∧ (setMotionOwner p s).1.cfg = s.cfg ∧ (setMotionOwner p s).1.smx = s.smx ∧
    (setMotionOwner p s).1.spg = s.spg ∧ (setMotionOwner p s).1.drc = s.drc ∧ (setMotionOwner p s).1.wnc = s.wnc ∧
    (setMotionOwner p s).1.lcu = s.lcu ∧ (setMotionOwner p s).1.bmn = s.bmn ∧ (setMotionOwner p s).1.pba = s.pba ∧
    (setMotionOwner p s).1.pst = s.pst := by unfold setMotionOwner; (repeat' split) <;> simp

@[simp] theorem holdOwner_keeps (s : State) :
    (holdOwner s).1.power = s.power ∧ (holdOwner s).1.now = s.now ∧ (holdOwner s).1.freeIndex = s.freeIndex ∧
    (holdOwner s).1.pending = s.pending ∧ (holdOwner s).1.cfg = s.cfg ∧ (holdOwner s).1.smx = s.smx ∧ (holdOwner s).1.spg = s.spg
    ∧ (holdOwner s).1.lcu = s.lcu ∧ (holdOwner s).1.bmn = s.bmn ∧ (holdOwner s).1.pba = s.pba ∧ (holdOwner s).1.pst = s.pst := by
  unfold holdOwner; split <;> simp

@[simp] theorem resumeOwner_keeps (s : State) :
    (resumeOwner s).1.power = s.power ∧ (resumeOwner s).1.now = s.now ∧ (resumeOwner s).1.freeIndex = s.freeIndex ∧
    (resumeOwner s).1.pending = s.pending ∧ (resumeOwner s).1.cfg = s.cfg ∧ (resumeOwner s).1.smx = s.smx ∧
    (resumeOwner s).1.spg = s.spg ∧ (resumeOwner s).1.drc = s.drc ∧ (resumeOwner s).1.lcu = s.lcu ∧ (resumeOwner s).1.bmn = s.bmn
    ∧ (resumeOwner s).1.pba = s.pba ∧ (resumeOwner s).1.pst = s.pst := by unfold resumeOwner; split <;> simp

/-! ### Budget -/

@[simp] theorem allocate_keeps (s : State) :
    (allocate s).power = s.power ∧ (allocate s).now = s.now ∧ (allocate s).freeIndex = s.freeIndex ∧
    (allocate s).pending = s.pending ∧ (allocate s).cfg = s.cfg ∧ (allocate s).csc = s.csc ∧ (allocate s).smx = s.smx ∧
    (allocate s).spg = s.spg ∧ (allocate s).drc = s.drc ∧ (allocate s).lcu = s.lcu ∧ (allocate s).bmn = s.bmn ∧
    (allocate s).lif = s.lif ∧ (allocate s).pst = s.pst := by simp [allocate]

@[simp] theorem followFloors_keeps (s : State) :
    (followFloors s).power = s.power ∧ (followFloors s).now = s.now ∧ (followFloors s).freeIndex = s.freeIndex ∧
    (followFloors s).pending = s.pending ∧ (followFloors s).cfg = s.cfg ∧ (followFloors s).csc = s.csc ∧
    (followFloors s).smx = s.smx ∧ (followFloors s).spg = s.spg ∧ (followFloors s).drc = s.drc ∧ (followFloors s).wnc = s.wnc ∧
    (followFloors s).lcu = s.lcu ∧ (followFloors s).bmn = s.bmn ∧ (followFloors s).lif = s.lif ∧ (followFloors s).pst = s.pst := by
  unfold followFloors; split <;> simp

@[simp] theorem budgetNoClass_keeps (c : ResultCode) (p : Payload) (s : State) :
    (budgetNoClass c p s).1.power = s.power ∧ (budgetNoClass c p s).1.now = s.now ∧ (budgetNoClass c p s).1.pending = s.pending ∧
    (budgetNoClass c p s).1.cfg = s.cfg ∧ (budgetNoClass c p s).1.csc = s.csc ∧ (budgetNoClass c p s).1.smx = s.smx ∧
    (budgetNoClass c p s).1.spg = s.spg ∧ (budgetNoClass c p s).1.drc = s.drc ∧ (budgetNoClass c p s).1.wnc = s.wnc ∧
    (budgetNoClass c p s).1.lcu = s.lcu ∧ (budgetNoClass c p s).1.bmn = s.bmn ∧ (budgetNoClass c p s).1.pba = s.pba ∧
    (budgetNoClass c p s).1.lif = s.lif ∧ (budgetNoClass c p s).1.pst = s.pst := by simp [budgetNoClass]

@[simp] theorem budgetClassOwner_keeps (p : Payload) (s : State) :
    (budgetClassOwner p s).1.power = s.power ∧ (budgetClassOwner p s).1.now = s.now ∧ (budgetClassOwner p s).1.pending = s.pending
    ∧ (budgetClassOwner p s).1.csc = s.csc ∧ (budgetClassOwner p s).1.smx = s.smx ∧ (budgetClassOwner p s).1.spg = s.spg ∧
    (budgetClassOwner p s).1.drc = s.drc ∧ (budgetClassOwner p s).1.wnc = s.wnc ∧ (budgetClassOwner p s).1.lcu = s.lcu ∧
    (budgetClassOwner p s).1.bmn = s.bmn ∧ (budgetClassOwner p s).1.lif = s.lif ∧ (budgetClassOwner p s).1.pst = s.pst := by
  unfold budgetClassOwner; dsimp only; (repeat' split) <;> simp

/-! ### Battery -/

@[simp] theorem reportStage_keeps (old : Stage) (s : State) :
    (reportStage old s).power = s.power ∧ (reportStage old s).now = s.now ∧ (reportStage old s).freeIndex = s.freeIndex ∧
    (reportStage old s).pending = s.pending ∧ (reportStage old s).cfg = s.cfg ∧ (reportStage old s).bmn = s.bmn ∧
    (reportStage old s).pba = s.pba ∧ (reportStage old s).pst = s.pst := by unfold reportStage; (repeat' split) <;> simp

@[simp] theorem sweepComplete_keeps (x : SweepSamples) (s : State) :
    (sweepComplete x s).power = s.power ∧ (sweepComplete x s).now = s.now ∧ (sweepComplete x s).freeIndex = s.freeIndex ∧
    (sweepComplete x s).pending = s.pending ∧ (sweepComplete x s).cfg = s.cfg ∧ (sweepComplete x s).pst = s.pst := by
  simp [sweepComplete]

@[simp] theorem releaseCutoff_keeps (s : State) :
    (releaseCutoff s).power = s.power ∧ (releaseCutoff s).now = s.now ∧ (releaseCutoff s).freeIndex = s.freeIndex ∧
    (releaseCutoff s).pending = s.pending ∧ (releaseCutoff s).cfg = s.cfg ∧ (releaseCutoff s).smx = s.smx ∧
    (releaseCutoff s).spg = s.spg ∧ (releaseCutoff s).drc = s.drc ∧ (releaseCutoff s).wnc = s.wnc ∧ (releaseCutoff s).pba = s.pba
    ∧ (releaseCutoff s).pst = s.pst := by simp [releaseCutoff]

@[simp] theorem cutoffReleaseOwner_keeps (s : State) :
    (cutoffReleaseOwner s).1.power = s.power ∧ (cutoffReleaseOwner s).1.now = s.now ∧
    (cutoffReleaseOwner s).1.freeIndex = s.freeIndex ∧ (cutoffReleaseOwner s).1.pending = s.pending ∧
    (cutoffReleaseOwner s).1.cfg = s.cfg ∧ (cutoffReleaseOwner s).1.smx = s.smx ∧ (cutoffReleaseOwner s).1.spg = s.spg ∧
    (cutoffReleaseOwner s).1.drc = s.drc ∧ (cutoffReleaseOwner s).1.wnc = s.wnc ∧ (cutoffReleaseOwner s).1.pba = s.pba ∧
    (cutoffReleaseOwner s).1.pst = s.pst := by unfold cutoffReleaseOwner; (repeat' split) <;> simp

@[simp] theorem setLevels_keeps (l : BatteryLevels) (s : State) :
    (setLevels l s).power = s.power ∧ (setLevels l s).now = s.now ∧ (setLevels l s).freeIndex = s.freeIndex ∧
    (setLevels l s).pending = s.pending ∧ (setLevels l s).csc = s.csc ∧ (setLevels l s).smx = s.smx ∧ (setLevels l s).spg = s.spg
    ∧ (setLevels l s).drc = s.drc ∧ (setLevels l s).wnc = s.wnc ∧ (setLevels l s).lcu = s.lcu ∧ (setLevels l s).pba = s.pba ∧
    (setLevels l s).lif = s.lif ∧ (setLevels l s).pst = s.pst := by simp [setLevels]

@[simp] theorem batteryLevelsOwner_keeps (strap : PinLevel) (p : Payload) (s : State) :
    (batteryLevelsOwner strap p s).1.power = s.power ∧ (batteryLevelsOwner strap p s).1.now = s.now ∧
    (batteryLevelsOwner strap p s).1.freeIndex = s.freeIndex ∧ (batteryLevelsOwner strap p s).1.pending = s.pending ∧
    (batteryLevelsOwner strap p s).1.csc = s.csc ∧ (batteryLevelsOwner strap p s).1.smx = s.smx ∧
    (batteryLevelsOwner strap p s).1.spg = s.spg ∧ (batteryLevelsOwner strap p s).1.drc = s.drc ∧
    (batteryLevelsOwner strap p s).1.wnc = s.wnc ∧ (batteryLevelsOwner strap p s).1.lcu = s.lcu ∧
    (batteryLevelsOwner strap p s).1.pba = s.pba ∧ (batteryLevelsOwner strap p s).1.lif = s.lif ∧
    (batteryLevelsOwner strap p s).1.pst = s.pst := by unfold batteryLevelsOwner; dsimp only; (repeat' split) <;> simp

@[simp] theorem setLockFlag_keeps (b : Bool) (s : State) :
    (setLockFlag b s).power = s.power ∧ (setLockFlag b s).now = s.now ∧ (setLockFlag b s).freeIndex = s.freeIndex ∧
    (setLockFlag b s).pending = s.pending ∧ (setLockFlag b s).csc = s.csc ∧ (setLockFlag b s).smx = s.smx ∧
    (setLockFlag b s).spg = s.spg ∧ (setLockFlag b s).drc = s.drc ∧ (setLockFlag b s).wnc = s.wnc ∧ (setLockFlag b s).lcu = s.lcu
    ∧ (setLockFlag b s).bmn = s.bmn ∧ (setLockFlag b s).pba = s.pba ∧ (setLockFlag b s).lif = s.lif ∧
    (setLockFlag b s).pst = s.pst := by simp [setLockFlag]

@[simp] theorem protLockOwner_keeps (strap : PinLevel) (p : Payload) (s : State) :
    (protLockOwner strap p s).1.power = s.power ∧ (protLockOwner strap p s).1.now = s.now ∧
    (protLockOwner strap p s).1.freeIndex = s.freeIndex ∧ (protLockOwner strap p s).1.pending = s.pending ∧
    (protLockOwner strap p s).1.csc = s.csc ∧ (protLockOwner strap p s).1.smx = s.smx ∧ (protLockOwner strap p s).1.spg = s.spg ∧
    (protLockOwner strap p s).1.drc = s.drc ∧ (protLockOwner strap p s).1.wnc = s.wnc ∧ (protLockOwner strap p s).1.lcu = s.lcu ∧
    (protLockOwner strap p s).1.bmn = s.bmn ∧ (protLockOwner strap p s).1.pba = s.pba ∧ (protLockOwner strap p s).1.lif = s.lif ∧
    (protLockOwner strap p s).1.pst = s.pst := by unfold protLockOwner; dsimp only; (repeat' split) <;> simp

/-! ### Params -/

@[simp] theorem restartTelemetry_keeps (s : State) :
    (restartTelemetry s).power = s.power ∧ (restartTelemetry s).now = s.now ∧ (restartTelemetry s).freeIndex = s.freeIndex ∧
    (restartTelemetry s).pending = s.pending ∧ (restartTelemetry s).cfg = s.cfg ∧ (restartTelemetry s).csc = s.csc ∧
    (restartTelemetry s).smx = s.smx ∧ (restartTelemetry s).spg = s.spg ∧ (restartTelemetry s).drc = s.drc ∧
    (restartTelemetry s).wnc = s.wnc ∧ (restartTelemetry s).lcu = s.lcu ∧ (restartTelemetry s).bmn = s.bmn ∧
    (restartTelemetry s).pba = s.pba ∧ (restartTelemetry s).pst = s.pst := by simp [restartTelemetry]

@[simp] theorem setParam_keeps (i : ParamId) (v : Nat) (s : State) :
    (setParam i v s).power = s.power ∧ (setParam i v s).now = s.now ∧ (setParam i v s).freeIndex = s.freeIndex ∧
    (setParam i v s).pending = s.pending ∧ (setParam i v s).csc = s.csc ∧ (setParam i v s).smx = s.smx ∧
    (setParam i v s).spg = s.spg ∧ (setParam i v s).drc = s.drc ∧ (setParam i v s).wnc = s.wnc ∧ (setParam i v s).lcu = s.lcu ∧
    (setParam i v s).bmn = s.bmn ∧ (setParam i v s).pba = s.pba ∧ (setParam i v s).pst = s.pst := by
  unfold setParam; split <;> simp

@[simp] theorem setListed_keeps (strap : PinLevel) (n : Nat) (i : ParamId) (asked : Int) (s : State) :
    (setListed strap n i asked s).1.power = s.power ∧ (setListed strap n i asked s).1.now = s.now ∧
    (setListed strap n i asked s).1.freeIndex = s.freeIndex ∧ (setListed strap n i asked s).1.pending = s.pending ∧
    (setListed strap n i asked s).1.csc = s.csc ∧ (setListed strap n i asked s).1.smx = s.smx ∧
    (setListed strap n i asked s).1.spg = s.spg ∧ (setListed strap n i asked s).1.drc = s.drc ∧
    (setListed strap n i asked s).1.wnc = s.wnc ∧ (setListed strap n i asked s).1.lcu = s.lcu ∧
    (setListed strap n i asked s).1.bmn = s.bmn ∧ (setListed strap n i asked s).1.pba = s.pba ∧
    (setListed strap n i asked s).1.pst = s.pst := by unfold setListed; dsimp only; (repeat' split) <;> simp

@[simp] theorem setParamOwner_keeps (strap : PinLevel) (p : Payload) (s : State) :
    (setParamOwner strap p s).1.power = s.power ∧ (setParamOwner strap p s).1.now = s.now ∧
    (setParamOwner strap p s).1.pending = s.pending ∧ (setParamOwner strap p s).1.csc = s.csc ∧
    (setParamOwner strap p s).1.smx = s.smx ∧ (setParamOwner strap p s).1.spg = s.spg ∧ (setParamOwner strap p s).1.drc = s.drc ∧
    (setParamOwner strap p s).1.wnc = s.wnc ∧ (setParamOwner strap p s).1.lcu = s.lcu ∧ (setParamOwner strap p s).1.bmn = s.bmn ∧
    (setParamOwner strap p s).1.pba = s.pba ∧ (setParamOwner strap p s).1.pst = s.pst := by
  unfold setParamOwner; dsimp only; (repeat' split) <;> simp

@[simp] theorem getParamOwner_keeps (p : Payload) (s : State) :
    (getParamOwner p s).1.power = s.power ∧ (getParamOwner p s).1.now = s.now ∧ (getParamOwner p s).1.freeIndex = s.freeIndex ∧
    (getParamOwner p s).1.pending = s.pending ∧ (getParamOwner p s).1.cfg = s.cfg ∧ (getParamOwner p s).1.csc = s.csc ∧
    (getParamOwner p s).1.smx = s.smx ∧ (getParamOwner p s).1.spg = s.spg ∧ (getParamOwner p s).1.drc = s.drc ∧
    (getParamOwner p s).1.wnc = s.wnc ∧ (getParamOwner p s).1.lcu = s.lcu ∧ (getParamOwner p s).1.bmn = s.bmn ∧
    (getParamOwner p s).1.pba = s.pba ∧ (getParamOwner p s).1.lif = s.lif ∧ (getParamOwner p s).1.pst = s.pst := by
  unfold getParamOwner; split <;> simp

/-! ### Profile -/

@[simp] theorem profileStoreOwner_keeps (s : State) :
    (profileStoreOwner s).1.power = s.power ∧ (profileStoreOwner s).1.now = s.now ∧
    (profileStoreOwner s).1.freeIndex = s.freeIndex ∧ (profileStoreOwner s).1.pending = s.pending ∧
    (profileStoreOwner s).1.cfg = s.cfg ∧ (profileStoreOwner s).1.csc = s.csc ∧ (profileStoreOwner s).1.smx = s.smx ∧
    (profileStoreOwner s).1.spg = s.spg ∧ (profileStoreOwner s).1.drc = s.drc ∧ (profileStoreOwner s).1.wnc = s.wnc ∧
    (profileStoreOwner s).1.lcu = s.lcu ∧ (profileStoreOwner s).1.bmn = s.bmn ∧ (profileStoreOwner s).1.pba = s.pba ∧
    (profileStoreOwner s).1.lif = s.lif := by unfold profileStoreOwner; (repeat' split) <;> simp

@[simp] theorem completeStore_keeps (ok : Bool) (s : State) :
    (completeStore ok s).power = s.power ∧ (completeStore ok s).now = s.now ∧ (completeStore ok s).freeIndex = s.freeIndex ∧
    (completeStore ok s).pending = s.pending ∧ (completeStore ok s).cfg = s.cfg ∧ (completeStore ok s).csc = s.csc ∧
    (completeStore ok s).smx = s.smx ∧ (completeStore ok s).spg = s.spg ∧ (completeStore ok s).drc = s.drc ∧
    (completeStore ok s).wnc = s.wnc ∧ (completeStore ok s).lcu = s.lcu ∧ (completeStore ok s).bmn = s.bmn ∧
    (completeStore ok s).pba = s.pba := by unfold completeStore; split <;> simp

@[simp] theorem restore_keeps (strap : PinLevel) (new : WorkingConfig) (s : State) :
    (restore strap new s).power = s.power ∧ (restore strap new s).now = s.now ∧ (restore strap new s).freeIndex = s.freeIndex ∧
    (restore strap new s).pending = s.pending ∧ (restore strap new s).csc = s.csc ∧ (restore strap new s).drc = s.drc ∧
    (restore strap new s).pst = s.pst := by simp [restore]

@[simp] theorem restoreRefusal_keeps (strap : PinLevel) (c : ResultCode) (s : State) :
    (restoreRefusal strap c s).1.power = s.power ∧ (restoreRefusal strap c s).1.now = s.now ∧
    (restoreRefusal strap c s).1.pending = s.pending ∧ (restoreRefusal strap c s).1.cfg = s.cfg ∧
    (restoreRefusal strap c s).1.csc = s.csc ∧ (restoreRefusal strap c s).1.smx = s.smx ∧ (restoreRefusal strap c s).1.spg = s.spg
    ∧ (restoreRefusal strap c s).1.drc = s.drc ∧ (restoreRefusal strap c s).1.wnc = s.wnc ∧
    (restoreRefusal strap c s).1.lcu = s.lcu ∧ (restoreRefusal strap c s).1.bmn = s.bmn ∧ (restoreRefusal strap c s).1.pba = s.pba
    ∧ (restoreRefusal strap c s).1.lif = s.lif ∧ (restoreRefusal strap c s).1.pst = s.pst := by
  unfold restoreRefusal; split <;> simp

@[simp] theorem restoreAnswer_keeps (strap : PinLevel) (new : WorkingConfig) (s : State) :
    (restoreAnswer strap new s).1.power = s.power ∧ (restoreAnswer strap new s).1.now = s.now ∧
    (restoreAnswer strap new s).1.freeIndex = s.freeIndex ∧ (restoreAnswer strap new s).1.pending = s.pending ∧
    (restoreAnswer strap new s).1.csc = s.csc ∧ (restoreAnswer strap new s).1.drc = s.drc ∧
    (restoreAnswer strap new s).1.pst = s.pst := by simp [restoreAnswer]

@[simp] theorem profileRestoreOwner_keeps (strap : PinLevel) (s : State) :
    (profileRestoreOwner strap s).1.power = s.power ∧ (profileRestoreOwner strap s).1.now = s.now ∧
    (profileRestoreOwner strap s).1.pending = s.pending ∧ (profileRestoreOwner strap s).1.csc = s.csc ∧
    (profileRestoreOwner strap s).1.drc = s.drc ∧ (profileRestoreOwner strap s).1.pst = s.pst := by
  unfold profileRestoreOwner; (repeat' split) <;> simp

@[simp] theorem profileDefaultsOwner_keeps (strap : PinLevel) (s : State) :
    (profileDefaultsOwner strap s).1.power = s.power ∧ (profileDefaultsOwner strap s).1.now = s.now ∧
    (profileDefaultsOwner strap s).1.pending = s.pending ∧ (profileDefaultsOwner strap s).1.csc = s.csc ∧
    (profileDefaultsOwner strap s).1.drc = s.drc ∧ (profileDefaultsOwner strap s).1.pst = s.pst := by
  unfold profileDefaultsOwner; (repeat' split) <;> simp

@[simp] theorem linkUnitReset_keeps (s : State) :
    (linkUnitReset s).power = s.power ∧ (linkUnitReset s).now = s.now ∧ (linkUnitReset s).freeIndex = s.freeIndex ∧
    (linkUnitReset s).pending = s.pending ∧ (linkUnitReset s).cfg = s.cfg ∧ (linkUnitReset s).csc = s.csc ∧
    (linkUnitReset s).smx = s.smx ∧ (linkUnitReset s).spg = s.spg ∧ (linkUnitReset s).drc = s.drc ∧ (linkUnitReset s).wnc = s.wnc
    ∧ (linkUnitReset s).lcu = s.lcu ∧ (linkUnitReset s).bmn = s.bmn ∧ (linkUnitReset s).pba = s.pba ∧
    (linkUnitReset s).pst = s.pst := by simp [linkUnitReset]

@[simp] theorem resetUnit_keeps (u : ResetUnit) (s : State) :
    (resetUnit u s).power = s.power ∧ (resetUnit u s).now = s.now ∧ (resetUnit u s).freeIndex = s.freeIndex ∧
    (resetUnit u s).pending = s.pending ∧ (resetUnit u s).cfg = s.cfg ∧ (resetUnit u s).csc = s.csc ∧ (resetUnit u s).pba = s.pba
    ∧ (resetUnit u s).pst = s.pst := by unfold resetUnit; split <;> simp

@[simp] theorem unitResetOwner_keeps (u : ResetUnit) (p : Payload) (s : State) :
    (unitResetOwner u p s).1.power = s.power ∧ (unitResetOwner u p s).1.now = s.now ∧
    (unitResetOwner u p s).1.freeIndex = s.freeIndex ∧ (unitResetOwner u p s).1.pending = s.pending ∧
    (unitResetOwner u p s).1.cfg = s.cfg ∧ (unitResetOwner u p s).1.csc = s.csc ∧ (unitResetOwner u p s).1.pba = s.pba ∧
    (unitResetOwner u p s).1.pst = s.pst := by unfold unitResetOwner; dsimp only; (repeat' split) <;> simp

/-! ### Link -/

@[simp] theorem noteGoodFrame_keeps (s : State) :
    (noteGoodFrame s).power = s.power ∧ (noteGoodFrame s).now = s.now ∧ (noteGoodFrame s).freeIndex = s.freeIndex ∧
    (noteGoodFrame s).pending = s.pending ∧ (noteGoodFrame s).cfg = s.cfg ∧ (noteGoodFrame s).smx = s.smx ∧
    (noteGoodFrame s).spg = s.spg ∧ (noteGoodFrame s).drc = s.drc ∧ (noteGoodFrame s).wnc = s.wnc ∧ (noteGoodFrame s).lcu = s.lcu
    ∧ (noteGoodFrame s).bmn = s.bmn ∧ (noteGoodFrame s).pba = s.pba ∧ (noteGoodFrame s).pst = s.pst := by
  unfold noteGoodFrame; split <;> simp

@[simp] theorem queueFrame_keeps (f : RxFrame) (s : State) :
    (queueFrame f s).power = s.power ∧ (queueFrame f s).now = s.now ∧ (queueFrame f s).freeIndex = s.freeIndex ∧
    (queueFrame f s).pending = s.pending ∧ (queueFrame f s).cfg = s.cfg ∧ (queueFrame f s).csc = s.csc ∧
    (queueFrame f s).smx = s.smx ∧ (queueFrame f s).spg = s.spg ∧ (queueFrame f s).drc = s.drc ∧ (queueFrame f s).wnc = s.wnc ∧
    (queueFrame f s).lcu = s.lcu ∧ (queueFrame f s).bmn = s.bmn ∧ (queueFrame f s).pba = s.pba ∧ (queueFrame f s).pst = s.pst := by
  unfold queueFrame; split <;> simp

@[simp] theorem finishFrame_keeps (e : RxEvent) (s : State) :
    (finishFrame e s).power = s.power ∧ (finishFrame e s).now = s.now ∧ (finishFrame e s).freeIndex = s.freeIndex ∧
    (finishFrame e s).pending = s.pending ∧ (finishFrame e s).cfg = s.cfg ∧ (finishFrame e s).smx = s.smx ∧
    (finishFrame e s).spg = s.spg ∧ (finishFrame e s).drc = s.drc ∧ (finishFrame e s).wnc = s.wnc ∧ (finishFrame e s).lcu = s.lcu
    ∧ (finishFrame e s).bmn = s.bmn ∧ (finishFrame e s).pba = s.pba ∧ (finishFrame e s).pst = s.pst := by
  unfold finishFrame; split <;> simp

@[simp] theorem countNoise_keeps (noisy : Bool) (s : State) :
    (countNoise noisy s).power = s.power ∧ (countNoise noisy s).now = s.now ∧ (countNoise noisy s).freeIndex = s.freeIndex ∧
    (countNoise noisy s).pending = s.pending ∧ (countNoise noisy s).cfg = s.cfg ∧ (countNoise noisy s).csc = s.csc ∧
    (countNoise noisy s).smx = s.smx ∧ (countNoise noisy s).spg = s.spg ∧ (countNoise noisy s).drc = s.drc ∧
    (countNoise noisy s).wnc = s.wnc ∧ (countNoise noisy s).lcu = s.lcu ∧ (countNoise noisy s).bmn = s.bmn ∧
    (countNoise noisy s).pba = s.pba ∧ (countNoise noisy s).pst = s.pst := by unfold countNoise; split <;> simp

@[simp] theorem framingError_keeps (s : State) :
    (framingError s).power = s.power ∧ (framingError s).now = s.now ∧ (framingError s).freeIndex = s.freeIndex ∧
    (framingError s).pending = s.pending ∧ (framingError s).cfg = s.cfg ∧ (framingError s).csc = s.csc ∧
    (framingError s).smx = s.smx ∧ (framingError s).spg = s.spg ∧ (framingError s).drc = s.drc ∧ (framingError s).wnc = s.wnc ∧
    (framingError s).lcu = s.lcu ∧ (framingError s).bmn = s.bmn ∧ (framingError s).pba = s.pba ∧ (framingError s).pst = s.pst := by
  simp [framingError]

@[simp] theorem receiveByte_keeps (b : Byte) (s : State) :
    (receiveByte b s).power = s.power ∧ (receiveByte b s).now = s.now ∧ (receiveByte b s).freeIndex = s.freeIndex ∧
    (receiveByte b s).pending = s.pending ∧ (receiveByte b s).cfg = s.cfg ∧ (receiveByte b s).smx = s.smx ∧
    (receiveByte b s).spg = s.spg ∧ (receiveByte b s).drc = s.drc ∧ (receiveByte b s).wnc = s.wnc ∧ (receiveByte b s).lcu = s.lcu
    ∧ (receiveByte b s).bmn = s.bmn ∧ (receiveByte b s).pba = s.pba ∧ (receiveByte b s).pst = s.pst := by simp [receiveByte]

@[simp] theorem falseStart_keeps (s : State) :
    (falseStart s).power = s.power ∧ (falseStart s).now = s.now ∧ (falseStart s).freeIndex = s.freeIndex ∧
    (falseStart s).pending = s.pending ∧ (falseStart s).cfg = s.cfg ∧ (falseStart s).csc = s.csc ∧ (falseStart s).smx = s.smx ∧
    (falseStart s).spg = s.spg ∧ (falseStart s).drc = s.drc ∧ (falseStart s).wnc = s.wnc ∧ (falseStart s).lcu = s.lcu ∧
    (falseStart s).bmn = s.bmn ∧ (falseStart s).pba = s.pba ∧ (falseStart s).pst = s.pst := by simp [falseStart]

@[simp] theorem receiveChar_keeps (c : UartChar) (s : State) :
    (receiveChar c s).power = s.power ∧ (receiveChar c s).now = s.now ∧ (receiveChar c s).freeIndex = s.freeIndex ∧
    (receiveChar c s).pending = s.pending ∧ (receiveChar c s).cfg = s.cfg ∧ (receiveChar c s).smx = s.smx ∧
    (receiveChar c s).spg = s.spg ∧ (receiveChar c s).drc = s.drc ∧ (receiveChar c s).wnc = s.wnc ∧ (receiveChar c s).lcu = s.lcu
    ∧ (receiveChar c s).bmn = s.bmn ∧ (receiveChar c s).pba = s.pba ∧ (receiveChar c s).pst = s.pst := by
  unfold receiveChar; (repeat' split) <;> simp

@[simp] theorem gapDiscard_keeps (s : State) :
    (gapDiscard s).power = s.power ∧ (gapDiscard s).now = s.now ∧ (gapDiscard s).freeIndex = s.freeIndex ∧
    (gapDiscard s).pending = s.pending ∧ (gapDiscard s).cfg = s.cfg ∧ (gapDiscard s).csc = s.csc ∧ (gapDiscard s).smx = s.smx ∧
    (gapDiscard s).spg = s.spg ∧ (gapDiscard s).drc = s.drc ∧ (gapDiscard s).wnc = s.wnc ∧ (gapDiscard s).lcu = s.lcu ∧
    (gapDiscard s).bmn = s.bmn ∧ (gapDiscard s).pba = s.pba ∧ (gapDiscard s).pst = s.pst := by simp [gapDiscard]

@[simp] theorem lineBreak_keeps (s : State) :
    (lineBreak s).power = s.power ∧ (lineBreak s).now = s.now ∧ (lineBreak s).freeIndex = s.freeIndex ∧
    (lineBreak s).pending = s.pending ∧ (lineBreak s).cfg = s.cfg ∧ (lineBreak s).drc = s.drc ∧ (lineBreak s).lcu = s.lcu ∧
    (lineBreak s).bmn = s.bmn ∧ (lineBreak s).pba = s.pba ∧ (lineBreak s).pst = s.pst := by simp [lineBreak]

@[simp] theorem linkTimerExpires_keeps (s : State) :
    (linkTimerExpires s).power = s.power ∧ (linkTimerExpires s).now = s.now ∧ (linkTimerExpires s).freeIndex = s.freeIndex ∧
    (linkTimerExpires s).pending = s.pending ∧ (linkTimerExpires s).cfg = s.cfg ∧ (linkTimerExpires s).drc = s.drc ∧
    (linkTimerExpires s).lcu = s.lcu ∧ (linkTimerExpires s).bmn = s.bmn ∧ (linkTimerExpires s).pba = s.pba ∧
    (linkTimerExpires s).pst = s.pst := by simp [linkTimerExpires]

@[simp] theorem startTransmission_keeps (s : State) :
    (startTransmission s).power = s.power ∧ (startTransmission s).now = s.now ∧ (startTransmission s).freeIndex = s.freeIndex ∧
    (startTransmission s).pending = s.pending ∧ (startTransmission s).cfg = s.cfg ∧ (startTransmission s).csc = s.csc ∧
    (startTransmission s).smx = s.smx ∧ (startTransmission s).spg = s.spg ∧ (startTransmission s).drc = s.drc ∧
    (startTransmission s).wnc = s.wnc ∧ (startTransmission s).lcu = s.lcu ∧ (startTransmission s).bmn = s.bmn ∧
    (startTransmission s).pba = s.pba ∧ (startTransmission s).pst = s.pst := by simp [startTransmission]

@[simp] theorem frameSent_keeps (s : State) :
    (frameSent s).power = s.power ∧ (frameSent s).now = s.now ∧ (frameSent s).freeIndex = s.freeIndex ∧
    (frameSent s).pending = s.pending ∧ (frameSent s).cfg = s.cfg ∧ (frameSent s).csc = s.csc ∧ (frameSent s).smx = s.smx ∧
    (frameSent s).spg = s.spg ∧ (frameSent s).drc = s.drc ∧ (frameSent s).wnc = s.wnc ∧ (frameSent s).lcu = s.lcu ∧
    (frameSent s).bmn = s.bmn ∧ (frameSent s).pba = s.pba ∧ (frameSent s).pst = s.pst := by
  unfold frameSent; (repeat' split) <;> simp

@[simp] theorem formTelemetry_keeps (s : State) :
    (formTelemetry s).power = s.power ∧ (formTelemetry s).now = s.now ∧ (formTelemetry s).freeIndex = s.freeIndex ∧
    (formTelemetry s).pending = s.pending ∧ (formTelemetry s).cfg = s.cfg ∧ (formTelemetry s).csc = s.csc ∧
    (formTelemetry s).smx = s.smx ∧ (formTelemetry s).spg = s.spg ∧ (formTelemetry s).drc = s.drc ∧ (formTelemetry s).wnc = s.wnc
    ∧ (formTelemetry s).lcu = s.lcu ∧ (formTelemetry s).bmn = s.bmn ∧ (formTelemetry s).pba = s.pba ∧
    (formTelemetry s).pst = s.pst := by simp [formTelemetry]

@[simp] theorem getLinkCountsOwner_keeps (p : Payload) (s : State) :
    (getLinkCountsOwner p s).1.power = s.power ∧ (getLinkCountsOwner p s).1.now = s.now ∧
    (getLinkCountsOwner p s).1.freeIndex = s.freeIndex ∧ (getLinkCountsOwner p s).1.pending = s.pending ∧
    (getLinkCountsOwner p s).1.cfg = s.cfg ∧ (getLinkCountsOwner p s).1.csc = s.csc ∧ (getLinkCountsOwner p s).1.smx = s.smx ∧
    (getLinkCountsOwner p s).1.spg = s.spg ∧ (getLinkCountsOwner p s).1.drc = s.drc ∧ (getLinkCountsOwner p s).1.wnc = s.wnc ∧
    (getLinkCountsOwner p s).1.lcu = s.lcu ∧ (getLinkCountsOwner p s).1.bmn = s.bmn ∧ (getLinkCountsOwner p s).1.pba = s.pba ∧
    (getLinkCountsOwner p s).1.pst = s.pst := by unfold getLinkCountsOwner; dsimp only; (repeat' split) <;> simp

@[simp] theorem takingUnknown_keeps (ty : Byte) (p : Payload) (s : State) :
    (takingUnknown ty p s).power = s.power ∧ (takingUnknown ty p s).now = s.now ∧ (takingUnknown ty p s).freeIndex = s.freeIndex ∧
    (takingUnknown ty p s).pending = s.pending ∧ (takingUnknown ty p s).cfg = s.cfg ∧ (takingUnknown ty p s).csc = s.csc ∧
    (takingUnknown ty p s).smx = s.smx ∧ (takingUnknown ty p s).spg = s.spg ∧ (takingUnknown ty p s).drc = s.drc ∧
    (takingUnknown ty p s).wnc = s.wnc ∧ (takingUnknown ty p s).lcu = s.lcu ∧ (takingUnknown ty p s).bmn = s.bmn ∧
    (takingUnknown ty p s).pba = s.pba ∧ (takingUnknown ty p s).pst = s.pst := by unfold takingUnknown; split <;> simp

end Sys2Proof.Machine
end

