-- ==== Sys2Proof/Laws/Effects.lean ====
section
/-! SUPPORT. What the shared operations do: bounds of the arithmetic, the parts of the state an operation writes, and the
properties that a taking or an event keeps when its work keeps them. -/

namespace Sys2Proof.Machine

/-! ## Arithmetic -/

/-- A clamped value lies in its range. -/
theorem clampInt_mem {lo hi : Int} (v : Int) (h : lo ≤ hi) : lo ≤ clampInt lo hi v ∧ clampInt lo hi v ≤ hi := by
  unfold clampInt; omega

/-- A value in the range is kept. -/
theorem clampInt_of_mem {lo hi v : Int} (h1 : lo ≤ v) (h2 : v ≤ hi) : clampInt lo hi v = v := by
  unfold clampInt; omega

/-- A count never passes its maximum. -/
theorem countUp_le (top n : Nat) : countUp top n ≤ top := by unfold countUp; omega

/-- A capped output is within the cap. -/
theorem capOutput_natAbs_le (cap : Nat) (o : Int) : (capOutput cap o).natAbs ≤ cap := by
  unfold capOutput clampInt; omega

/-- A cap stays within 0 to 1000. -/
theorem foldCap_le (cap current grant : Nat) (h : cap ≤ 1000) : foldCap cap current grant ≤ 1000 := by
  unfold foldCap; split
  · omega
  · split <;> omega

/-- The winch duty moves by at most 5 and toward its target. -/
theorem slewDuty_eq (duty target : Int) : slewDuty duty target = max (duty - 5) (min (duty + 5) target) := by
  unfold slewDuty; repeat' split
  all_goals omega

/-- A pulse moves toward its target by at most the effective slew. -/
theorem slewToward_eq (x target : Int) (step : Nat) : slewToward x target step = max (x - step) (min (x + step) target) := by
  unfold slewToward; repeat' split
  all_goals omega

/-- An emitted width and the carry after it make up the pulse and the carry before it. -/
theorem emission_eq {p a : Int} (hp : 0 ≤ p) (ha : 0 ≤ a) (hb : a < 8) :
    8 * (emission p a).1 + (emission p a).2 = p + a ∧ 0 ≤ (emission p a).2 ∧ (emission p a).2 < 8 := by
  have h : Int.tdiv p 8 = p / 8 := Int.tdiv_eq_ediv_of_nonneg hp
  unfold emission; rw [h]; dsimp only; split <;> constructor <;> omega

/-- At most three trips are kept. -/
theorem pushTrip_length_le (hist : List Clock) (t : Clock) (h : hist.length ≤ 3) : (pushTrip hist t).length ≤ 3 := by
  unfold pushTrip; split
  · simp; omega
  · simp; omega

/-! ## Payload codes -/

/-- A light channel code names the channel of its value. -/
theorem lightOf_eq_some {n : Nat} {k : Fin 8} : lightOf n = some k ↔ k.val = n := by
  unfold lightOf; split
  · rw [Option.some.injEq, Fin.ext_iff]; exact eq_comm
  · simp; omega

/-- A pattern number names the pattern of its value. -/
theorem patternOf_eq_some {n : Nat} {q : Fin 16} : patternOf n = some q ↔ q.val = n := by
  unfold patternOf; split
  · rw [Option.some.injEq, Fin.ext_iff]; exact eq_comm
  · simp; omega

/-! ## Channels of a block -/

@[simp] theorem setChan_chan_same (d : Drc) (ch : DriveCh) (c : DriveChan) : (d.setChan ch c).chan ch = c := by cases ch <;> rfl

/-- The other drive channel is kept. -/
theorem setChan_chan_other (d : Drc) {ch ch' : DriveCh} (c : DriveChan) (h : ch' ≠ ch) : (d.setChan ch c).chan ch' = d.chan ch' := by
  cases ch <;> cases ch' <;> first | rfl | exact absurd rfl h

@[simp] theorem setChan_clock (d : Drc) (ch : DriveCh) (c : DriveChan) : (d.setChan ch c).clock = d.clock := by cases ch <;> rfl

@[simp] theorem setChan_setChan (d : Drc) (ch : DriveCh) (c c' : DriveChan) : (d.setChan ch c).setChan ch c' = d.setChan ch c' := by
  cases ch <;> rfl

@[simp] theorem setDrive_drc (ch : DriveCh) (c : DriveChan) (s : State) : (setDrive ch c s).drc = s.drc.setChan ch c := rfl

/-! ## What an operation writes -/

@[simp] theorem postReport_lif (f : TxFrame) (s : State) : (postReport f s).lif = posted f s.lif := by rw [postReport_eq]; rfl

@[simp] theorem endOp_wnc (r : WinchResult) (st : WinchState) (s : State) :
    (endOp r st s).wnc = { s.wnc.rest st with last := r } := by simp [endOp]

@[simp] theorem endOp_lif (r : WinchResult) (st : WinchState) (s : State) :
    (endOp r st s).lif = posted (winchEndReport r s) s.lif := by simp [endOp]

/-- The operation ends with a report if there is one; the winch is BRAKED either way. -/
theorem endAnyOp_cases (r : WinchResult) (s : State) :
    (s.wnc.hasOp = true ∧ endAnyOp r s = endOp r .braked s) ∨
      (s.wnc.hasOp = false ∧ endAnyOp r s = s.withWnc (s.wnc.rest .braked)) := by
  unfold endAnyOp; split
  · exact .inl ⟨‹_›, rfl⟩
  · rename_i h
    exact .inr ⟨by simpa using h, rfl⟩

@[simp] theorem endAnyOp_state (r : WinchResult) (s : State) : (endAnyOp r s).wnc.state = .braked := by
  unfold endAnyOp; split <;> simp [Wnc.rest]

@[simp] theorem endAnyOp_duty (r : WinchResult) (s : State) : (endAnyOp r s).wnc.duty = 0 := by
  unfold endAnyOp; split <;> simp [Wnc.rest]

/-- The limit check ends the operation LIMIT, stops a duty that runs against the direction, or changes nothing. -/
theorem limitCheck_cases (s : State) :
    limitCheck s = s ∨
      (s.wnc.valid = true ∧ s.wnc.state.driving = true ∧
        (limitCheck s = endOp .limit .braked s ∨ limitCheck s = s.withWnc { s.wnc with duty := 0 })) := by
  by_cases h : (s.wnc.valid && s.wnc.state.driving) = true
  · have hv := h
    simp only [Bool.and_eq_true] at hv
    unfold limitCheck
    simp only [h, if_true]
    split
    · split
      · split
        · exact .inr ⟨hv.1, hv.2, .inl rfl⟩
        · exact .inr ⟨hv.1, hv.2, .inr rfl⟩
      · exact .inl rfl
    · split
      · exact .inr ⟨hv.1, hv.2, .inl rfl⟩
      · exact .inl rfl
  · exact .inl (by simp [limitCheck, h])

@[simp] theorem moveChassis_csc (new : Chassis) (c : Cause) (s : State) :
    (moveChassis new c s).csc = { s.csc with chassis := new } := by simp [moveChassis]

@[simp] theorem moveChassis_lif (new : Chassis) (c : Cause) (s : State) :
    (moveChassis new c s).lif = posted (stateChangeReport s.csc.chassis new c) s.lif := by simp [moveChassis]

@[simp] theorem enterFailsafe_csc (c : Cause) (s : State) :
    (enterFailsafe c s).csc = { s.csc with chassis := .failsafe, setpoint := clearedSetpoint, hold := none } := by
  simp [enterFailsafe, clearMotion]

/-- Entry into CUTOFF leaves a CUTOFF as it is and clears the motion of any other state. -/
theorem enterCutoff_csc (s : State) :
    (enterCutoff s).csc =
      if s.csc.chassis = .cutoff then s.csc
      else { s.csc with chassis := .cutoff, setpoint := clearedSetpoint, hold := none } := by
  unfold enterCutoff; split <;> simp [clearMotion]

/-! ## Properties that a taking or an event keeps -/

/-- A taking keeps a property that popping the intake, the owner and the placing of a reply keep. -/
theorem taking_keeps_of {P : State → Prop} {owner : State → State × List Field} (ty : Byte) (p : Payload)
    (hpop : ∀ s, P s → P (popIntake s)) (howner : ∀ s, P s → P (owner s).1) (hput : ∀ f s, P s → P (putReply f s))
    (s : State) (h : P s) : P (taking ty p owner s) := by
  unfold taking; split
  · dsimp only; split
    · exact hput _ _ (howner _ (hpop _ h))
    · exact hput _ _ (hpop _ h)
  · exact h

/-- The taking of an unknown type keeps a property that popping the intake and the placing of a reply keep. -/
theorem takingUnknown_keeps_of {P : State → Prop} (ty : Byte) (p : Payload) (hpop : ∀ s, P s → P (popIntake s))
    (hput : ∀ f s, P s → P (putReply f s)) (s : State) (h : P s) : P (takingUnknown ty p s) := by
  unfold takingUnknown; split
  · exact hput _ _ (hpop _ h)
  · exact h

/-- An event keeps a property that its work keeps. -/
theorem whenDue_keeps_of {P : State → Prop} {due : State → Bool} {act : State → State} (hact : ∀ s, P s → P (act s)) (s : State)
    (h : P s) : P (whenDue due act s) := by
  unfold whenDue; split
  · exact hact s h
  · exact h

/-- An event keeps a property that its work keeps in a running part. -/
theorem whenRunning_keeps_of {P : State → Prop} {act : State → State} (hact : ∀ s, P s → P (act s)) (s : State) (h : P s) :
    P (whenRunning act s) := by
  unfold whenRunning; split
  · exact hact s h
  · exact h

/-- The step runs the front command; with none waiting a millisecond passes. -/
theorem step_cases (s t : State) (h : step s = .next t) :
    (s.pending = [] ∧ t = tick s) ∨ ∃ c rest, s.pending = c :: rest ∧ exec c { s with pending := rest } = .next t := by
  unfold step at h
  split at h
  · exact .inl ⟨‹_›, by injection h with h; exact h.symm⟩
  · exact .inr ⟨_, _, ‹_›, h⟩

/-- The queries of state change nothing. -/
theorem queries_change_nothing (strap : PinLevel) (s : State) :
    (getStatusOwner strap s).1 = s ∧ (getWinchOwner s).1 = s ∧ (getFreeOwner s).1 = s ∧ (getCellsOwner strap s).1 = s ∧
      (getBudgetOwner s).1 = s := ⟨rfl, rfl, rfl, rfl, rfl⟩

end Sys2Proof.Machine
end

