-- ==== Sys2Proof/WellFormed.lean ====
section
/-! DEFINITION. Which commands make sense: the payloads that a receiver can pass on, and the rows that a payload belongs to. -/

namespace Sys2Proof

/-- The receiver passes on frames with L in 1..40, so a payload of at most 39 bytes (R175). -/
def payloadFits (p : Payload) : Bool := decide (p.length ≤ 39)

/-- A UNIT_RESET payload that the row of this unit takes (R191). -/
def unitFits (u : Machine.ResetUnit) (p : Payload) : Bool := payloadFits p && Machine.rowTakes u p

/-- The command is one that the part can meet. -/
def wellFormed : Instr → Bool
  | .unknownTypeRequest ty p => !Machine.isRequestType ty && payloadFits p
  | .unitResetSteer p => unitFits .steer p
  | .unitResetDrive p => unitFits .drive p
  | .unitResetWinch p => unitFits .winch p
  | .unitResetLights p => unitFits .lights p
  | .unitResetBattery p => unitFits .battery p
  | .unitResetLink p => unitFits .link p
  | .setMotion p | .hold p | .resume p | .cutoffRelease p | .steerMode p | .curveBegin p | .curveData p | .curveCommit p
  | .servoEnds p | .gear p | .getServo p | .dig p | .faultClear p | .winchRun p | .winchPull p | .winchSuspend p
  | .winchResume p | .winchZero p | .winchLimits p | .getWinch p | .lightLevel p | .lightMap p | .patternAlloc p
  | .patternStep p | .patternFree p | .getPattern p | .getFree p | .batteryLevels _ p | .protLock _ p | .getCells _ p
  | .budgetClass p | .getBudget p | .setParam _ p | .getParam p | .profileStore p | .profileRestore _ p
  | .profileDefaults _ p | .getStatus _ p | .getLinkCounts p => payloadFits p
  | .powerOn _ | .resetAssert | .characterReceived _ | .gapTimeout | .lineBreak | .linkTimerExpiry | .transmitFrameStart
  | .frameSent | .telemetry | .servoFrameStart _ | .blendEnd _ | .shiftWaitExpiry | .shiftSettleExpiry | .driveUpdate _ _
  | .driveRetry _ _ | .winchUpdate _ | .winchStall _ | .encoderCount _ | .lineSpeedWindowEnd | .lightPeriodStart _
  | .patternStepComplete _ | .sweepCompletion _ | .tapFaultChange _ | .stageWorsen _ | .stageRecover _
  | .profileStoreCompletion _ | .breakEnd | .powerLost => true

end Sys2Proof
end

