-- ==== Sys2Proof/Tests/Slice0.lean ====
section
/-! SUPPORT. Tests: the spec's worked examples and tables, one step each; the ill-formed commands; and for every statement with
hypotheses a state and operands that meet them, clause by clause. -/

namespace Sys2Proof.Tests

open Sys2Proof.Machine

/-! ## Building small states -/

/-- A running part whose intake holds just this request, with every reply place free. -/
def asks (ty : Byte) (p : Payload) (s : State) : State :=
  { s with power := .running, lif := { s.lif with intake := [{ type := ty, payload := p }], replies := [] } }

/-- The state after a command. -/
def after (i : Instr) (s : State) : State :=
  match exec i s with
  | .next t => t
  | .fault _ => s
  | .refused _ => s

/-- The fields of the replies and of the reports that wait. -/
def replied (s : State) : List Field := s.lif.replies.flatMap TxFrame.fields

/-- The reports that wait, as type and fields. -/
def reported (s : State) : List (Byte × List Field) := s.lif.reports.map fun f => (f.type, f.fields)

/-- The chassis in a state, with the setpoint and the hold record that belong to it. -/
def put (c : Chassis) (throttle steer : Int) (s : State) : State :=
  { s with csc := { s.csc with
      chassis := c
      setpoint := if c = .run ∨ c = .hold then { throttle := throttle, steer := steer, valid := true }
        else { throttle := 0, steer := 0, valid := false }
      hold := if c = .hold then some { entry := 0, modeChange := false } else none } }

/-- Right after reset. -/
def fresh : State := State.reset

/-- In RUN with throttle 300 and steer 437. -/
def run : State := put .run 300 437 fresh

/-- In HOLD over the same setpoint. -/
def held : State := put .hold 300 437 fresh

/-- In FAILSAFE. -/
def failsafe : State := put .failsafe 0 0 fresh

/-- In CUTOFF at the stage CUTOFF, with the lamps dark. -/
def cutoff : State :=
  let s := put .cutoff 0 0 fresh
  { s with
    bmn := { s.bmn with stage := .cutoff, pub := { s.bmn.pub with stage := .cutoff } }
    lcu := { chans := Vector.ofFn fun k => (s.lcu.chans[k]).dark } }

/-- A profile store runs. -/
def storing (s : State) : State := { s with pst := { s.pst with writing := some { snapshot := s.cfg, acceptedAt := 0 } } }

/-- The winch record replaced. -/
def winch (f : Wnc → Wnc) (s : State) : State := { s with wnc := f s.wnc }

/-- The working configuration replaced. -/
def conf (f : WorkingConfig → WorkingConfig) (s : State) : State := { s with cfg := f s.cfg }

/-- LIF's record replaced. -/
def link (f : Lif → Lif) (s : State) : State := { s with lif := f s.lif }

/-- A u16 or i16 field as two bytes. -/
def h (v : Int) : Payload := leBytes 2 (v.emod 65536).toNat

/-- A u32 or i32 field as four bytes. -/
def w (v : Int) : Payload := leBytes 4 (v.emod 4294967296).toNat

/-! ## Well-formed commands -/

/-- A payload of 40 bytes cannot have been received (R175). -/
theorem test_wellFormed_payload_too_long : wellFormed (.hold (List.replicate 40 0)) = false := by decide

/-- The longest payload that can be received (R175). -/
theorem test_wellFormed_payload_39 : wellFormed (.hold (List.replicate 39 0)) = true := by decide

/-- HOLD's type is a request type, so its taking is no UNKNOWN_TYPE_REQUEST (R179). -/
theorem test_wellFormed_unknown_of_a_request : wellFormed (.unknownTypeRequest 0x02 []) = false := by decide

/-- A payload of 40 bytes under an unknown type. -/
theorem test_wellFormed_unknown_too_long : wellFormed (.unknownTypeRequest 0x60 (List.replicate 40 0)) = false := by decide

/-- UNIT_RESET of DRIVE does not belong to the row of STEER (R191). -/
theorem test_wellFormed_unit_of_another_row :
    wellFormed (.unitResetSteer [1]) = false ∧ wellFormed (.unitResetDrive [2]) = false ∧ wellFormed (.unitResetWinch [3]) = false ∧
      wellFormed (.unitResetLights [4]) = false ∧ wellFormed (.unitResetBattery [5]) = false ∧
      wellFormed (.unitResetLink [0]) = false := by decide

/-- Each unit's own row takes its payload (R191). -/
theorem test_wellFormed_unit_of_its_row :
    wellFormed (.unitResetSteer [0]) = true ∧ wellFormed (.unitResetDrive [1]) = true ∧ wellFormed (.unitResetWinch [2]) = true ∧
      wellFormed (.unitResetLights [3]) = true ∧ wellFormed (.unitResetBattery [4]) = true ∧
      wellFormed (.unitResetLink [5]) = true := by decide

/-- The table gives no row bits, so no word spells a command, and the queue stays as it is. -/
theorem test_no_word_spells_a_command : decodeTableWord 16 0x1234 = none ∧ fresh.withFetchWord 16 0x1234 = fresh := by
  exact ⟨rfl, rfl⟩

/-! ## Bytes and frames (sections 6.1, 10.2, 10.8) -/

set_option maxRecDepth 4096 in
/-- The worked CRC: HOLD is sent as C3 01 02 1B. -/
theorem test_frame_hold : frameBytes 0x02 [] = [0xC3, 0x01, 0x02, 0x1B] := by decide

set_option maxRecDepth 4096 in
/-- The worked CRC: SET_MOTION +12, −1000 is sent as C3 05 01 0C 00 18 FC 02. -/
theorem test_frame_set_motion :
    frameBytes 0x01 (h 12 ++ h (-1000)) = [0xC3, 0x05, 0x01, 0x0C, 0x00, 0x18, 0xFC, 0x02] := by decide

/-- Signed fields are two's complement, least significant byte first. -/
theorem test_signed_fields : i16At [0x18, 0xFC] 0 = -1000 ∧ i32At [0xFE, 0xFF, 0xFF, 0xFF] 0 = -2 ∧ u16At [9, 0x34, 0x12] 1 = 4660 := by
  decide

set_option maxRecDepth 8192 in
/-- The sizes that section 10.8 and R180 give: GET_STATUS L = 64, TELEMETRY L = 26, GET_BUDGET L = 119. -/
theorem test_frame_sizes :
    ((getStatusOwner .high fresh).2.flatMap Field.bytes).length + 1 = 64 ∧ (telemetryReport fresh).payload.length + 1 = 26 ∧
      ((getBudgetOwner fresh).2.flatMap Field.bytes).length + 1 = 119 := by decide

/-- The sync byte leaves HUNT (R175). -/
theorem test_characterReceived_sync : (after (.characterReceived (cleanChar 0xC3)) fresh).lif.rx = .length := by decide

/-- A length of 41 is discarded without a count (R175). -/
theorem test_characterReceived_length_41 :
    let t := after (.characterReceived (cleanChar 41)) (link (fun l => { l with rx := .length }) fresh)
    t.lif.rx = .hunt ∧ t.lif.counts = zeroCounts := by decide

/-- A gap of 2 ms in LENGTH discards the frame (R175). -/
theorem test_gapTimeout :
    let t := after .gapTimeout { link (fun l => { l with rx := .length, gapSince := some 3 }) fresh with now := 5 }
    t.lif.rx = .hunt ∧ t.lif.counts.gap = 1 := by decide

/-- A break in RUN leads to FAILSAFE with cause LINK_BREAK (R10, R14, R178). -/
theorem test_lineBreak_in_run :
    (after .lineBreak run).csc.chassis = .failsafe ∧ reported (after .lineBreak run) = [(0xE0, [.u8 1, .u8 3, .u8 3])] := by decide

/-- The line goes high again (R178). -/
theorem test_breakEnd : (after .breakEnd (after .lineBreak fresh)).lif.inBreak = false := by decide

/-- In RUN the factory link timer expires 250 ms after the last good frame, not before (R9, R177). -/
theorem test_linkTimerExpiry :
    (after .linkTimerExpiry { link (fun l => { l with lastGood := some 100 }) run with now := 350 }).csc.chassis = .failsafe ∧
      (after .linkTimerExpiry { link (fun l => { l with lastGood := some 100 }) run with now := 349 }).csc.chassis = .run := by decide

/-- A reply leaves before a report (R181). -/
theorem test_transmitFrameStart_reply_first :
    (after .transmitFrameStart (link (fun l => { l with
      replies := [{ type := 0x82, fields := [.u8 0, .u8 2] }], reports := [{ type := 0xE0, fields := [] }] }) fresh)).lif.tx.map
        Transmission.source = some .reply := by decide

/-- The last byte sent frees the reply's place (R179). -/
theorem test_frameSent_frees_the_place :
    (after .frameSent (link (fun l => { l with
      replies := [{ type := 0x82, fields := [] }], tx := some { source := .reply, bytes := [] } }) fresh)).lif.replies = [] := by decide

/-- TELEMETRY carries sequence 1 first and comes again a period later (R186). -/
theorem test_telemetry :
    let t := after .telemetry { link (fun l => { l with telNext := some 20 }) (conf (fun c => { c with lif := { c.lif with telemetryMs := 20 } })
      fresh) with now := 20 }
    (reported t).map (fun x => (x.1, x.2.head?)) = [(0xE6, some (.u16 1))] ∧ t.lif.telNext = some 40 := by decide

/-- A type that is not assigned is answered UNKNOWN_TYPE (R179, R180). -/
theorem test_unknownTypeRequest :
    let t := after (.unknownTypeRequest 0x05 [1]) (asks 0x05 [1] fresh)
    t.lif.replies = [{ type := 0x80, fields := [.u8 6, .u8 5] }] := by decide

/-- HOLD with a payload is answered BAD_LENGTH (R179, R180). -/
theorem test_hold_bad_length : replied (after (.hold [7]) (asks 0x02 [7] run)) = [.u8 4, .u8 1] := by decide

/-! ## Chassis states -/

/-- The worked start: a throttle of 180 is outside the neutral band (R5, R6). -/
theorem test_setMotion_neutral : replied (after (.setMotion (h 180 ++ h (-50))) (asks 0x01 (h 180 ++ h (-50)) fresh)) =
    [.u8 10, .u8 0] := by decide

/-- The worked start: 12 with a steer of −1400 enters RUN, the steer clamped (R5, R6). -/
theorem test_setMotion_enters_run :
    let t := after (.setMotion (h 12 ++ h (-1400))) (asks 0x01 (h 12 ++ h (-1400)) fresh)
    replied t = [.u8 1, .u8 1] ∧ t.csc.setpoint = { throttle := 12, steer := -1000, valid := true } ∧
      reported t = [(0xE0, [.u8 0, .u8 1, .u8 1])] := by decide

/-- HOLD in RUN brakes both axles at 1000 (R7, R76). -/
theorem test_hold_parks :
    let t := after (.hold []) (asks 0x02 [] run)
    replied t = [.u8 0, .u8 2] ∧ t.drc.df.brake = 1000 ∧ t.drc.dr.brake = 1000 ∧ t.csc.setpoint.throttle = 300 := by decide

/-- RESUME in HOLD (R8). -/
theorem test_resume : replied (after (.resume []) (asks 0x03 [] held)) = [.u8 0, .u8 1] := by decide

/-- A release below SHED plus hysteresis is refused LOW_BATTERY; the release level is 3400 (R13). -/
theorem test_cutoffRelease_low : replied (after (.cutoffRelease []) (asks 0x04 [] cutoff)) = [.u8 11, .u8 4, .u16 0, .u16 3400] := by
  decide

/-- At the release level the chassis leaves for STANDBY and the stage becomes SHED (R13, R154). -/
theorem test_cutoffRelease_ok :
    let s := { cutoff with bmn := { cutoff.bmn with pub := { cutoff.bmn.pub with minVc := 3400 } } }
    let t := after (.cutoffRelease []) (asks 0x04 [] s)
    replied t = [.u8 0, .u8 0, .u16 3400, .u16 3400] ∧ t.bmn.stage = .shed ∧
      reported t = [(0xE1, [.u8 4, .u8 3, .u16 3400]), (0xE0, [.u8 4, .u8 0, .u8 5])] := by decide

/-! ## Steering -/

/-- The worked interpolation: the linear table returns 437; the table that is flatter near the centre gives 219 for 437 and −220 for
−437 (R19). -/
theorem test_interpolation :
    let flat : CurveTable := #v[-1000, -760, -560, -400, -270, -170, -90, -35, 0, 35, 90, 170, 270, 400, 560, 760, 1000]
    interpolate linearTable 437 = 437 ∧ interpolate flat (-437) = -220 ∧ interpolate flat 437 = 219 := by decide

/-- The worked mix at steer 437 with the factory ratio: COUNTER 327, CRAB −327 on the rear axle; at −437 COUNTER gives −327 (R20, R21). -/
theorem test_mix :
    modeAngle factorySmx .rear .counter 437 = 327 ∧ modeAngle factorySmx .rear .crab 437 = -327 ∧
      modeAngle factorySmx .rear .counter (-437) = -327 ∧
      modeAngle factorySmx .front .front 437 = 437 ∧ modeAngle factorySmx .rear .front 437 = 0 := by decide

/-- STEER_MODE COUNTER in RUN starts both blends (R23). -/
theorem test_steerMode_starts : replied (after (.steerMode [2]) (asks 0x08 [2] run)) = [.u8 0, .u8 2, .u8 1, .u8 1] := by decide

/-- In STANDBY the mode changes at once (R28). -/
theorem test_steerMode_standby : replied (after (.steerMode [2]) (asks 0x08 [2] fresh)) = [.u8 0, .u8 2, .u8 0, .u8 0] := by decide

/-- CURVE_BEGIN opens the load with its pointer at 0 (R33). -/
theorem test_curveBegin :
    let t := after (.curveBegin [2]) (asks 0x09 [2] fresh)
    t.smx.throttleLoad.state = .opened ∧ t.smx.throttleLoad.shadow = linearTable ∧ t.lif.replies.length = 1 := by decide

/-- The worked load: two values at the pointer, one clamped (R34). -/
theorem test_curveData :
    let s := after (.curveBegin [0]) (asks 0x09 [0] fresh)
    let t := after (.curveData (0 :: h (-760) ++ h 1200)) (asks 0x0A (0 :: h (-760) ++ h 1200) s)
    t.smx.frontLoad.pointer = 2 ∧ t.smx.frontLoad.shadow[0] = -760 ∧ t.smx.frontLoad.shadow[1] = 1000 ∧
      (replied t).head? = some (.u8 1) := by decide

/-- A table whose first entry exceeds the second breaks the order at index 1 (R35). -/
theorem test_curveCommit_order :
    let s := after (.curveBegin [0]) (asks 0x09 [0] fresh)
    let s' := after (.curveData (0 :: h 5)) (asks 0x0A (0 :: h 5) s)
    replied (after (.curveCommit [0]) (asks 0x0B [0] s')) = [.u8 5, .u8 2, .u8 1] := by decide

/-- An open factory table passes the check and waits (R35). -/
theorem test_curveCommit_passes :
    let s := after (.curveBegin [1]) (asks 0x09 [1] fresh)
    let t := after (.curveCommit [1]) (asks 0x0B [1] s)
    replied t = [.u8 0, .u8 0, .u8 0] ∧ t.smx.rearLoad.state = .pending := by decide

/-- The worked blend to COUNTER: after the first 10 ms of 400 ms the weight is 6 and the rear angle 327·6/256 = 7 (R24). -/
theorem test_blend_first_frame :
    (after (.servoFrameStart .rs) (after (.steerMode [2]) (asks 0x08 [2] run))).smx.rearAngle = 7 := by decide

/-- The blend ends at the frame whose weight is 256 (R24). -/
theorem test_blendEnd :
    let s := after (.steerMode [2]) (asks 0x08 [2] run)
    let late := { s with smx := { s.smx with rearBlend := { s.smx.rearBlend with elapsedUs := 390000 } } }
    let t := after (.blendEnd .rear) late
    t.smx.rearAngle = 327 ∧ t.smx.rearBlend.active = false ∧ (after (.blendEnd .rear) s).smx = s.smx := by decide

/-! ## Servo channels and the gear shift -/

/-- The worked mapping: FS at 437 has the pulse 13748; a reversed RS at 327 has 10774 (R43). -/
theorem test_anglePulse :
    anglePulse factorySpg.fsEnds 437 = 13748 ∧ anglePulse { left := 16400, center := 12160, right := 7920 } 327 = 10774 ∧
      anglePulse { left := 16400, center := 12160, right := 7920 } 7 = 12131 := by decide

/-- The worked slew: S = 200 under the factor 512 moves 100 eighths; the last 48 are taken at once (R44, R45). -/
theorem test_slewToward :
    effectiveSlew 200 512 = 100 ∧ effectiveSlew 0 512 = 8000 ∧ effectiveSlew 200 0 = 1 ∧ slewToward 12000 13748 100 = 12100 ∧
      slewToward 13700 13748 100 = 13748 := by decide

/-- The worked emission of 13748 from carries 0 and 4, and of 10774 from carry 6 (R46). -/
theorem test_emission : emission 13748 0 = (1718, 4) ∧ emission 13748 4 = (1719, 0) ∧ emission 10774 6 = (1347, 4) := by decide

/-- At a frame start in RUN with no slew limit FS reaches its pulse and emits 1718 µs (R39, R46). -/
theorem test_servoFrameStart :
    let t := after (.servoFrameStart .fs) run
    t.spg.fs.pOut = 13748 ∧ servoLine t .fs = 1718 ∧ t.spg.fs.acc = 4 := by decide

/-- In STANDBY no pulse is emitted (R47). -/
theorem test_servoFrameStart_standby : servoLine (after (.servoFrameStart .sh) fresh) .sh = 0 := by decide

/-- The reversed RS set is accepted; a centre at an end is not (R41). -/
theorem test_servoEnds :
    (replied (after (.servoEnds (1 :: h 16400 ++ h 12160 ++ h 7920)) (asks 0x10 (1 :: h 16400 ++ h 12160 ++ h 7920) run)) =
      [.u8 0, .u8 1, .u16 16400, .u16 12160, .u16 7920]) ∧
    (replied (after (.servoEnds (1 :: h 16400 ++ h 12160 ++ h 12160)) (asks 0x10 (1 :: h 16400 ++ h 12160 ++ h 12160) run)) =
      [.u8 5, .u8 1, .u16 8000, .u16 12000, .u16 16000]) := by decide

/-- The worked shift at 5 ms: GEAR HIGH is taken and the threshold 80 latched (R49). -/
theorem test_gear : replied (after (.gear [1]) (asks 0x11 [1] run)) = [.u8 0, .u8 0, .u8 1, .u8 1, .u16 80] := by decide

/-- A shift record for the tests of the shift. -/
def shifting (phase : ShiftPhase) (waited settled : Nat) (output : Int) (s : State) : State :=
  { s with
    spg := { s.spg with
      shift := { s.spg.shift with pending := some .high, phase := phase, latched := 80, waitMs := waited, settleMs := settled } }
    drc := { s.drc with df := { s.drc.df with output := output }, dr := { s.drc.dr with output := output } } }

/-- The worked shift at 60 ms: both outputs at the threshold, so the selector moves off by 200 (R50). -/
theorem test_shift_moves :
    let t := after (.servoFrameStart .sh) (shifting .easing 40 0 80 run)
    t.spg.shift.phase = .moving ∧ t.spg.sh.pOut = 9800 ∧ servoLine t .sh = 1225 := by decide

/-- The wait is over at the frame that makes it 1500 ms (R50). -/
theorem test_shiftWaitExpiry :
    let t := after .shiftWaitExpiry (shifting .easing 1480 0 81 run)
    t.spg.shift.phase = .idle ∧ t.spg.shift.gear = .low ∧ reported t = [(0xE2, [.u8 2, .u8 0, .u8 1])] ∧
      (after .shiftWaitExpiry (shifting .easing 1460 0 81 run)).spg.shift.phase = .easing := by decide

/-- The worked shift at 780 ms: 260 ms of settling complete it (R51). -/
theorem test_shiftSettleExpiry :
    let t := after .shiftSettleExpiry (shifting .settling 40 240 0 run)
    t.spg.shift.phase = .idle ∧ t.spg.shift.gear = .high ∧ reported t = [(0xE2, [.u8 0, .u8 1, .u8 1])] := by decide

/-- GET_SERVO of a channel above 2 (R56). -/
theorem test_getServo_bad : replied (after (.getServo [3]) (asks 0x12 [3] run)) = [.u8 5] := by decide

/-! ## Drive channels -/

/-- The worked target chain at 437 and at 31 with G_R = 900 (R62 to R64). -/
theorem test_target_chain :
    let s := fun t : Int => put .run t 0 (conf (fun c => { c with drc := { c.drc with gainR := 900 } }) fresh)
    throttleTarget .df (s 437) = 419 ∧ throttleTarget .dr (s 437) = 377 ∧ throttleTarget .df (s 31) = 1 ∧
      throttleTarget .dr (s 31) = 0 ∧ throttleTarget .df (s (-1000)) = -1000 ∧ throttleTarget .dr (s (-1000)) = -900 ∧
      throttleTarget .df (s 20) = 0 := by decide

/-- From rest an output rises by 2, falls by 4, and a reversal stops at 0 (R68). -/
theorem test_slewOutput :
    slewOutput 2 4 0 419 = 2 ∧ slewOutput 2 4 419 0 = 415 ∧ slewOutput 2 4 3 (-419) = 0 ∧ slewOutput 2 4 418 419 = 419 ∧
      slewOutput 2 4 (-3) 419 = 0 := by decide

/-- The worked foldback with the grant 15161: 16000 lowers the cap by 20, 14900 holds it, 14000 raises it by 2 (R70). -/
theorem test_foldCap : foldCap 1000 16000 15161 = 980 ∧ foldCap 560 14900 15161 = 560 ∧ foldCap 560 14000 15161 = 562 := by decide

/-- A drive update in RUN: target 278 for the throttle 300, output 2 from rest (R61). -/
theorem test_driveUpdate_run :
    let t := after (.driveUpdate .df 0) run
    t.drc.df.target = 278 ∧ t.drc.df.output = 2 ∧ t.drc.df.brake = 0 ∧ driveLines t .df = { pwmA := 2, pwmB := 0, brake := 0 } := by
  decide

/-- A drive record of DR for the tests of the trips. -/
def tripping (clock : Nat) (history : List Clock) (s : State) : State :=
  { s with drc := { s.drc with clock := BitVec.ofNat 32 clock, dr := { s.drc.dr with history := history, tripCount := history.length } } }

/-- The worked trips at 2300 ms: the third within 5000 ms latches DR and posts DRIVE_FAULT (R71, R73). -/
theorem test_driveUpdate_latches :
    let t := after (.driveUpdate .dr 50800) (tripping 2300 [1000, 1620] run)
    t.drc.dr.fault = .latched ∧ t.drc.dr.tripCount = 3 ∧
      reported t = [(0xE4, [.u8 1, .u32 1000, .u32 1620, .u32 2300, .u16 50800])] ∧
      (after (.driveUpdate .dr 50800) (tripping 6200 [1000, 1620] run)).drc.dr.fault = .tripped := by decide

/-- The worked trips at 1500 ms: the retry time comes 500 ms after the trip, not before (R72). -/
theorem test_driveRetry :
    let s := fun t => after (.driveRetry .dr 0) { (after (.driveUpdate .dr 52000) (tripping 1000 [] run)) with
      drc := { (after (.driveUpdate .dr 52000) (tripping 1000 [] run)).drc with clock := t } }
    (s 1500).drc.dr.fault = .normal ∧ (s 1499).drc.dr.fault = .tripped := by decide

/-- DIG LOCK_REAR is taken in STANDBY and locks DR at the next update in RUN (R66). -/
theorem test_dig :
    replied (after (.dig [1]) (asks 0x18 [1] fresh)) = [.u8 0, .u8 1] ∧
      (after (.driveUpdate .dr 0) (after (.dig [1]) (asks 0x18 [1] run))).drc.dr.brake = 1000 := by decide

/-- FAULT_CLEAR of a LATCHED DR answers state 0 (R74). -/
theorem test_faultClear :
    let s := { run with drc := { run.drc with dr := { run.drc.dr with fault := .latched, history := [1, 2, 3], tripCount := 3 } } }
    let t := after (.faultClear [1]) (asks 0x19 [1] s)
    replied t = [.u8 0, .u8 1, .u8 0] ∧ t.drc.dr.history = [] ∧ t.drc.dr.tripCount = 3 := by decide

/-! ## Winch -/

/-- The worked pull's beginning: position 1200 counts, limits 160 and 32000 counts. -/
def ready (s : State) : State :=
  winch (fun x => { x with position := 1200, valid := true })
    (conf (fun c => { c with wnc := { c.wnc with inner := 160, outer := 32000 } }) s)

/-- A pull to 400 counts at speed 600 at some position and duty. -/
def pulling (position duty : Int) (s : State) : State :=
  winch (fun x => { x with
    state := .pull, op := some .pull, speed := 600, target := 400, dir := .inward, position := position, duty := duty }) (ready s)

/-- A spool inward without a valid position is held to 300 (R92). -/
theorem test_winchRun_invalid :
    let t := after (.winchRun (0 :: h 600)) (asks 0x20 (0 :: h 600) run)
    replied t = [.u8 1, .u8 2, .u8 0, .u8 0, .u8 0] ∧ t.wnc.speed = 300 := by decide

/-- The worked pull: 100 mm is 400 counts; 20 mm is clamped to the stop at 40 mm (R94). -/
theorem test_winchPull :
    replied (after (.winchPull (w 100 ++ h 600)) (asks 0x21 (w 100 ++ h 600) (ready run))) = [.u8 0, .u8 4, .i32 100, .i32 300] ∧
      replied (after (.winchPull (w 20 ++ h 600)) (asks 0x21 (w 20 ++ h 600) (ready run))) = [.u8 1, .u8 4, .i32 40, .i32 300] := by
  decide

/-- The worked pull's duty targets (R95). -/
theorem test_dutyTarget :
    dutyTarget 400 (pulling 800 0 run).wnc = -600 ∧ dutyTarget 400 (pulling 700 0 run).wnc = -450 ∧
      dutyTarget 400 (pulling 450 0 run).wnc = -150 := by decide

/-- The duty moves by 5 per update (R84). -/
theorem test_winchUpdate : (after (.winchUpdate 0) (pulling 1200 0 run)).wnc.duty = -5 := by decide

/-- A stall: −300 at 9000 mA for 300 ms without a count (R104). -/
theorem test_winchStall :
    let s := winch (fun x => { x with speed := 300, stall := some { since := 0, position := 1200 }, clock := 300 })
      (pulling 1200 (-300) run)
    let t := after (.winchStall 9000) s
    t.wnc.state = .stalled ∧ t.wnc.stallCount = 1 ∧ (reported t).map Prod.fst = [0xE3] := by decide

/-- The same armed detector under an outward operation declares no stall (R104). -/
theorem test_winchStall_outward :
    let s := winch (fun x => { x with dir := .outward, speed := 300, stall := some { since := 0, position := 1200 }, clock := 300 })
      (pulling 1200 (-300) run)
    stallCheck s.cfg.wnc 9000 (-300) s.wnc = .armed { since := 0, position := 1200 } := by decide

/-- The count that brings the pull to 400 ends it REACHED at 100 mm (R96). -/
theorem test_encoderCount_reaches :
    let t := after (.encoderCount { a := false, b := true }) (pulling 401 (-150) run)
    t.wnc.state = .braked ∧ reported t = [(0xE3, [.u8 1, .i32 100, .u8 1, .u8 0, .u8 0, .u8 0])] := by decide

/-- A change of both lines is an error and the position invalid (R85, R86). -/
theorem test_encoderCount_error :
    let t := after (.encoderCount { a := true, b := true }) (ready run)
    t.wnc.encErrors = 1 ∧ t.wnc.valid = false ∧ t.wnc.position = 1200 := by decide

/-- Twenty outward counts of 250 µm in 50 ms are 100 mm/s (R87). -/
theorem test_lineSpeedWindowEnd :
    (after .lineSpeedWindowEnd (winch (fun x => { x with windowSum := 20, clock := 50 }) run)).wnc.lineSpeed = 100 := by decide

/-- The worked suspension at 100 and at 470 ms: SUSPEND of a PULL, RESUME without the reason HOST (R99, R100). -/
theorem test_winchSuspend_winchResume :
    replied (after (.winchSuspend []) (asks 0x22 [] (pulling 800 (-600) run))) = [.u8 0, .u8 5, .u8 1, .u8 0, .u8 0] ∧
      replied (after (.winchResume []) (asks 0x23 [] (pulling 800 (-600) run))) = [.u8 3, .u8 4, .u8 0, .u8 0, .u8 0] := by decide

/-- WINCH_ZERO answers position 0 and valid 1, and is refused during a pull (R86). -/
theorem test_winchZero :
    replied (after (.winchZero []) (asks 0x24 [] fresh)) = [.u8 0, .i32 0, .u8 1] ∧
      replied (after (.winchZero []) (asks 0x24 [] (pulling 800 0 run))) = [.u8 2] := by decide

/-- WINCH_LIMITS of 40 and 8000 mm; equal limits are refused (R88). -/
theorem test_winchLimits :
    replied (after (.winchLimits (w 40 ++ w 8000)) (asks 0x25 (w 40 ++ w 8000) fresh)) = [.u8 0, .i32 40, .i32 8000] ∧
      (replied (after (.winchLimits (w 40 ++ w 40)) (asks 0x25 (w 40 ++ w 40) fresh))).head? = some (.u8 5) := by decide

/-- GET_WINCH in CUTOFF reports OFF (R91, R107, R109). -/
theorem test_getWinch_off : (replied (after (.getWinch []) (asks 0x26 [] cutoff))).take 2 = [.u8 0, .u8 7] := by decide

/-! ## Lights and patterns -/

/-- A LIGHT_MAP payload. -/
def mapAsk (k source onKind onValue offKind offValue dither fullOn : Nat) : Payload :=
  [BitVec.ofNat 8 k, BitVec.ofNat 8 source, BitVec.ofNat 8 onKind] ++ h onValue ++ [BitVec.ofNat 8 offKind] ++ h offValue ++
    [BitVec.ofNat 8 dither] ++ h fullOn

/-- LIGHT_MAP of BRAKE on L2 in HOLD finds the source active (R116, R118). -/
theorem test_lightMap :
    let t := after (.lightMap (mapAsk 2 1 0 1024 0 256 2 400)) (asks 0x31 (mapAsk 2 1 0 1024 0 256 2 400) held)
    replied t = [.u8 0, .u8 2, .u8 1, .u8 1] ∧ (lightOfState t 2).base = 1024 := by decide

/-- LIGHT_LEVEL above 1024 is clamped; on the OFF side it shows at once (R117). -/
theorem test_lightLevel :
    let t := after (.lightLevel (0 :: h 1100)) (asks 0x30 (0 :: h 1100) fresh)
    replied t = [.u8 1, .u8 0, .u16 1024] ∧ (lightOfState t 0).base = 1024 := by decide

/-- The worked dithering of 600: FRAME slots 0 and 1, DIFFUSE from residuals 0 and 8, TRUNCATE (R122 to R124). -/
theorem test_dither :
    ditherLevel .frame 600 0 3 = (38, 3) ∧ ditherLevel .frame 600 1 3 = (37, 3) ∧ ditherLevel .diffuse 600 0 0 = (37, 8) ∧
      ditherLevel .diffuse 600 0 8 = (38, 0) ∧ ditherLevel .truncate 600 0 3 = (37, 3) := by decide

/-- The worked loop's ramps: 700 at the first period of the first step, 734 at the first of the second (R140). -/
theorem test_stepLevel :
    stepLevel { target := 1000, ramp := 4, hold := 2, link := .next 1 } 600 1 = 700 ∧
      stepLevel { target := 200, ramp := 3, hold := 0, link := .next 0 } 1000 1 = 734 ∧
      stepLevel { target := 200, ramp := 3, hold := 0, link := .next 0 } 1000 2 = 467 ∧
      stepLevel { target := 512, ramp := 4, hold := 2, link := .next 1 } 200 1 = 278 := by decide

/-- L0 runs a one-step pattern to 1000 in 4 ms from base level 600. -/
def ramping (elapsed : Nat) (s : State) : State :=
  let r : StepRecord := { target := 1000, ramp := 4, hold := 2, link := .endHold }
  setLight 0 { lightOfState s 0 with
      base := 600
      runner := some { pattern := 0, finished := false, position := 0, latch := r, start := 600, elapsed := elapsed, complete := false
                       finishedLevel := 0 } } s

/-- A period of the ramp: base 700, TRUNCATE-free FRAME level 44 at slot 0 (R114, R123, R140). -/
theorem test_lightPeriodStart :
    let t := after (.lightPeriodStart 0) (ramping 0 fresh)
    (lightOfState t 0).base = 700 ∧ (lightOfState t 0).level = 44 ∧ (lightOfState t 0).slot = 1 := by decide

/-- The step completes at its sixth period (R140). -/
theorem test_patternStepComplete :
    ((lightOfState (after (.patternStepComplete 0) (ramping 5 fresh)) 0).runner.map Runner.complete = some true) ∧
      ((lightOfState (after (.patternStepComplete 0) (ramping 4 fresh)) 0).slot = 0) := by decide

/-- PATTERN_ALLOC 2 on the factory table: 15 EMPTY, 62 free, pattern 0 with the indices 0 and 1 (R134). -/
theorem test_patternAlloc :
    replied (after (.patternAlloc [2]) (asks 0x32 [2] fresh)) = [.u8 0, .u8 15, .u8 62, .u8 0, .u8 2, .u8 0, .u8 1] := by decide

/-- PATTERN_STEP writes the pool record of the position it names (R135). -/
theorem test_patternStep :
    let p : Payload := [0, 1] ++ h 1100 ++ h 4 ++ h 2 ++ [0, 0]
    let t := after (.patternStep p) (asks 0x33 p (after (.patternAlloc [2]) (asks 0x32 [2] fresh)))
    replied t = [.u8 1, .u8 0, .u8 1, .u8 1, .u16 1024, .u16 4, .u16 2, .u8 0, .u8 0] ∧
      t.cfg.lcu.pool[1] = { target := 1024, ramp := 4, hold := 2, link := .next 0 } := by decide

/-- PATTERN_FREE appends the freed indices at the tail (R136). -/
theorem test_patternFree :
    let t := after (.patternFree [0]) (asks 0x34 [0] (after (.patternAlloc [2]) (asks 0x32 [2] fresh)))
    replied t = [.u8 0, .u8 0, .u8 0, .u8 64] ∧ t.cfg.lcu.free.getLast? = some 1 ∧ t.cfg.lcu.free.head? = some 2 := by decide

/-- GET_PATTERN of an EMPTY entry and GET_FREE of the factory list (R137, R138). -/
theorem test_getPattern_getFree :
    replied (after (.getPattern [3, 0]) (asks 0x35 [3, 0] fresh)) = [.u8 0, .u8 3, .u8 0, .u8 0, .u8 0, .u8 0] ∧
      (replied (after (.getFree []) (asks 0x36 [] fresh))).take 4 = [.u8 0, .u8 64, .u8 0, .u8 1] := by decide

/-! ## Battery and budget -/

/-- The samples of the worked compensation. -/
def climbing : SweepSamples :=
  { pack := 9870, tap1 := 3310, tap2 := 6590, tap3 := 0, packCurrent := 24000, servoRail := 0, df := 0, dr := 0, winch := 0 }

/-- The worked compensation of three cells: 192 mV, cell 2 the weakest, min Vc 3472; the WARN counter advances (R146, R149, R151). -/
theorem test_sweepCompletion :
    let s := conf (fun c => { c with bmn := { c.bmn with cellCount := 3 } }) fresh
    let t := after (.sweepCompletion climbing) s
    t.bmn.pub.comp = 192 ∧ t.bmn.pub.weakest = 2 ∧ t.bmn.pub.minVc = 3472 ∧ t.bmn.warnRun = 1 ∧ t.bmn.limitRun = 0 ∧
      t.bmn.pub.sweep = 1 := by decide

/-- AUTO's counts: 8400 mV is 2 cells, 11390 mV 3, 16800 mV 4 (R145). -/
theorem test_autoCellCount : autoCellCount 8400 = 2 ∧ autoCellCount 11390 = 3 ∧ autoCellCount 16800 = 4 := by decide

/-- Samples of two equal cells. -/
def cells (mv : Nat) : SweepSamples :=
  { pack := 2 * mv, tap1 := mv, tap2 := 0, tap3 := 0, packCurrent := 0, servoRail := 0, df := 0, dr := 0, winch := 0 }

/-- A monitor in NORMAL whose WARN counter has run 24 sweeps (the worked stage sequence at sweep 123). -/
def nearWarn : State := { fresh with bmn := { fresh.bmn with warnRun := 24 } }

/-- The worked stage sequence at sweep 124: WARN, reported 0 to 1 (R151, R153). -/
theorem test_stageWorsen :
    let t := after (.stageWorsen (cells 3450)) nearWarn
    t.bmn.stage = .warn ∧ reported t = [(0xE1, [.u8 0, .u8 1, .u16 3450])] ∧
      (after (.stageWorsen (cells 3450)) fresh).bmn.stage = .normal := by decide

/-- The worked stage sequence at sweep 360: 3420 for 100 sweeps takes SHED to LIMIT (R152). -/
theorem test_stageRecover :
    let s := { fresh with bmn := { fresh.bmn with stage := .shed, recoverRun := 99, warnRun := 200 } }
    (after (.stageRecover (cells 3420)) s).bmn.stage = .limit := by decide

/-- The 25th sweep with a low tap sets the tap fault flag; each cell then reads pack / N (R146, R148). -/
theorem test_tapFaultChange :
    let s := { fresh with bmn := { fresh.bmn with badRun := 24, autoPending := false } }
    let t := after (.tapFaultChange { cells 3700 with tap1 := 0 }) s
    t.bmn.tapFault = true ∧ t.bmn.pub.minVc = 3700 := by decide

/-- BATTERY_LEVELS with the factory thresholds; WARN 4301 is refused (R155). -/
theorem test_batteryLevels :
    let p := fun warn => h warn ++ h 3400 ++ h 3300 ++ h 3200 ++ h 10
    replied (after (.batteryLevels .high (p 3500)) (asks 0x38 (p 3500) fresh)) =
        [.u8 1, .u16 3500, .u16 3400, .u16 3300, .u16 3200, .u16 20] ∧
      (replied (after (.batteryLevels .high (p 4301)) (asks 0x38 (p 4301) fresh))).head? = some (.u8 5) := by decide

/-- A set flag is cleared only under a high strap (R157). -/
theorem test_protLock :
    let s := conf (fun c => { c with bmn := { c.bmn with lockFlag := true } }) fresh
    replied (after (.protLock .low [0]) (asks 0x39 [0] s)) = [.u8 7, .u8 1, .u8 0, .u8 1] ∧
      replied (after (.protLock .high [0]) (asks 0x39 [0] s)) = [.u8 0, .u8 0, .u8 1, .u8 0] := by decide

/-- Before the first sweep GET_CELLS answers sweep 0 and two cells (R144, R145, R159). -/
theorem test_getCells : (replied (after (.getCells .high []) (asks 0x3A [] fresh))).take 4 = [.u8 0, .u32 0, .u8 2, .u8 0] := by decide

/-- The demands of the worked allocations. -/
def hard : PerClass Nat := { servo := 1200, driveF := 14000, driveR := 12000, winch := 9000, lights := 800 }

/-- The worked allocations under LIMIT and NORMAL (R165 to R170). -/
theorem test_allocationOf :
    let a := allocationOf factoryPba 500 .limit 7 hard
    a.grant = { servo := 1500, driveF := 15161, driveR := 13038, winch := 1, lights := 300 } ∧ a.leftover = 0 ∧
      a.lightScale = 384 ∧ a.servoFactor = 1024 ∧ a.starved = true ∧
      (allocationOf factoryPba 500 .normal 7 hard).grant =
        { servo := 1500, driveF := 17500, driveR := 15000, winch := 5700, lights := 300 } := by decide

/-- BUDGET_CLASS that gives WINCH the floor 1000 makes the floor sum 6800 (R164). -/
theorem test_budgetClass :
    let p : Payload := [3, 3] ++ h 1000 ++ w 15000
    replied (after (.budgetClass p) (asks 0x3C p fresh)) = [.u8 0, .u8 3, .u8 3, .u16 1000, .u32 15000, .u32 6800] := by decide

/-- GET_BUDGET before the first allocation: Pmax 40000, A 0 (R171, R173). -/
theorem test_getBudget : (replied (after (.getBudget []) (asks 0x3D [] fresh))).take 5 =
    [.u8 0, .u32 0, .u8 0, .u32 40000, .u32 0] := by decide

/-! ## Parameters, profile, unit resets, status -/

/-- Factory values by id: R9, R31, R57, R81, R110, R128, R160, R165, R184. -/
theorem test_factory_parameters :
    (List.range 256).filterMap (fun n => (paramOf n).map fun i => (n, readParam factoryConfig i)) =
      [(0x10, 250), (0x11, 2000), (0x20, 768), (0x21, 400), (0x22, 400), (0x23, 0), (0x24, 0)] ++
      [(0x30, 10), (0x31, 10), (0x32, 20), (0x33, 0), (0x34, 0), (0x35, 200), (0x36, 80), (0x37, 1500), (0x38, 250), (0x39, 0)] ++
      [(0x40, 30), (0x41, 1000), (0x42, 1000), (0x43, 2), (0x44, 4), (0x45, 300), (0x46, 50000), (0x47, 1), (0x48, 20), (0x49, 250),
        (0x4A, 1)] ++
      [(0x50, 250), (0x51, 400), (0x52, 300), (0x53, 8000), (0x54, 30000), (0x55, 500)] ++
      [(0x60, 0), (0x61, 0), (0x62, 0), (0x63, 0), (0x64, 0), (0x65, 0), (0x66, 0), (0x67, 0)] ++
      [(0x70, 0), (0x71, 8), (0x72, 400), (0x73, 25), (0x74, 100), (0x75, 100), (0x76, 0), (0x80, 40000), (0x90, 0), (0x91, 0)] := by
  decide +kernel

/-- The lowest and the highest value of each parameter (the range columns of the parameter tables). -/
theorem test_parameter_ranges :
    (List.range 256).filterMap (fun n => (paramOf n).map fun i => (n, paramClamp i (-2147483648), paramClamp i 2147483647)) =
      [(0x10, 100, 2000), (0x11, 250, 10000), (0x20, 0, 2048), (0x21, 0, 2000), (0x22, 100, 1000), (0x23, 0, 1), (0x24, 0, 3)] ++
      [(0x30, 3, 20), (0x31, 3, 20), (0x32, 3, 20), (0x33, 0, 16000), (0x34, 0, 16000), (0x35, 0, 16000), (0x36, 0, 300),
        (0x37, 200, 5000), (0x38, 0, 1000), (0x39, 0, 1)] ++
      [(0x40, 0, 100), (0x41, 0, 1200), (0x42, 0, 1200), (0x43, 1, 1000), (0x44, 1, 1000), (0x45, 0, 1000), (0x46, 10000, 65000),
        (0x47, 0, 1), (0x48, 0, 100), (0x49, 0, 500), (0x4A, 0, 1)] ++
      [(0x50, 10, 5000), (0x51, 0, 20000), (0x52, 100, 2000), (0x53, 1000, 30000), (0x54, 5000, 65000), (0x55, 0, 5000)] ++
      [(0x60, 0, 2000), (0x61, 0, 2000), (0x62, 0, 2000), (0x63, 0, 2000), (0x64, 0, 2000), (0x65, 0, 2000), (0x66, 0, 2000),
        (0x67, 0, 2000)] ++
      [(0x70, 0, 4), (0x71, 0, 50), (0x72, 0, 600), (0x73, 1, 250), (0x74, 10, 1000), (0x75, 10, 1000), (0x76, 0, 20000),
        (0x80, 5000, 120000), (0x90, 0, 3), (0x91, 0, 1000)] := by
  decide +kernel

/-- SET_PARAM of Pmax 5000: half of it does not hold the floors of 5800; 200000 is clamped (R165, R183). -/
theorem test_setParam_pmax :
    replied (after (.setParam .high (0x80 :: w 5000)) (asks 0x40 (0x80 :: w 5000) fresh)) = [.u8 5, .u8 0x80, .i32 40000] ∧
      replied (after (.setParam .high (0x80 :: w 200000)) (asks 0x40 (0x80 :: w 200000) fresh)) = [.u8 1, .u8 0x80, .i32 120000] := by
  decide

/-- GET_PARAM of an unlisted id carries the value 0 (R183). -/
theorem test_getParam :
    replied (after (.getParam [0x12]) (asks 0x41 [0x12] fresh)) = [.u8 5, .u8 0x12, .i32 0] ∧
      replied (after (.getParam [0x20]) (asks 0x41 [0x20] fresh)) = [.u8 0, .u8 0x20, .i32 768] := by decide

/-- A store is accepted with state WRITING; a second one is refused BUSY (R189). -/
theorem test_profileStore :
    let s := after (.profileStore []) (asks 0x48 [] fresh)
    replied s = [.u8 0, .u8 1] ∧ replied (after (.profileStore []) (asks 0x48 [] s)) = [.u8 2, .u8 1] := by decide

/-- The completion posts PROFILE_END with the time it took (R189). -/
theorem test_profileStoreCompletion :
    let s := { (after (.profileStore []) (asks 0x48 [] fresh)) with now := 30 }
    reported (after (.profileStoreCompletion true) s) = [(0xE5, [.u8 0, .u16 30])] ∧
      (after (.profileStoreCompletion true) s).pst.valid = true ∧
      reported (after (.profileStoreCompletion false) s) = [(0xE5, [.u8 1, .u16 30])] := by decide

/-- A part that has never been stored cannot be restored; the factory set can (R190). -/
theorem test_profileRestore_profileDefaults :
    replied (after (.profileRestore .high []) (asks 0x49 [] fresh)) = [.u8 3, .u8 0, .u8 0] ∧
      replied (after (.profileDefaults .high []) (asks 0x4A [] fresh)) = [.u8 0, .u8 0, .u8 0] ∧
      replied (after (.profileDefaults .high []) (asks 0x4A [] run)) = [.u8 3, .u8 0, .u8 0] := by decide

/-- Power lost during a store loses the stored profile (R188). -/
theorem test_powerLost_powerOn :
    let s := after (.profileStore []) (asks 0x48 [] { fresh with pst := { fresh.pst with stored := .passes factoryConfig } })
    let t := after (.powerOn { a := true, b := false }) (after .powerLost s)
    (after .powerLost s).power = .off ∧ t.pst.valid = false ∧ t.pst.defaulted = true ∧ t.wnc.enc = { a := true, b := false } := by decide

/-- RESET held low stops the outputs (R188). -/
theorem test_resetAssert : driveLines (after .resetAssert (after (.driveUpdate .df 0) run)) .df = bridgeOff := by decide

/-- UNIT_RESET STEER interrupts a moving shift; the gear is the pending one (R54). -/
theorem test_unitResetSteer :
    let t := after (.unitResetSteer [0]) (asks 0x50 [0] (shifting .moving 40 0 0 run))
    replied t = [.u8 0, .u8 0] ∧ t.spg.shift.gear = .high ∧ reported t = [(0xE2, [.u8 3, .u8 1, .u8 1])] := by decide

/-- UNIT_RESET DRIVE in HOLD brakes both axles (R82). -/
theorem test_unitResetDrive : (after (.unitResetDrive [1]) (asks 0x50 [1] held)).drc.dr.brake = 1000 := by decide

/-- UNIT_RESET WINCH ends a pull with RESET (R112). -/
theorem test_unitResetWinch :
    let t := after (.unitResetWinch [2]) (asks 0x50 [2] (pulling 800 (-600) run))
    t.wnc.state = .braked ∧ t.wnc.position = 800 ∧ reported t = [(0xE3, [.u8 7, .i32 200, .u8 1, .u8 0, .u8 0, .u8 0])] := by decide

/-- UNIT_RESET LIGHTS starts the off-action afresh (R130). -/
theorem test_unitResetLights : (lightOfState (after (.unitResetLights [3]) (asks 0x50 [3] (ramping 2 fresh))) 0).runner = none := by
  decide

/-- UNIT_RESET BATTERY is refused in CUTOFF (R162). -/
theorem test_unitResetBattery :
    replied (after (.unitResetBattery [4]) (asks 0x50 [4] cutoff)) = [.u8 3, .u8 4] ∧
      (after (.unitResetBattery [4]) (asks 0x50 [4] nearWarn)).bmn.warnRun = 0 := by decide

/-- UNIT_RESET LINK zeroes the counts (R182). -/
theorem test_unitResetLink :
    (after (.unitResetLink [5]) (asks 0x50 [5] (link (fun l => { l with counts := { l.counts with crc := 3 } }) fresh))).lif.counts =
      zeroCounts := by decide

/-- GET_STATUS in HOLD (R185, section 10.8). -/
theorem test_getStatus :
    (replied (after (.getStatus .high []) (asks 0x51 [] { held with now := 70000 }))).take 5 =
      [.u8 0, .u8 2, .u8 0, .u16 65535, .u8 0] := by decide

/-- GET_LINK_COUNTS in the order of R182. -/
theorem test_getLinkCounts :
    replied (after (.getLinkCounts [0]) (asks 0x52 [0] (link (fun l => { l with counts := {
      crc := 1, framing := 2, noise := 3, overrun := 4, gap := 5, breaks := 6, reportDrop := 7 } }) fresh))) =
      [.u8 0, .u8 1, .u8 2, .u8 3, .u8 4, .u8 5, .u8 6, .u8 7] := by decide

/-- With no command waiting one millisecond passes (log 1). -/
theorem test_step_idle :
    (match step fresh with | .next t => (t.now, t.drc.clock, t.wnc.clock) | .fault _ => (9, 9, 9) | .refused _ => (9, 9, 9)) =
      (1, 1, 1) := by decide


/-! ## Witnesses: for each statement with hypotheses, states and operands that meet them, clause by clause -/

/-- The part with its power off. -/
def dark (s : State) : State := { s with power := .off }

/-- LIF's receiver replaced. -/
def receiving (r : Receiver) (s : State) : State := link (fun l => { l with rx := r, gapSince := some s.now }) s

/-- The line at rest in a break. -/
def broken (s : State) : State := link (fun l => { l with inBreak := true }) s

/-- A frame that waits to be sent. -/
def waitingFrame : TxFrame := { type := 0x82, fields := [.u8 0, .u8 2] }

theorem witness_StepRunsTheFrontCommand :
    ({ fresh with pending := [Instr.lineBreak, .breakEnd] } : State).pending = .lineBreak :: [.breakEnd] ∧
    (fresh.pending = [] ∧ fresh.power = .running) ∧ ((dark fresh).pending = [] ∧ (dark fresh).power ≠ .running) := by decide

theorem witness_StoppedPartIsInactive :
    (fresh.power ≠ .off ∧ fresh.pst.writing = none) ∧ ((storing fresh).power ≠ .off ∧ (storing fresh).pst.writing ≠ none) ∧
    (dark fresh).power = .off ∧ (dark run).power ≠ .running ∧ Instr.lineBreak ≠ .resetAssert ∧ Instr.lineBreak ≠ .powerLost ∧
    (let s := { run with drc := { run.drc with df := { run.drc.df with output := 1 }, dr := { run.drc.dr with output := -1 } } }
     s.power = .running ∧ 0 < (s.drc.chan .df).output ∧ (s.drc.chan .dr).output < 0) ∧ (run.drc.chan .df).output = 0 ∧
    ((pulling 800 (-5) run).wnc.state = .pull ∧ (pulling 800 (-5) run).wnc.duty ≤ 0) ∧
    (run.wnc.state = .braked ∧ run.csc.chassis ≠ .cutoff ∧ cutoff.wnc.state = .braked ∧ cutoff.csc.chassis = .cutoff) ∧
    run.lif.tx = none := by
  decide

theorem witness_StoppedPartIsInactive_other_command : ∀ enc, Instr.lineBreak ≠ .powerOn enc := fun _ h => nomatch h

theorem witness_PowerOnLoadsTheProfile :
    (let s := { dark fresh with pst := { fresh.pst with stored := .passes factoryConfig } }
     s.pst.stored = .passes factoryConfig ∧ s.pst.writing = none) ∧
    (fresh.pst.stored = .failsCheck ∨ fresh.pst.writing ≠ none) ∧ (storing fresh).pst.writing ≠ none := by decide

/-- A stored profile whose L0 has the off-action PATTERN 0 of one step. -/
def offPattern : WorkingConfig :=
  let p := mapAsk 0 0 0 0 1 0 0 0
  (after (.lightMap p) (asks 0x31 p (after (.patternAlloc [1]) (asks 0x32 [1] fresh)))).cfg

theorem witness_PowerOnLoadsTheProfile_off_pattern :
    let s := { dark fresh with pst := { fresh.pst with stored := .passes offPattern } }
    let t := after (.powerOn { a := true, b := false }) s
    s.pst.stored = .passes offPattern ∧ s.pst.writing = none ∧ (mapOf t 0).offAction = .pattern 0 ∧
      t.cfg.lcu.table[0].steps[0]? = some 0 ∧ (mapOf t 1).offAction = .level 0 := by decide

set_option maxRecDepth 4096 in
theorem witness_CharacterDrivesTheReceiver :
    fresh.power = .running ∧ fresh.lif.inBreak = false ∧ fresh.lif.rx = .hunt ∧ (0xC2 : Byte) ≠ 0xC3 ∧
    (receiving .length fresh).lif.rx = .length ∧ (1 ≤ (1 : Byte).toNat ∧ (40 : Byte).toNat ≤ 40) ∧
    ((0 : Byte).toNat = 0 ∧ 41 ≤ (41 : Byte).toNat) ∧
    ((receiving (.body 2 [0x18]) fresh).lif.rx = .body 2 [0x18] ∧ [(0x18 : Byte)].length + 1 = 2) ∧
    ((receiving (.body 3 [0x18]) fresh).lif.rx = .body 3 [0x18] ∧ [(0x18 : Byte)].length + 1 ≠ 3) ∧
    ((receiving (.check [2]) fresh).lif.rx = .check [2] ∧ (0x1A : Byte) ≠ frameCrc [2]) := by decide

theorem witness_LineErrorsAreCounted :
    (let c := { cleanChar 0x55 with start := { a := true, b := true, c := false } }
     majority c.start = true) ∧
    (let c := { cleanChar 0x55 with stop := { a := true, b := false, c := false } }
     majority c.start = false ∧ majority c.stop = false) ∧
    (let s := { receiving .length fresh with now := 2 }
     s.power = .running ∧ s.lif.rx ≠ .hunt ∧ s.lif.gapSince = some 0 ∧ 0 + 2 ≤ s.now) ∧
    (let s := { receiving .length fresh with now := 1 }
     s.lif.gapSince = some 0 ∧ s.now < 0 + 2) ∧
    (let c := { cleanChar 0x55 with start := { a := true, b := false, c := false } }
     majority c.start = false ∧ majority c.stop = true ∧ isNoisy c = true ∧ isNoisy (cleanChar 0x55) = false) := by decide

theorem witness_GoodFrameArrives :
    (let s := receiving (.check [2]) fresh
     s.power = .running ∧ s.lif.inBreak = false ∧ s.lif.rx = .check [2] ∧ s.lif.intake.length < 4) ∧
    (let s := link (fun l => { l with intake := List.replicate 4 { type := 2, payload := [] } }) (receiving (.check [2]) fresh)
     4 ≤ s.lif.intake.length) := by decide

set_option maxRecDepth 4096 in
theorem witness_FramesAreReceivedAsSent :
    run.power = .running ∧ run.lif.inBreak = false ∧ run.lif.rx = .hunt ∧ (List.replicate 39 (0xC3 : Byte)).length ≤ 39 ∧
    (0x00 : Byte) ≠ crc8 [1, 2] := by decide

theorem witness_BreakFlushesTheIntake :
    (fresh.power = .running ∧ fresh.lif.inBreak = false ∧ fresh.csc.chassis ≠ .run ∧ fresh.csc.chassis ≠ .hold) ∧
    ((broken fresh).power = .running ∧ (broken fresh).lif.inBreak = true) := by decide

theorem witness_LinkLossEntersFailsafe :
    (run.power = .running ∧ run.lif.inBreak = false ∧ run.csc.chassis = .run ∧ held.csc.chassis = .hold) ∧
    (let s := { link (fun l => { l with lastGood := some 100 }) run with now := 350 }
     s.lif.lastGood = some 100 ∧ s.lif.loss = false ∧ s.cfg.csc.linkTimeout ≤ s.now - 100) ∧
    (let s := { link (fun l => { l with lastGood := some 100 }) held with now := 2100 }
     s.lif.lastGood = some 100 ∧ s.lif.loss = false ∧ s.cfg.csc.holdLinkTimeout ≤ s.now - 100) ∧
    run.lif.lastGood = none ∧ cutoff.csc.chassis = .cutoff ∧ failsafe.csc.chassis = .failsafe ∧
    (let s := { link (fun l => { l with lastGood := some 100 }) run with now := 349 }
     s.csc.chassis = .run ∧ s.now - 100 < s.cfg.csc.linkTimeout) ∧
    (let s := { link (fun l => { l with lastGood := some 100 }) held with now := 2099 }
     s.csc.chassis = .hold ∧ s.now - 100 < s.cfg.csc.holdLinkTimeout) ∧
    (let s := { link (fun l => { l with lastGood := some 100, loss := true }) run with now := 350 }
     s.lif.loss = true ∧ s.csc.chassis = .run ∧ s.cfg.csc.linkTimeout ≤ s.now - 100 ∧
      (link (fun l => { l with loss := true }) held).csc.chassis = .hold) := by decide

theorem witness_EachTakenRequestGetsOneReply :
    (requestOf (.hold []) = some (0x02, []) ∧ Takes 0x02 [] (asks 0x02 [] run)) ∧ ¬Takes 0x02 [] run ∧
    (isRequestType 0x05 = false ∧ Takes 0x05 [1] (asks 0x05 [1] run)) ∧
    (requestOf (.hold [1]) = some (0x02, [1]) ∧ Takes 0x02 [1] (asks 0x02 [1] run) ∧ lengthAllowed 0x02 1 = false) := by decide

theorem witness_TransmitterAndTelemetry :
    (let s := link (fun l => { l with replies := [waitingFrame] }) fresh
     s.power = .running ∧ s.lif.tx = none ∧ s.lif.replies = waitingFrame :: []) ∧
    (let s := link (fun l => { l with reports := [waitingFrame] }) fresh
     s.lif.tx = none ∧ s.lif.replies = [] ∧ s.lif.reports = waitingFrame :: []) ∧
    (fresh.lif.replies = [] ∧ fresh.lif.reports = [] ∧ fresh.lif.tx = none) ∧
    (let s := link (fun l => { l with tx := some { source := .reply, bytes := [1] } }) fresh
     s.lif.tx = some { source := .reply, bytes := [1] } ∧ s.lif.tx ≠ none) ∧
    (let s := link (fun l => { l with tx := some { source := .report, bytes := [1] } }) fresh
     s.lif.tx = some { source := .report, bytes := [1] }) ∧
    (let s := { link (fun l => { l with telNext := some 20 }) fresh with now := 20 }
     s.lif.telNext = some 20 ∧ 20 ≤ s.now) ∧
    (let s := { link (fun l => { l with telNext := some 20 }) fresh with now := 19 }
     s.lif.telNext = some 20 ∧ s.now < 20) ∧ fresh.lif.telNext = none := by decide

theorem witness_LinkCountsAreReadAndCleared :
    (Takes 0x52 [1] (asks 0x52 [1] run) ∧ (1 : Byte).toNat ≤ 1) ∧ (Takes 0x52 [2] (asks 0x52 [2] run) ∧ 2 ≤ (2 : Byte).toNat) ∧
    Takes 0x50 [5] (asks 0x50 [5] run) := by decide

theorem witness_QueuesNeverHoldMoreThanFour :
    ∃ s t : State, QueuesBounded s ∧ step s = .next t ∧ s.lif.intake.length = 4 := by
  refine ⟨{ link (fun l => { l with intake := List.replicate 4 { type := 2, payload := [] }, rx := .check [2] }) fresh with
    pending := [.characterReceived (cleanChar 0x1B)] }, _, ?_, rfl, ?_⟩
  · unfold QueuesBounded; decide
  · decide

theorem witness_SetMotionByChassisState :
    (let p := h 30 ++ h (-1400)
     Takes 0x01 p (asks 0x01 p fresh) ∧ p.length = 4 ∧ (asks 0x01 p fresh).csc.chassis = .standby ∧
      (max (-1000) (min 1000 (i16At p 0))).natAbs ≤ fresh.cfg.drc.neutral ∧ max (-1000) (min 1000 (i16At p 0)) = i16At p 0) ∧
    (let p := h (-31) ++ h 0
     Takes 0x01 p (asks 0x01 p failsafe) ∧ p.length = 4 ∧ (asks 0x01 p failsafe).csc.chassis = .failsafe ∧
      failsafe.cfg.drc.neutral < (max (-1000) (min 1000 (i16At p 0))).natAbs) ∧
    (let p := h 1001 ++ h 0
     Takes 0x01 p (asks 0x01 p run) ∧ (asks 0x01 p run).csc.chassis = .run ∧ max (-1000) (min 1000 (i16At p 0)) ≠ i16At p 0 ∧
      (asks 0x01 p held).csc.chassis = .hold ∧ Takes 0x01 p (asks 0x01 p cutoff) ∧ (asks 0x01 p cutoff).csc.chassis = .cutoff) := by
  decide

theorem witness_HoldParksTheVehicle :
    (Takes 0x02 [] (asks 0x02 [] run) ∧ (asks 0x02 [] run).csc.chassis = .run) ∧
    (Takes 0x02 [] (asks 0x02 [] held) ∧ (asks 0x02 [] held).csc.chassis = .hold) ∧
    (Takes 0x02 [] (asks 0x02 [] cutoff) ∧ (asks 0x02 [] cutoff).csc.chassis = .cutoff) ∧
    (let p := h (-1001) ++ h 1000
     Takes 0x01 p (asks 0x01 p held) ∧ p.length = 4 ∧ (asks 0x01 p held).csc.chassis = .hold) := by decide

/-- REVERSE stands across the entry into HOLD until the next update of the channel (R79, R118). -/
theorem test_reverseStandsAtHold :
    let s := asks 0x02 [] { run with drc := { run.drc with dr := { run.drc.dr with output := -200, lastOutput := -200 } } }
    let t := after (.hold []) s
    (t.drc.dr.output, reverseFlag t, reverseFlag (after (.driveUpdate .dr 0) t)) = (0, true, false) := by decide

/-- A SET_PARAM of Pmax after an allocation shows in GET_BUDGET only from the next allocation on (R171). -/
theorem test_getBudget_published :
    let s := conf (fun c => { c with pba := { c.pba with pmax := 60000 } }) fresh
    let a : State := { s with pba := { s.pba with allocated := true } }
    ((replied (after (.getBudget []) (asks 0x3D [] a)))[3]?, (replied (after (.getBudget []) (asks 0x3D [] s)))[3]?) =
      (some (.u32 40000), some (.u32 60000)) := by decide

/-- A suspended operation under the given reasons. -/
def suspending (k : WinchOp) (r : Reasons) (s : State) : State :=
  winch (fun x => { x with state := .suspended, op := some k, speed := 300, reasons := r }) s

/-- A spool at a position and a duty. -/
def spooling (k : WinchOp) (d : WinchDir) (position duty : Int) (s : State) : State :=
  winch (fun x => { x with
    state := k.driveState, op := some k, dir := d, speed := 600, position := position, duty := duty }) (ready s)

theorem witness_ResumeReturnsToRun :
    (Takes 0x03 [] (asks 0x03 [] held) ∧ (asks 0x03 [] held).csc.chassis = .hold ∧ (asks 0x03 [] held).wnc.state ≠ .suspended) ∧
    (let s := asks 0x03 [] (suspending .spoolIn { host := true, hold := true, budget := false } held)
     Takes 0x03 [] s ∧ s.csc.chassis = .hold ∧ s.wnc.reasons.host = true) ∧
    (let s := asks 0x03 [] (suspending .spoolIn { host := false, hold := true, budget := false } held)
     Takes 0x03 [] s ∧ s.csc.chassis = .hold ∧ s.wnc.state = .suspended ∧ s.wnc.reasons.host = false ∧ s.wnc.reasons.budget = false ∧
      s.wnc.op = some .spoolIn ∧ s.wnc.valid = false ∧ WinchOp.spoolIn ≠ .pull) ∧
    (let s := suspending .pull { host := false, hold := true, budget := false } (pulling 400 0 held)
     s.wnc.op = some .pull ∧ s.wnc.dir = .inward ∧ s.wnc.position ≤ s.wnc.target) ∧
    (let s := suspending .spoolIn { host := false, hold := true, budget := false } (spooling .spoolIn .inward 160 0 held)
     s.wnc.op = some .spoolIn ∧ s.wnc.valid = true ∧ s.wnc.dir = .inward ∧ s.wnc.position ≤ s.cfg.wnc.inner) ∧
    (Takes 0x03 [] (asks 0x03 [] run) ∧ (asks 0x03 [] run).csc.chassis ≠ .hold) := by decide

/-- CUTOFF with a lowest compensated cell of `mv`. -/
def cutoffAt (mv : Nat) : State := { cutoff with bmn := { cutoff.bmn with pub := { cutoff.bmn.pub with minVc := mv } } }

theorem witness_CutoffReleaseChecksTheCells :
    (let s := asks 0x04 [] (cutoffAt 3400)
     Takes 0x04 [] s ∧ s.csc.chassis = .cutoff ∧ s.cfg.bmn.levels.shed + s.cfg.bmn.levels.hysteresis = 3400 ∧ s.bmn.pub.minVc = 3400) ∧
    (let s := asks 0x04 [] (cutoffAt 3399)
     Takes 0x04 [] s ∧ s.csc.chassis = .cutoff ∧ s.bmn.pub.minVc < s.cfg.bmn.levels.shed + s.cfg.bmn.levels.hysteresis) ∧
    (Takes 0x04 [] (asks 0x04 [] run) ∧ (asks 0x04 [] run).csc.chassis ≠ .cutoff) := by decide

theorem witness_SteerModeStartsTheBlends :
    (Takes 0x08 [4] (asks 0x08 [4] run) ∧ 4 ≤ (4 : Byte).toNat) ∧
    (Takes 0x08 [0] (asks 0x08 [0] run) ∧ (0 : Byte).toNat = (asks 0x08 [0] run).smx.target.code) ∧
    (Takes 0x08 [3] (asks 0x08 [3] run) ∧ SteerMode.crab.code = (3 : Byte).toNat ∧ SteerMode.crab ≠ (asks 0x08 [3] run).smx.target ∧
      (asks 0x08 [3] run).csc.chassis = .run ∧ (asks 0x08 [3] run).cfg.smx.blendMs ≠ 0 ∧ (asks 0x08 [3] held).csc.chassis = .hold) ∧
    (Takes 0x08 [3] (asks 0x08 [3] fresh) ∧ (asks 0x08 [3] fresh).csc.chassis ≠ .run ∧ (asks 0x08 [3] fresh).csc.chassis ≠ .hold) ∧
    (conf (fun c => { c with smx := { c.smx with blendMs := 0 } }) run).cfg.smx.blendMs = 0 := by decide

/-- FRONT's load replaced. -/
def loading (l : CurveLoad) (s : State) : State := { s with smx := { s.smx with frontLoad := l } }

/-- A shadow of zeros. -/
def flat : CurveTable := Vector.replicate 17 0

theorem witness_CurveBeginOpensTheLoad :
    (Takes 0x09 [0] (asks 0x09 [0] run) ∧ curveIdOf (0 : Byte).toNat = some .front ∧ (asks 0x09 [0] run).pst.writing = none ∧
      ((asks 0x09 [0] run).smx.load .front).state ≠ .pending) ∧
    (let s := asks 0x09 [0] (loading { state := .pending, pointer := 17, shadow := flat } run)
     Takes 0x09 [0] s ∧ (s.smx.load .front).state = .pending) ∧
    (asks 0x09 [2] (storing run)).pst.writing ≠ none ∧ curveIdOf (2 : Byte).toNat = some .throttle ∧
    (Takes 0x09 [3] (asks 0x09 [3] run) ∧ 3 ≤ (3 : Byte).toNat) := by decide

theorem witness_CurveDataFillsTheShadow :
    (let p := 0 :: h (-1001) ++ h 5
     let s := asks 0x0A p (loading { state := .opened, pointer := 16, shadow := flat } run)
     Takes 0x0A p s ∧ curveIdOf (0 : Byte).toNat = some .front ∧ lengthAllowed 0x0A ((h (-1001) ++ h 5).length + 1) = true ∧
      s.pst.writing = none ∧ (s.smx.load .front).state = .opened ∧ (s.smx.load .front).pointer ≤ 17) ∧
    (let p := 0 :: h 1
     Takes 0x0A p (asks 0x0A p run) ∧ lengthAllowed 0x0A ((h 1).length + 1) = true ∧
      ((asks 0x0A p run).smx.load .front).state ≠ .opened) ∧
    (let p := 3 :: h 1
     Takes 0x0A p (asks 0x0A p run) ∧ lengthAllowed 0x0A ((h 1).length + 1) = true ∧ 3 ≤ (3 : Byte).toNat) ∧
    (storing run).pst.writing ≠ none := by decide

theorem witness_CurveCommitChecksTheTable :
    (let s := asks 0x0B [0] (loading { state := .opened, pointer := 17, shadow := flat } run)
     Takes 0x0B [0] s ∧ curveIdOf (0 : Byte).toNat = some .front ∧ s.pst.writing = none ∧ (s.smx.load .front).state = .opened ∧
      flat[8] = 0 ∧ ∀ i : Fin 16, flat[i.val] ≤ flat[i.val + 1]) ∧
    (let s := asks 0x0B [0] (loading { state := .opened, pointer := 17, shadow := flat.set 8 1 } run)
     Takes 0x0B [0] s ∧ (s.smx.load .front).state = .opened ∧ ((s.smx.load .front).shadow)[8] ≠ 0) ∧
    (let t := (flat.set 2 5).set 12 7
     let s := asks 0x0B [0] (loading { state := .opened, pointer := 17, shadow := t } run)
     Takes 0x0B [0] s ∧ (s.smx.load .front).state = .opened ∧ t[8] = 0 ∧ t[2 + 1] < t[2] ∧
      ∀ j : Fin 16, j < 2 → t[j.val] ≤ t[j.val + 1]) ∧
    (Takes 0x0B [0] (asks 0x0B [0] run) ∧ ((asks 0x0B [0] run).smx.load .front).state ≠ .opened ∧ (storing run).pst.writing ≠ none) ∧
    (Takes 0x0B [3] (asks 0x0B [3] run) ∧ 3 ≤ (3 : Byte).toNat) ∧
    (let s := loading { state := .pending, pointer := 17, shadow := flat } held
     s.power = .running ∧ (s.smx.load (axleCurve .front)).state = .pending) ∧
    (let s := { run with smx := { run.smx with
        rearLoad := { state := .pending, pointer := 17, shadow := flat }, throttleLoad := { state := .pending, pointer := 17, shadow := flat } } }
     s.power = .running ∧ (s.smx.load .throttle).state = .pending ∧ s.smx.rearLoad.state = .pending) := by decide

/-- The front axle blends from COUNTER toward FRONT. -/
def blending (elapsed : Nat) (s : State) : State :=
  { s with smx := { s.smx with
      frontBlend := { fromKind := .mode, fromMode := .counter, frozen := 0, elapsedUs := elapsed, active := true } } }

theorem witness_AxleFrameMixesTheAngle :
    (run.power = .running ∧ run.csc.chassis = .run ∧ (run.smx.load (axleCurve .front)).state ≠ .pending ∧
      (run.smx.blend .front).active = false) ∧
    (let b := (blending 0 run).smx.blend .front
     b.active = true ∧ min 256 (min (b.elapsedUs + 1000 * run.cfg.spg.period .fs) 2020000 * 256 / (run.cfg.smx.blendMs * 1000)) ≠ 256) ∧
    (let b := (blending 390000 run).smx.blend .front
     b.active = true ∧ run.cfg.smx.blendMs = 400 ∧
      min 256 (min (b.elapsedUs + 1000 * run.cfg.spg.period .fs) 2020000 * 256 / (run.cfg.smx.blendMs * 1000)) = 256) ∧
    (failsafe.power = .running ∧ failsafe.csc.chassis = .failsafe ∧ (failsafe.smx.load (axleCurve .rear)).state ≠ .pending ∧
      failsafe.cfg.smx.failsafeSteer = .center) ∧
    ((after (.setParam .high ([0x23] ++ w 1)) (asks 0x40 ([0x23] ++ w 1) failsafe)).cfg.smx.failsafeSteer = .holdAngle ∧
      held.csc.chassis = .hold) ∧
    ((∀ i : Fin 17, (-1000 ≤ run.cfg.smx.frontTable[i] ∧ run.cfg.smx.frontTable[i] ≤ 1000) ∧ -1000 ≤ run.cfg.smx.rearTable[i] ∧
      run.cfg.smx.rearTable[i] ≤ 1000) ∧ run.csc.setpoint.steer = 437 ∧ (run.smx.blend .front).frozen = 0 ∧ run.smx.angle .front = 0) := by
  decide

theorem witness_ServoEndpointsAreAccepted :
    (let p := 0 :: h 4000 ++ h 4001 ++ h 20000
     let s := asks 0x10 p run
     Takes 0x10 p s ∧ p.length = 7 ∧ servoChOf (u8At p 0) = some .fs ∧ s.pst.writing = none ∧ (4000 < 4001 ∧ 4001 < 20000) ∧
      max 4000 20000 ≤ (((s.spg.chan .fs).periodMs : Int) * 1000 - 500) * 8) ∧
    (let p := 2 :: h 5000 ++ h 0 ++ h 5000
     Takes 0x10 p (asks 0x10 p run) ∧ p.length = 7 ∧ servoChOf (u8At p 0) = some .sh ∧ u16At p 1 = u16At p 5) ∧
    (storing run).pst.writing ≠ none ∧
    (let p := 3 :: h 5000 ++ h 6000 ++ h 7000
     Takes 0x10 p (asks 0x10 p run) ∧ p.length = 7 ∧ 3 ≤ u8At p 0) ∧
    (let e : Endpoints := { left := 4000, center := 12000, right := 20000 }
     let s := { held with spg := { held.spg with fs := { held.spg.fs with waiting := some e } } }
     s.power = .running ∧ (s.spg.chan .fs).waiting = some e ∧ s.csc.chassis = .hold) ∧
    (let e : Endpoints := { left := 4000, center := 4001, right := 4002 }
     let s := { run with spg := { run.spg with fs := { run.spg.fs with waiting := some e } } }
     s.csc.chassis = .run ∧ (e.left < e.center ∧ e.center < e.right) ∧
      -1000 ≤ (after (.servoFrameStart .fs) s).smx.frontAngle ∧ (after (.servoFrameStart .fs) s).smx.frontAngle ≤ 1000) := by decide

theorem witness_SteeringServoSlewsAndEmits :
    (run.power = .running ∧ (run.spg.chan (axleServo .rear)).waiting = none ∧ run.csc.chassis = .run ∧
      0 ≤ (run.spg.chan (axleServo .rear)).acc ∧ (run.spg.chan (axleServo .rear)).acc < 8 ∧
      0 ≤ ((after (.servoFrameStart .rs) run).spg.chan .rs).pOut) ∧ fresh.csc.chassis = .standby ∧ held.csc.chassis = .hold ∧
    (run.spg.sh.waiting = none ∧ 0 ≤ run.spg.sh.acc ∧ run.spg.sh.acc < 8 ∧ 0 ≤ (after (.servoFrameStart .sh) run).spg.sh.pOut ∧
      cutoff.csc.chassis = .cutoff ∧ cutoff.spg.sh.waiting = none ∧ failsafe.csc.chassis = .failsafe) := by decide

theorem witness_EightPulsesCarryTheWholePulse :
    let s := { held with spg := { held.spg with fs := { held.spg.fs with pOut := 13748, acc := 7 } } }
    s.power = .running ∧ s.csc.chassis = .hold ∧ (s.spg.chan .fs).waiting = none ∧ 0 ≤ (s.spg.chan .fs).acc ∧
      (s.spg.chan .fs).acc < 8 ∧ 0 ≤ (s.spg.chan .fs).pOut := by decide

/-- The shift record with a phase and a pending gear. -/
def inPhase (p : ShiftPhase) (g : Option Gear) (s : State) : State :=
  { s with spg := { s.spg with shift := { s.spg.shift with phase := p, pending := g } } }

theorem witness_GearStartsAndCancelsShifts :
    (Takes 0x11 [2] (asks 0x11 [2] run) ∧ 2 ≤ (2 : Byte).toNat ∧ (asks 0x11 [2] run).csc.chassis = .run) ∧
    (Takes 0x11 [1] (asks 0x11 [1] fresh) ∧ Gear.high.code = (1 : Byte).toNat ∧ (asks 0x11 [1] fresh).csc.chassis = .standby) ∧
    (let s := asks 0x11 [0] run
     Takes 0x11 [0] s ∧ Gear.low.code = (0 : Byte).toNat ∧ s.csc.chassis = .run ∧ s.spg.shift.phase = .idle ∧ Gear.low = s.spg.shift.gear) ∧
    (let s := asks 0x11 [1] (inPhase .moving (some .high) held)
     Takes 0x11 [1] s ∧ s.csc.chassis = .hold ∧ s.spg.shift.phase ≠ .idle ∧ s.spg.shift.pending = some .high) ∧
    (let s := asks 0x11 [0] (inPhase .easing (some .high) run)
     Takes 0x11 [0] s ∧ s.spg.shift.phase = .easing ∧ Gear.low = s.spg.shift.gear ∧ s.spg.shift.pending ≠ some .low) ∧
    (let s := asks 0x11 [0] (inPhase .settling (some .high) run)
     Takes 0x11 [0] s ∧ s.spg.shift.phase = .settling ∧ Gear.low = s.spg.shift.gear ∧ s.spg.shift.pending ≠ some .low) ∧
    (let s := asks 0x11 [1] held
     Takes 0x11 [1] s ∧ s.csc.chassis = .hold ∧ s.spg.shift.phase = .idle ∧ Gear.high ≠ s.spg.shift.gear) := by decide

theorem witness_EasingShiftMovesOrIsAbandoned :
    (Takes 0x11 [2] (asks 0x11 [2] fresh) ∧ 2 ≤ (2 : Byte).toNat ∧ (asks 0x11 [2] fresh).csc.chassis = .standby) ∧
    (let s := shifting .moving 40 0 80 failsafe
     s.power = .running ∧ s.csc.chassis = .failsafe ∧ s.spg.shift.phase = .moving ∧ s.spg.shift.pending = some .high ∧
      s.spg.sh.waiting = none ∧
      slewToward s.spg.sh.pOut (gearEndpoint s.cfg.spg.shEnds .high) (effectiveSlew s.cfg.spg.shSlew s.pba.pub.servoFactor) ≠
        gearEndpoint s.cfg.spg.shEnds .high) ∧
    (let s := shifting .easing 40 0 80 run
     s.power = .running ∧ s.csc.chassis = .run ∧ s.spg.shift.phase = .easing ∧ s.spg.shift.pending = some .high ∧
      s.spg.sh.waiting = none ∧ s.drc.df.output.natAbs ≤ s.spg.shift.latched ∧ s.drc.dr.output.natAbs ≤ s.spg.shift.latched ∧
      slewToward s.spg.sh.pOut (gearEndpoint s.cfg.spg.shEnds .high) (effectiveSlew s.cfg.spg.shSlew s.pba.pub.servoFactor) ≠
        gearEndpoint s.cfg.spg.shEnds .high) ∧
    (let s := conf (fun c => { c with spg := { c.spg with shSlew := 0 } }) (shifting .easing 40 0 (-80) run)
     slewToward s.spg.sh.pOut (gearEndpoint s.cfg.spg.shEnds .high) (effectiveSlew s.cfg.spg.shSlew s.pba.pub.servoFactor) =
        gearEndpoint s.cfg.spg.shEnds .high ∧ s.cfg.spg.shiftSettle ≠ 0 ∧
      (conf (fun c => { c with spg := { c.spg with shiftSettle := 0 } }) s).cfg.spg.shiftSettle = 0) ∧
    (let s := shifting .easing 1479 0 81 run
     ¬s.drc.df.output.natAbs ≤ s.spg.shift.latched ∧ min (s.spg.shift.waitMs + s.cfg.spg.shPeriod) 5020 < s.cfg.spg.shiftWait) ∧
    (let s := shifting .easing 1480 0 (-81) run
     ¬s.drc.df.output.natAbs ≤ s.spg.shift.latched ∧ s.cfg.spg.shiftWait ≤ min (s.spg.shift.waitMs + s.cfg.spg.shPeriod) 5020) := by
  decide

theorem witness_SettlingShiftCompletes :
    (let s := shifting .settling 40 220 0 run
     s.power = .running ∧ s.csc.chassis = .run ∧ s.spg.shift.phase = .settling ∧ s.spg.shift.pending = some .high ∧
      s.spg.sh.waiting = none ∧ min (s.spg.shift.settleMs + s.cfg.spg.shPeriod) 1020 < s.cfg.spg.shiftSettle) ∧
    (let s := shifting .settling 40 230 0 failsafe
     s.csc.chassis = .failsafe ∧ s.cfg.spg.shiftSettle ≤ min (s.spg.shift.settleMs + s.cfg.spg.shPeriod) 1020) ∧
    (failsafe.power = .running ∧ failsafe.csc.chassis = .failsafe ∧ failsafe.spg.shift.phase = .idle ∧
      failsafe.spg.sh.waiting = none) ∧
    (held.power = .running ∧ held.csc.chassis = .hold ∧ held.spg.sh.waiting = none) := by decide

theorem witness_DriveUpdateFollowsTheThrottle :
    (run.power = .running ∧ run.csc.chassis = .run ∧ (run.smx.load .throttle).state ≠ .pending ∧ (run.drc.chan .df).fault = .normal ∧
      run.cfg.drc.tripLevel = 50000 ∧ min 50000 65000 ≤ run.cfg.drc.tripLevel ∧ digLocks run.drc.digRequested .df = false) ∧
    digLocks .lockFront .df = true ∧ digLocks .lockRear .dr = true := by decide

theorem witness_SlewNeverPassesThroughZero :
    (let n := slewOutput 2 4 3 (-5)
     1 ≤ 2 ∧ 1 ≤ 4 ∧ (0 : Int) < 3 ∧ (-5 : Int) < 0 ∧ n = 0) ∧ slewOutput 2 4 0 (-5) = -2 ∧ slewOutput 2 4 (-1) 5 = 0 ∧
    (run.power = .running ∧ run.csc.chassis = .run ∧ (run.smx.load .throttle).state ≠ .pending ∧ (run.drc.chan .df).fault = .normal ∧
      min 0 65000 ≤ run.cfg.drc.tripLevel ∧ digLocks run.drc.digRequested .df = false ∧ (run.drc.chan .df).cap = 1000 ∧
      min 0 65000 ≤ driveGrant .df run ∧ ((after (.driveUpdate .df 0) run).drc.chan .df).target ≠ 0) := by decide

theorem witness_DriveUpdateOutsideRun :
    (fresh.power = .running ∧ (fresh.smx.load .throttle).state ≠ .pending ∧ (fresh.drc.chan .df).fault = .normal ∧
      min 50000 65000 ≤ fresh.cfg.drc.tripLevel ∧ fresh.csc.chassis = .standby) ∧ cutoff.csc.chassis = .cutoff ∧
    held.csc.chassis = .hold ∧ (failsafe.csc.chassis = .failsafe ∧ digLocks failsafe.drc.digRequested .dr = false) ∧
    digLocks .lockRear .dr = true := by decide

/-- DR tripped, its retry time at 1000 ms. -/
def tripped (clock : Nat) (s : State) : State :=
  { s with drc := { s.drc with
      clock := BitVec.ofNat 32 clock
      dr := { s.drc.dr with fault := .tripped, history := [500], retry := some 1000, tripCount := 1 } } }

theorem witness_OvercurrentTripsAndLatches :
    (run.power = .running ∧ (run.smx.load .throttle).state ≠ .pending ∧ (run.drc.chan .dr).fault = .normal ∧
      run.cfg.drc.tripLevel < min 50001 65000 ∧ (run.drc.chan .dr).history.length < 2) ∧
    (let s := tripping 6001 [1000, 1620] run
     (s.drc.chan .dr).history = [1000, 1620] ∧ (s.drc.chan .dr).fault = .normal ∧ 5000 < (s.drc.clock - 1000).toNat) ∧
    (let s := tripping 6000 [10, 1000, 1620] run
     (s.drc.chan .dr).history = [10, 1000, 1620] ∧ (s.drc.clock - 1000).toNat ≤ 5000) ∧
    (let s := tripped 999 run
     (s.drc.chan .dr).fault = .tripped ∧ (s.drc.chan .dr).retry = some 1000 ∧ 2147483648 ≤ (s.drc.clock - 1000).toNat) ∧
    (let s := tripped 1000 run
     (s.drc.chan .dr).fault = .tripped ∧ (s.drc.chan .dr).retry = some 1000 ∧ (s.drc.clock - 1000).toNat < 2147483648 ∧
      (s.smx.load .throttle).state ≠ .pending ∧ s.csc.chassis = .run ∧ digLocks s.drc.digRequested .dr = false ∧
      (s.drc.chan .dr).output = 0 ∧ min 50000 65000 ≤ s.cfg.drc.tripLevel ∧ s.cfg.drc.tripLevel < min 50001 65000 ∧
      (s.drc.chan .dr).history.length < 2) ∧
    (let s := tripped 1000 { run with drc := { run.drc with digRequested := .lockRear } }
     s.csc.chassis = .run ∧ digLocks s.drc.digRequested .dr = true ∧ retryDue s.drc.clock (s.drc.chan .dr) = true) ∧
    ((tripped 1000 fresh).csc.chassis = .standby ∧ (tripped 1000 held).csc.chassis = .hold ∧
      (tripped 1000 failsafe).csc.chassis = .failsafe ∧ digLocks (tripped 1000 failsafe).drc.digRequested .dr = false) ∧
    (let s := tripped 2147484647 cutoff
     s.csc.chassis = .cutoff ∧ (s.drc.clock - 1000).toNat = 2147483647) ∧
    (let s := tripped 2147484648 cutoff
     (s.drc.clock - 1000).toNat = 2147483648) := by decide

theorem witness_DigAndFaultClear :
    (Takes 0x18 [3] (asks 0x18 [3] run) ∧ 3 ≤ (3 : Byte).toNat) ∧
    (Takes 0x18 [2] (asks 0x18 [2] cutoff) ∧ DigMode.lockFront.code = (2 : Byte).toNat) ∧
    (Takes 0x19 [2] (asks 0x19 [2] run) ∧ 2 ≤ (2 : Byte).toNat) ∧
    (Takes 0x19 [1] (asks 0x19 [1] run) ∧ driveCode .dr = (1 : Byte).toNat ∧ ((asks 0x19 [1] run).drc.chan .dr).fault ≠ .latched) ∧
    (let s := asks 0x19 [0] { run with drc := { run.drc with df := { run.drc.df with fault := .latched } } }
     Takes 0x19 [0] s ∧ driveCode .df = (0 : Byte).toNat ∧ (s.drc.chan .df).fault = .latched) := by decide

theorem witness_DriveRecordsStayInOrder : ∃ s t : State, DriveRecordsOk s ∧ step s = .next t ∧ t.drc.dr.fault = .latched := by
  refine ⟨{ tripping 2300 [1000, 1620] run with pending := [.driveUpdate .dr 50800] }, _, ?_, rfl, ?_⟩
  · unfold DriveRecordsOk driveChanOk; decide
  · decide

theorem witness_WinchRunReplacesTheOperation :
    (let p := 4 :: h 600
     Takes 0x20 p (asks 0x20 p run) ∧ p.length = 3 ∧ 4 ≤ u8At p 0) ∧
    (let p := 3 :: h 0
     Takes 0x20 p (asks 0x20 p failsafe) ∧ p.length = 3 ∧ u8At p 0 ≤ 3 ∧ u8At p 0 ≠ 2 ∧ (asks 0x20 p failsafe).csc.chassis = .failsafe) ∧
    (let p := 1 :: h 600
     let s := asks 0x20 p (winch (fun x => { x with position := 32000 }) (ready run))
     Takes 0x20 p s ∧ u8At p 0 ≤ 1 ∧ s.csc.chassis = .run ∧ s.wnc.valid = true ∧ s.cfg.wnc.outer ≤ s.wnc.position) ∧
    (let p := 1 :: h 0
     let s := asks 0x20 p (pulling 800 (-600) run)
     Takes 0x20 p s ∧ u8At p 0 ≤ 1 ∧ s.csc.chassis = .run ∧ s.wnc.state = .pull ∧ ¬s.cfg.wnc.outer ≤ s.wnc.position) ∧
    (let p := 0 :: h 2000
     let s := asks 0x20 p (suspending .spoolOut { host := false, hold := true, budget := false } held)
     Takes 0x20 p s ∧ u8At p 0 ≤ 1 ∧ s.csc.chassis = .hold ∧ s.wnc.state = .suspended ∧ s.wnc.valid = false) ∧
    (let p := 2 :: h 0
     Takes 0x20 p (asks 0x20 p failsafe) ∧ u8At p 0 = 2 ∧ (asks 0x20 p failsafe).csc.chassis = .failsafe) := by decide

theorem witness_WinchPullSeeksItsTarget :
    (let p := w 100 ++ h 600
     Takes 0x21 p (asks 0x21 p run) ∧ p.length = 6 ∧ (asks 0x21 p run).wnc.valid = false) ∧
    (let p := w 301 ++ h 600
     let s := asks 0x21 p (ready run)
     Takes 0x21 p s ∧ s.csc.chassis = .run ∧ s.wnc.valid = true ∧
      (max s.cfg.wnc.inner (min s.cfg.wnc.outer (Int.tdiv (i32At p 0 * 1000) s.cfg.wnc.umPerCount)) - s.wnc.position).natAbs ≤ 4) ∧
    (let p := w (-2000000) ++ h 1001
     let s := asks 0x21 p (ready held)
     Takes 0x21 p s ∧ s.csc.chassis = .hold ∧ s.wnc.valid = true ∧
      5 ≤ (max s.cfg.wnc.inner (min s.cfg.wnc.outer (Int.tdiv (i32At p 0 * 1000) s.cfg.wnc.umPerCount)) - s.wnc.position).natAbs) := by
  decide

theorem witness_SuspendAndResumeByTheHost :
    (let s := asks 0x22 [] (pulling 800 (-600) run)
     Takes 0x22 [] s ∧ s.wnc.state = .pull) ∧
    (let s := asks 0x22 [] (suspending .spoolIn { host := false, hold := true, budget := false } held)
     Takes 0x22 [] s ∧ s.wnc.state = .suspended) ∧
    (Takes 0x22 [] (asks 0x22 [] run) ∧ (asks 0x22 [] run).wnc.state = .braked) ∧
    (Takes 0x23 [] (asks 0x23 [] run) ∧ (asks 0x23 [] run).wnc.reasons.host = false) ∧
    (let s := asks 0x23 [] (suspending .spoolIn { host := true, hold := true, budget := false } held)
     Takes 0x23 [] s ∧ s.wnc.state = .suspended ∧ s.wnc.reasons.host = true ∧ s.wnc.reasons.hold = true) ∧
    (let s := asks 0x23 [] (suspending .pull { host := true, hold := false, budget := false } (pulling 400 0 run))
     Takes 0x23 [] s ∧ s.wnc.state = .suspended ∧ s.wnc.op = some .pull ∧
      s.wnc.reasons = { host := true, hold := false, budget := false } ∧ s.csc.chassis = .run ∧ s.wnc.dir = .inward ∧
      s.wnc.position ≤ s.wnc.target) ∧
    (let s := suspending .spoolIn { host := true, hold := false, budget := false } (winch (fun x => { x with position := 160 }) (ready run))
     s.wnc.op ≠ some .pull ∧ s.wnc.valid = true ∧ s.wnc.dir = .inward ∧ s.wnc.position ≤ s.cfg.wnc.inner) ∧
    (let s := suspending .spoolIn { host := true, hold := false, budget := false } (winch (fun x => { x with position := 161 }) (ready run))
     s.wnc.op ≠ some .pull ∧ s.wnc.dir = .inward ∧ ¬s.wnc.position ≤ s.cfg.wnc.inner) := by decide

theorem witness_ZeroAndLimitsAreSet :
    (let s := asks 0x24 [] (suspending .pull { host := true, hold := false, budget := false } (pulling 800 0 run))
     Takes 0x24 [] s ∧ s.wnc.state = .suspended ∧ s.wnc.op = some .pull) ∧
    (let s := asks 0x24 [] run
     Takes 0x24 [] s ∧ s.wnc.state = .braked) ∧
    (let s := asks 0x24 [] (conf (fun c => { c with wnc := { c.wnc with inner := -1, outer := 1 } }) (spooling .spoolIn .inward 5 0 run))
     Takes 0x24 [] s ∧ s.wnc.state = .spoolIn ∧ s.cfg.wnc.inner < 0 ∧ 0 < s.cfg.wnc.outer) ∧
    (let s := asks 0x24 [] (conf (fun c => { c with wnc := { c.wnc with inner := 0, outer := 1 } }) (spooling .spoolIn .inward 5 0 run))
     Takes 0x24 [] s ∧ s.wnc.state = .spoolIn ∧ s.wnc.dir = .inward ∧ 0 ≤ s.cfg.wnc.inner ∧ s.wnc.duty ≤ 0) ∧
    (let p := w 40 ++ w 40
     Takes 0x25 p (asks 0x25 p run) ∧ p.length = 8 ∧ (storing run).pst.writing ≠ none) ∧
    (let p := w (-2147483648) ++ w 2147483647
     let s := asks 0x25 p run
     Takes 0x25 p s ∧ s.pst.writing = none ∧
      max (-2000000) (min 2000000 (Int.tdiv (i32At p 0 * 1000) s.cfg.wnc.umPerCount)) = -2000000 ∧
      max (-2000000) (min 2000000 (Int.tdiv (i32At p 4 * 1000) s.cfg.wnc.umPerCount)) = 2000000 ∧ s.wnc.valid = false) ∧
    (let p := w 300 ++ w 8000
     let s := asks 0x25 p (spooling .spoolIn .inward 1200 (-5) run)
     Takes 0x25 p s ∧ s.wnc.valid = true ∧ s.wnc.state.driving = true ∧ s.wnc.dir = .inward ∧ s.wnc.duty ≤ 0 ∧
      s.wnc.position ≤ Int.tdiv (i32At p 0 * 1000) s.cfg.wnc.umPerCount) := by decide

theorem witness_ZeroAndLimitsAreSet_old_direction :
    (let s := asks 0x24 [] (conf (fun c => { c with wnc := { c.wnc with inner := 0, outer := 1 } }) (spooling .spoolOut .outward 5 (-1) run))
     Takes 0x24 [] s ∧ s.wnc.state = .spoolOut ∧ s.wnc.dir = .outward ∧ 0 ≤ s.cfg.wnc.inner ∧ s.wnc.duty < 0) ∧
    (let s := asks 0x24 [] (conf (fun c => { c with wnc := { c.wnc with inner := -1, outer := 0 } }) (spooling .spoolIn .inward 5 1 run))
     s.wnc.dir = .inward ∧ s.cfg.wnc.outer ≤ 0 ∧ 0 < s.wnc.duty) ∧
    (let p := w 300 ++ w 8000
     let s := asks 0x25 p (spooling .spoolOut .outward 1200 (-5) run)
     Takes 0x25 p s ∧ s.wnc.valid = true ∧ s.wnc.state.driving = true ∧ s.wnc.dir = .outward ∧ s.wnc.duty < 0 ∧
      s.wnc.position ≤ Int.tdiv (i32At p 0 * 1000) s.cfg.wnc.umPerCount) ∧
    (let p := w 300 ++ w 8000
     let s := asks 0x25 p (spooling .spoolOut .outward 1200 0 run)
     Takes 0x25 p s ∧ s.wnc.dir = .outward ∧ ¬s.wnc.duty < 0 ∧ ¬Int.tdiv (i32At p 4 * 1000) s.cfg.wnc.umPerCount ≤ s.wnc.position) := by decide

/-- A sweep's allocation not yet read by the winch. -/
def allocatedAt (stage : Stage) (winchGrant : Nat) (starved : Bool) (s : State) : State :=
  { s with
    wnc := { s.wnc with grantUnread := true }
    bmn := { s.bmn with stage := stage, pub := { s.bmn.pub with stage := stage } }
    pba := { s.pba with pub := { s.pba.pub with
      stage := stage, starved := starved, grant := { s.pba.pub.grant with winch := winchGrant } } } }

theorem witness_WinchUpdateDrivesTheDrum :
    (run.power = .running ∧ run.wnc.grantUnread = false ∧ run.wnc.valid = false ∧ run.wnc.state = .braked) ∧
    (let s := pulling 800 (-200) run
     s.cfg.wnc.inner < s.wnc.position ∧ s.wnc.position < s.cfg.wnc.outer ∧ s.wnc.state = .pull ∧
      s.cfg.wnc.tripLevel < min 65000 65000 ∧ min 7000 65000 ≤ s.cfg.wnc.tripLevel) ∧
    (let s := pulling 800 (-195) run
     dutyTarget s.cfg.wnc.approach s.wnc = -600 ∧ max (s.wnc.duty - 5) (min (s.wnc.duty + 5) (-600)) ≤ -200 ∧
      s.cfg.wnc.stallCurrent < min 9000 65000 ∧ min 9000 65000 ≤ s.cfg.wnc.tripLevel ∧ s.wnc.stall = none ∧
      ¬max (-190 - 5) (min (-190 + 5) (-600)) ≤ (-200 : Int)) ∧
    (let s := winch (fun x => { x with stall := some { since := 0, position := 802 }, clock := 300 }) (pulling 800 (-300) run)
     s.wnc.stall = some { since := 0, position := 802 } ∧ 2 ≤ (s.wnc.position - 802).natAbs) ∧
    (let s := winch (fun x => { x with stall := some { since := 0, position := 801 }, clock := 299 }) (pulling 800 (-300) run)
     ¬2 ≤ (s.wnc.position - 801).natAbs ∧ ¬s.cfg.wnc.stallWindow ≤ (s.wnc.clock - 0).toNat) ∧
    (let s := winch (fun x => { x with stall := some { since := 0, position := 801 }, clock := 300 }) (pulling 800 (-300) run)
     s.cfg.wnc.stallWindow ≤ (s.wnc.clock - 0).toNat ∧ s.wnc.dir = .inward) ∧
    (let s := winch (fun x => { x with stall := some { since := 0, position := 801 }, clock := 300 })
       (spooling .spoolOut .outward 800 (-205) run)
     s.wnc.dir = .outward ∧ s.wnc.state = .spoolOut ∧ dutyTarget s.cfg.wnc.approach s.wnc > 0 ∧ s.wnc.duty + 5 ≤ -200) ∧
    (let s := spooling .spoolIn .inward 160 (-5) run
     s.wnc.valid = true ∧ s.wnc.state.driving = true ∧ min 0 65000 ≤ s.cfg.wnc.tripLevel ∧ min 0 65000 ≤ s.cfg.wnc.stallCurrent ∧
      s.wnc.dir = .inward ∧ capOutput 1000 (slewDuty s.wnc.duty (dutyTarget s.cfg.wnc.approach s.wnc)) ≤ 0 ∧
      s.wnc.position ≤ s.cfg.wnc.inner) ∧
    (let s := allocatedAt .limit 499 true (spooling .spoolIn .inward 200 (-5) run)
     s.power = .running ∧ s.wnc.grantUnread = true ∧ s.wnc.state = .spoolIn ∧ s.pba.pub.starved = true ∧
      s.pba.pub.grant.winch < min 500 65000) ∧
    (let s := allocatedAt .shed 0 true (suspending .spoolIn { host := true, hold := false, budget := false } run)
     s.wnc.state = .suspended ∧ s.bmn.pub.stage = .shed) ∧
    (let s := allocatedAt .limit 1000 false (suspending .spoolIn { host := true, hold := false, budget := true } run)
     s.wnc.state = .suspended ∧ s.wnc.reasons.budget = true ∧ 2 * s.cfg.wnc.minimum ≤ s.pba.pub.grant.winch ∧
      s.bmn.pub.stage = .limit ∧ s.wnc.reasons.host = true) ∧
    (let s := allocatedAt .limit 1000 false (suspending .pull { host := false, hold := false, budget := true } (pulling 400 0 run))
     s.power = .running ∧ s.wnc.grantUnread = true ∧ s.wnc.state = .suspended ∧ s.wnc.op = some .pull ∧
      2 * s.cfg.wnc.minimum ≤ s.pba.pub.grant.winch ∧ s.wnc.dir = .inward ∧ s.wnc.position ≤ s.wnc.target) ∧
    (let s := allocatedAt .warn 1000 false
       (suspending .spoolIn { host := false, hold := false, budget := true } (spooling .spoolIn .inward 160 0 run))
     s.wnc.op = some .spoolIn ∧ s.wnc.valid = true ∧ s.wnc.position ≤ s.cfg.wnc.inner) ∧
    (let s := allocatedAt .normal 1000 false
       (suspending .spoolIn { host := false, hold := false, budget := true } (spooling .spoolIn .inward 161 0 run))
     s.wnc.op = some .spoolIn ∧ s.wnc.dir = .inward ∧ ¬s.wnc.position ≤ s.cfg.wnc.inner) ∧
    (let s := allocatedAt .normal 999 false (suspending .spoolIn { host := false, hold := false, budget := true } run)
     s.bmn.pub.stage ≠ .shed ∧ s.pba.pub.grant.winch < 2 * s.cfg.wnc.minimum) := by decide

theorem witness_WinchUpdateDrivesTheDrum_at_the_stops :
    (let s := spooling .spoolOut .outward 160 (-6) run
     s.wnc.grantUnread = false ∧ s.wnc.valid = true ∧ s.wnc.state.driving = true ∧ s.wnc.dir = .outward ∧
      s.cfg.wnc.inner = 160 ∧ capOutput 1000 (slewDuty s.wnc.duty (dutyTarget s.cfg.wnc.approach s.wnc)) < 0) ∧
    (let s := spooling .spoolOut .outward 159 (-5) run
     s.wnc.dir = .outward ∧ ¬capOutput 1000 (slewDuty s.wnc.duty (dutyTarget s.cfg.wnc.approach s.wnc)) < 0 ∧
      s.wnc.position < s.cfg.wnc.inner ∧ s.wnc.position < s.cfg.wnc.outer) ∧
    (let s := spooling .spoolIn .inward 32001 0 run
     s.wnc.dir = .inward ∧ s.wnc.duty ≤ 0 ∧ s.cfg.wnc.outer < s.wnc.position ∧ s.cfg.wnc.inner < s.wnc.position) := by decide

theorem witness_WinchUpdateDrivesTheDrum_unread_grant :
    (let s := allocatedAt .limit 499 true (spooling .spoolIn .inward 200 (-5) run)
     s.wnc.grantUnread = true ∧ s.wnc.state = .spoolIn ∧ s.bmn.pub.stage ≠ .shed ∧ min 499 65000 ≤ s.pba.pub.grant.winch ∧
      s.wnc.reasons = noReasons) ∧
    ((allocatedAt .shed 0 true run).wnc.grantUnread = true ∧ (allocatedAt .shed 0 true run).wnc.state = .braked ∧
      (allocatedAt .shed 0 true run).wnc.reasons = noReasons) := by decide

/-- R154: after a release every reader of the battery set sees SHED, the winch's grant read too. -/
theorem test_grant_read_sees_shed_after_a_release :
    let s := allocatedAt .cutoff 1000 false cutoff
    let released := after (.cutoffRelease []) (asks 0x04 [] { s with bmn := { s.bmn with pub := { s.bmn.pub with minVc := 3400 } } })
    let u := spooling .spoolIn .inward 200 (-5) { released with csc := run.csc }
    released.csc.chassis = .standby ∧ u.pba.pub.stage = .cutoff ∧ u.wnc.grantUnread = true ∧
      (after (.winchUpdate 0) u).wnc.reasons = { host := false, hold := false, budget := true } := by decide

/-- The pair that follows in the sequence (0,0), (1,0), (1,1), (0,1), (0,0) (R85). -/
def nextPins (x : EncoderPins) : EncoderPins :=
  if x = { a := false, b := false } then { a := true, b := false }
  else if x = { a := true, b := false } then { a := true, b := true }
  else if x = { a := true, b := true } then { a := false, b := true }
  else { a := false, b := false }

theorem witness_EncoderCountsTheLine :
    (let s := ready run
     s.power = .running ∧ -2000000 ≤ s.wnc.position + 1 ∧ s.wnc.position + 1 ≤ 2000000 ∧ s.wnc.enc = { a := false, b := false } ∧
      { a := true, b := false } = nextPins s.wnc.enc ∧ s.wnc.enc = nextPins { a := false, b := true } ∧
      s.wnc.state = .braked) ∧
    (let s := pulling 401 (-150) run
     s.wnc.state = .pull ∧ s.wnc.dir = .inward ∧ s.wnc.position + -1 ≤ s.wnc.target) ∧
    (let s := spooling .spoolIn .inward 161 (-5) run
     s.wnc.state ≠ .pull ∧ s.wnc.valid = true ∧ s.wnc.state.driving = true ∧ s.wnc.dir = .inward ∧ s.wnc.duty ≤ 0 ∧
      s.wnc.position + -1 ≤ s.cfg.wnc.inner) ∧
    (let s := spooling .spoolOut .outward 161 (-5) run
     s.wnc.state ≠ .pull ∧ s.wnc.valid = true ∧ s.wnc.state.driving = true ∧ s.wnc.dir = .outward ∧ s.wnc.duty < 0 ∧
      s.wnc.position + -1 ≤ s.cfg.wnc.inner) ∧
    (let s := ready run
     true ≠ s.wnc.enc.a ∧ true ≠ s.wnc.enc.b ∧ s.wnc.hasOp = false) ∧
    (let s := suspending .pull { host := true, hold := false, budget := false } (pulling 800 0 run)
     s.wnc.hasOp = true ∧ s.wnc.op = some .pull) ∧
    (let s := winch (fun x => { x with position := 2000000 }) run
     s.wnc.position = 2000000 ∧ s.wnc.state ≠ .pull ∧ s.wnc.hasOp = false ∧ s.wnc.position + -1 ≤ 2000000) ∧
    (let s := winch (fun x => { x with position := -2000000 }) (pulling 800 (-150) run)
     s.wnc.position = -2000000 ∧ s.wnc.hasOp = true ∧ s.wnc.op = some .pull) ∧
    (let s := winch (fun x => { x with clock := 50 }) run
     s.power = .running ∧ 50 ≤ (s.wnc.clock - s.wnc.windowStart).toNat) ∧
    (let s := winch (fun x => { x with clock := 49 }) run
     (s.wnc.clock - s.wnc.windowStart).toNat < 50) := by decide

theorem witness_WinchRecordStaysInOrder :
    ∃ s t : State, ChassisRecordOk s ∧ WinchRecordOk s ∧ step s = .next t ∧ t.wnc.state = .suspended := by
  refine ⟨{ asks 0x02 [] (spooling .spoolIn .inward 200 (-5) run) with pending := [.hold []] }, _, ?_, ?_, rfl, ?_⟩
  · unfold ChassisRecordOk; decide
  · unfold WinchRecordOk; decide
  · decide

/-- L0 with a channel record of its own. -/
def lamp (f : LightChan → LightChan) (s : State) : State := setLight 0 (f (lightOfState s 0)) s

theorem witness_LightMapRestartsTheChannel :
    (let p := mapAsk 7 7 0 1025 1 15 2 2001
     let s := asks 0x31 p run
     Takes 0x31 p s ∧ p.length = 11 ∧ lightOf (u8At p 0) = some 7 ∧ s.pst.writing = none ∧ u8At p 5 = 1 ∧ u16At p 6 = 15 ∧
      s.cfg.lcu.table[15].steps = []) ∧
    (let p := mapAsk 7 7 0 1025 0 0 2 2001
     u8At p 1 ≤ 7 ∧ u8At p 8 ≤ 2 ∧ u8At p 2 = 0 ∧ u8At p 5 = 0 ∧ Takes 0x31 p (asks 0x31 p cutoff) ∧
      (asks 0x31 p cutoff).csc.chassis = .cutoff) ∧
    (let p := mapAsk 0 1 1 0 0 0 0 0
     let s := asks 0x31 p (after (.patternAlloc [2]) (asks 0x32 [2] fresh))
     Takes 0x31 p s ∧ u8At p 2 = 1 ∧ u16At p 3 = 0 ∧ s.cfg.lcu.table[0].steps ≠ []) ∧
    (storing run).pst.writing ≠ none ∧
    (let p := mapAsk 8 0 0 0 0 0 0 0
     Takes 0x31 p (asks 0x31 p run) ∧ p.length = 11 ∧ 8 ≤ u8At p 0) ∧
    (let p := 0 :: h 1025
     let s := asks 0x30 p run
     Takes 0x30 p s ∧ p.length = 3 ∧ lightOf (u8At p 0) = some 0 ∧ (lightOfState s 0).forcedOff = false ∧
      (lightOfState s 0).activity = false ∧ (lightOfState cutoff 0).forcedOff = true) ∧
    (let p := 8 :: h 0
     Takes 0x30 p (asks 0x30 p run) ∧ p.length = 3 ∧ 8 ≤ u8At p 0) := by decide

theorem witness_PatternRequestsKeepThePool :
    (Takes 0x32 [0] (asks 0x32 [0] run) ∧ Takes 0x32 [17] (asks 0x32 [17] run) ∧ (17 : Byte).toNat = 17 ∧ (storing run).pst.writing ≠ none) ∧
    (let s := conf (fun c => { c with lcu := { c.lcu with free := c.lcu.free.take 15 } }) (asks 0x32 [16] run)
     Takes 0x32 [16] s ∧ s.pst.writing = none ∧ s.cfg.lcu.free.length < 16) ∧
    (let s := asks 0x32 [16] run
     Takes 0x32 [16] s ∧ 16 ≤ s.cfg.lcu.free.length ∧ s.cfg.lcu.table[0].steps = [] ∧ s.cfg.lcu.free.Nodup) ∧
    (let p : Payload := [0, 1] ++ h 1025 ++ h 60001 ++ h 0 ++ [0, 1]
     let s := asks 0x33 p (after (.patternAlloc [2]) (asks 0x32 [2] fresh))
     Takes 0x33 p s ∧ p.length = 10 ∧ s.pst.writing = none ∧ u8At p 0 = 0 ∧ s.cfg.lcu.table[0].steps[u8At p 1]? = some 1 ∧
      u8At p 8 = 0 ∧ u8At p 9 < s.cfg.lcu.table[0].steps.length) ∧
    (let p : Payload := [0, 2] ++ h 0 ++ h 0 ++ h 0 ++ [1, 0]
     let s := asks 0x33 p (after (.patternAlloc [2]) (asks 0x32 [2] fresh))
     Takes 0x33 p s ∧ p.length = 10 ∧ s.cfg.lcu.table[0].steps.length ≤ u8At p 1) ∧
    (Takes 0x34 [15] (asks 0x34 [15] run) ∧ (15 : Fin 16).val = (15 : Byte).toNat ∧ (asks 0x34 [15] run).cfg.lcu.table[15].steps = []) ∧
    (let s := asks 0x34 [0] (after (.patternAlloc [2]) (asks 0x32 [2] fresh))
     Takes 0x34 [0] s ∧ s.cfg.lcu.table[0].steps ≠ [] ∧ s.cfg.lcu.table[0].refs = 0) ∧
    (let p := mapAsk 0 0 1 0 0 0 0 0
     let s := asks 0x34 [0] (after (.lightMap p) (asks 0x31 p (after (.patternAlloc [1]) (asks 0x32 [1] fresh))))
     Takes 0x34 [0] s ∧ s.cfg.lcu.table[0].steps ≠ [] ∧ 0 < s.cfg.lcu.table[0].refs) ∧
    (Takes 0x34 [16] (asks 0x34 [16] run) ∧ 16 ≤ (16 : Byte).toNat) := by decide

/-- L0's runner replaced on the ramp of `ramping`. -/
def runner (f : Runner → Runner) (s : State) : State := lamp (fun c => { c with runner := c.runner.map f }) (ramping 5 s)

/-- L0 takes pattern 0, of two steps, as its action on either side. -/
def patterned : State :=
  let p := mapAsk 0 0 1 0 1 0 0 0
  after (.lightMap p) (asks 0x31 p (after (.patternAlloc [2]) (asks 0x32 [2] fresh)))

theorem witness_LightPeriodRunsTheAction :
    (cutoff.power = .running ∧ (lightOfState cutoff 0).forcedOff = true) ∧
    (fresh.power = .running ∧ (lightOfState fresh 0).forcedOff = false ∧ (lightOfState fresh 0).restart = false ∧
      sourceActive fresh (mapOf fresh 0).source = (lightOfState fresh 0).activity ∧ (lightOfState fresh 0).runner = none ∧
      (mapOf fresh 0).action (lightOfState fresh 0).activity = .level 0) ∧
    (let s := lamp (fun c => { c with activity := true }) fresh
     sourceActive s (mapOf s 0).source = !(lightOfState s 0).activity ∧ (mapOf s 0).action (!(lightOfState s 0).activity) = .level 0) ∧
    (lightOfState (lamp (fun c => { c with restart := true }) fresh) 0).restart = true ∧
    (let s := lamp (fun c => { c with activity := true, restart := true }) patterned
     (lightOfState s 0).forcedOff = false ∧ (mapOf s 0).action (sourceActive s (mapOf s 0).source) = .pattern 0 ∧
      sourceActive s (mapOf s 0).source = !(lightOfState s 0).activity ∧ s.cfg.lcu.table[0].steps[0]? = some 0) ∧
    (let s := runner (fun r => { r with finished := true, finishedLevel := 7 }) fresh
     sourceActive s (mapOf s 0).source = (lightOfState s 0).activity ∧ (lightOfState s 0).runner.map Runner.finished = some true) ∧
    (let s := ramping 5 fresh
     (lightOfState s 0).runner.map Runner.finished = some false ∧ (lightOfState s 0).runner.map Runner.complete = some false ∧
      (lightOfState s 0).runner.map Runner.elapsed = some 5) ∧
    ((lightOfState (runner (fun r => { r with complete := true }) fresh) 0).runner.map fun r => (r.complete, r.latch.link)) =
      some (true, .endHold) ∧
    ((lightOfState (runner (fun r => { r with complete := true, latch := { r.latch with link := .endOff } }) fresh) 0).runner.map
      fun r => (r.complete, r.latch.link)) = some (true, .endOff) ∧
    (let s := runner (fun r => { r with complete := true, latch := { r.latch with link := .next 1 } })
       (after (.patternAlloc [2]) (asks 0x32 [2] fresh))
     ((lightOfState s 0).runner.map fun r => (r.pattern, r.complete, r.latch.link)) = some (0, true, .next 1) ∧
      s.cfg.lcu.table[0].steps[1]? = some 1) := by decide

theorem witness_DitherKeepsTheBrightness : (1024 : Nat) ≤ 1024 ∧ (15 : Nat) ≤ 15 ∧ ditherLevel .diffuse 1024 0 15 = (64, 15) := by decide

theorem witness_PatternPoolStaysConsistent :
    ∃ s t : State, PoolPartitioned s ∧ PatternsReferenced s ∧ step s = .next t ∧ t.cfg.lcu.free.length = 48 := by
  refine ⟨{ asks 0x32 [16] fresh with pending := [.patternAlloc [16]] }, _, ⟨?_, ?_, ?_⟩, ⟨?_, ?_, ?_⟩, rfl, ?_⟩
  · unfold poolAccounted; decide
  · intro c hc; cases hc
  · intro c hc; cases hc
  · unfold refsAccounted; decide
  · intro c hc; cases hc
  · intro c hc; cases hc
  · decide

/-- The protect lock flag set. -/
def lockSet (s : State) : State := conf (fun c => { c with bmn := { c.bmn with lockFlag := true } }) s

theorem witness_BatteryLevelsAndLock :
    (let p := h 2650 ++ h 2600 ++ h 2550 ++ h 2500 ++ h 301
     Takes 0x38 p (asks 0x38 p run) ∧ p.length = 10 ∧ (asks 0x38 p run).pst.writing = none ∧
      (2500 ≤ u16At p 6 ∧ u16At p 0 ≤ 4300 ∧ u16At p 2 + 50 ≤ u16At p 0 ∧ u16At p 4 + 50 ≤ u16At p 2 ∧ u16At p 6 + 50 ≤ u16At p 4) ∧
      ¬((asks 0x38 p run).cfg.bmn.lockFlag = true ∧ PinLevel.low = .low)) ∧
    (let p := h 4300 ++ h 4251 ++ h 3300 ++ h 3200 ++ h 100
     Takes 0x38 p (asks 0x38 p run) ∧ p.length = 10 ∧ ¬u16At p 2 + 50 ≤ u16At p 0) ∧
    (storing run).pst.writing ≠ none ∧ (lockSet run).cfg.bmn.lockFlag = true ∧
    (Takes 0x39 [2] (asks 0x39 [2] run) ∧ 2 ≤ (2 : Byte).toNat) ∧ Takes 0x39 [1] (asks 0x39 [1] run) ∧
    (Takes 0x39 [0] (asks 0x39 [0] (lockSet run)) ∧ (0 : Byte).toNat = 0 ∧ (asks 0x39 [0] (lockSet run)).cfg.bmn.lockFlag = true ∧
      run.cfg.bmn.lockFlag = false) := by decide

theorem witness_SweepPublishesTheCells :
    run.power = .running ∧ 2 ≤ run.bmn.cellCount ∧ run.bmn.cellCount ≤ 4 ∧ run.cfg.bmn.cellCount = 0 ∧
    (∀ i : Fin 4, run.bmn.filters[i].length ≤ 4) ∧
    (let s := { run with bmn := { run.bmn with badRun := 24, autoPending := false } }
     (after (.sweepCompletion { cells 3700 with tap1 := 499 }) s).bmn.tapFault ≠ s.bmn.tapFault ∧
      (after (.sweepCompletion { cells 3700 with tap1 := 500 }) s).bmn.tapFault = s.bmn.tapFault) := by decide

/-- A monitor at a stage with its recover counter at a value. -/
def staged (stage : Stage) (recovering : Nat) (s : State) : State :=
  { s with bmn := { s.bmn with stage := stage, recoverRun := recovering, pub := { s.bmn.pub with stage := stage } } }

theorem witness_SweepMovesTheStage :
    (run.power = .running ∧ run.bmn.stage = .normal) ∧
    (let t := after (.sweepCompletion (cells 3499)) nearWarn
     nearWarn.bmn.stage.code < Stage.warn.code ∧ nearWarn.cfg.bmn.stageDwell ≤ t.bmn.warnRun ∧ t.bmn.stage = .warn) ∧
    (let s := staged .shed 98 run
     let t := after (.sweepCompletion (cells 3400)) s
     s.bmn.stage = .shed ∧ t.bmn.stage = s.bmn.stage ∧ t.bmn.recoverRun = 99) ∧
    (let s := staged .shed 99 run
     (after (.sweepCompletion (cells 3400)) s).bmn.stage = .limit) ∧
    (let s := { run with bmn := { run.bmn with cutoffRun := 99 } }
     (after (.sweepCompletion (cells 3199)) s).bmn.stage = .cutoff ∧ s.csc.chassis ≠ .cutoff ∧ (mapOf s 0).source ≠ .lowBatt) ∧
    (let p := mapAsk 2 7 0 1024 0 256 2 400
     (mapOf (after (.lightMap p) (asks 0x31 p run)) 2).source = .lowBatt) := by decide

theorem witness_CutoffKeepsTheVehicleStill :
    ∃ s t : State, ChassisRecordOk s ∧ CutoffIsStill s ∧ step s = .next t ∧ t.csc.chassis = .cutoff ∧ s.csc.chassis = .run := by
  refine ⟨{ ({ run with bmn := { run.bmn with cutoffRun := 99 } } : State) with pending := [.sweepCompletion (cells 3199)] }, _, ?_, ?_,
    rfl, ?_, ?_⟩
  · unfold ChassisRecordOk; decide
  · intro hc; exact absurd hc (by decide)
  · decide
  · decide

theorem witness_CutoffKeepsTheVehicleStill_in_cutoff :
    ∃ s t : State, ChassisRecordOk s ∧ CutoffIsStill s ∧ step s = .next t ∧ s.csc.chassis = .cutoff ∧ t.csc.chassis = .cutoff := by
  refine ⟨{ asks 0x01 (h 0 ++ h 0) cutoff with pending := [.setMotion (h 0 ++ h 0)] }, _, ?_, ?_, rfl, ?_, ?_⟩
  · unfold ChassisRecordOk; decide
  · unfold CutoffIsStill DriveChan.coasts; decide
  · decide
  · decide

theorem witness_BudgetClassKeepsTheFloorSum :
    (let p : Payload := [3, 8] ++ h 15200 ++ w 15200
     let s := asks 0x3C p run
     Takes 0x3C p s ∧ p.length = 8 ∧ classOf (u8At p 0) = some .winch ∧ s.pst.writing = none ∧
      (floorsOf (s.cfg.pba.classes.set .winch { priority := 7, floor := 14200, ceiling := 15200 })).sum = 20000 ∧
      s.cfg.pba.pmax / 2 = 20000) ∧
    (let p : Payload := [3, 3] ++ h 1000 ++ w 999
     Takes 0x3C p (asks 0x3C p run) ∧ p.length = 8 ∧ u32At p 4 < u16At p 2) ∧
    (storing run).pst.writing ≠ none ∧
    (let p : Payload := [5, 3] ++ h 1000 ++ w 999
     Takes 0x3C p (asks 0x3C p run) ∧ p.length = 8 ∧ 5 ≤ u8At p 0) := by decide

theorem witness_GrantsNeverExceedTheAvailable :
    run.power = .running ∧ (∀ c ∈ [ClassId.servo, .driveF, .driveR, .winch, .lights],
      (run.cfg.pba.classes.get c).floor ≤ (run.cfg.pba.classes.get c).ceiling ∧ (run.cfg.pba.classes.get c).priority ≤ 7) ∧
    (floorsOf run.cfg.pba.classes).sum ≤ run.cfg.pba.pmax / 2 ∧ (after (.sweepCompletion (cells 3700)) run).bmn.stage ≠ .cutoff ∧
    (let t := after (.sweepCompletion { cells 3700 with servoRail := 65000 }) run
     t.pba.pub.grant.servo < t.pba.pub.demand.servo) := by decide

theorem witness_FloorsStayWithinHalfPmax : ∃ s t : State, FloorsWithinHalfPmax s ∧ step s = .next t ∧ t.cfg.pba.classes.winch.floor = 1000 := by
  refine ⟨{ asks 0x3C ([3, 3] ++ h 1000 ++ w 15000) fresh with pending := [.budgetClass ([3, 3] ++ h 1000 ++ w 15000)] }, _,
    ⟨⟨⟨?_, ?_⟩, ?_, ?_⟩, ?_⟩, rfl, ?_⟩
  · decide
  · intro id; cases id <;> decide
  · intro c hc; cases hc
  · intro c hc; cases hc
  · decide
  · decide

theorem witness_SetParamChangesOneParameter :
    (let p : Payload := 0x0F :: w 5
     Takes 0x40 p (asks 0x40 p run) ∧ p.length = 5 ∧ paramOf (u8At p 0) = none ∧ (asks 0x40 p run).pst.writing = none) ∧
    (storing run).pst.writing ≠ none ∧
    (let p : Payload := 0x10 :: w 99
     Takes 0x40 p (asks 0x40 p run) ∧ p.length = 5 ∧ paramOf (u8At p 0) = some .linkTimeout ∧ ParamId.linkTimeout ≠ .pmax) ∧
    (Takes 0x41 [0x0F] (asks 0x41 [0x0F] run) ∧ paramOf (0x0F : Byte).toNat = none) ∧
    (Takes 0x41 [0x10] (asks 0x41 [0x10] run) ∧ paramOf (0x10 : Byte).toNat = some .linkTimeout) := by decide

/-- Every floor at its greatest value for a Pmax of 40 A. -/
def floorsFull (s : State) : State :=
  conf (fun c => { c with pba := { c.pba with classes := c.pba.classes.set .winch { priority := 3, floor := 14200, ceiling := 15000 } } }) s

theorem witness_SetParamChangesOneParameter_locked_or_too_low :
    ParamId.pmax.protected = true ∧ (lockSet run).cfg.bmn.lockFlag = true ∧ (floorsOf (floorsFull run).cfg.pba.classes).sum = 20000 ∧
    ¬(floorsOf (floorsFull run).cfg.pba.classes).sum ≤ (paramClamp .pmax 39999).toNat / 2 ∧
    (floorsOf (floorsFull run).cfg.pba.classes).sum ≤ (paramClamp .pmax 40000).toNat / 2 := by decide

theorem witness_ProfileStoreWritesASnapshot :
    (Takes 0x48 [] (asks 0x48 [] run) ∧ (asks 0x48 [] run).pst.writing = none ∧ (asks 0x48 [] run).bmn.pub.stage.code ≤ 2) ∧
    (Takes 0x48 [] (asks 0x48 [] (storing run)) ∧ (storing run).pst.writing ≠ none) ∧
    (Takes 0x48 [] (asks 0x48 [] (staged .shed 0 run)) ∧ 3 ≤ (asks 0x48 [] (staged .shed 0 run)).bmn.pub.stage.code) ∧
    ((storing run).power = .running ∧ (storing run).pst.writing = some { snapshot := run.cfg, acceptedAt := 0 }) ∧ run.pst.writing = none ∧
    (let p := mapAsk 0 0 0 0 0 0 0 0
     requestOf (.lightMap p) = some (0x31, p) ∧ Takes 0x31 p (asks 0x31 p (storing run)) ∧ lengthAllowed 0x31 p.length = true ∧
      (asks 0x31 p (storing run)).pst.writing ≠ none) := by decide

/-- The factory set stored and valid. -/
def stored (s : State) : State := { s with pst := { s.pst with stored := .passes factoryConfig, valid := true } }

theorem witness_RestoreReplacesTheConfiguration :
    (Takes 0x49 [] (asks 0x49 [] (storing held)) ∧ (storing held).pst.writing ≠ none) ∧
    (Takes 0x4A [] (asks 0x4A [] run) ∧ (asks 0x4A [] run).pst.writing = none ∧ (asks 0x4A [] run).csc.chassis = .run) ∧
    (let s := asks 0x49 [] fresh
     Takes 0x49 [] s ∧ s.csc.chassis ≠ .run ∧ (!true || (s.pst.valid && decide (s.pst.stored ≠ .failsCheck))) = false) ∧
    (let s := asks 0x49 [] (stored (lockSet (floorsFull held)))
     Takes 0x49 [] s ∧ s.pst.writing = none ∧ s.csc.chassis ≠ .run ∧
      (!true || (s.pst.valid && decide (s.pst.stored ≠ .failsCheck))) = true ∧ s.pst.stored = .passes factoryConfig ∧
      (s.cfg.bmn.lockFlag = true ∧ PinLevel.low = .low) ∧ ¬s.cfg.pba.pmax / 2 < (floorsOf factoryConfig.pba.classes).sum) ∧
    (let s := lockSet (conf (fun c => { c with pba := { c.pba with pmax := 10000 } }) held)
     s.cfg.pba.pmax / 2 < (floorsOf factoryConfig.pba.classes).sum) := by decide

theorem witness_RestoreReplacesTheConfiguration_winch : WinchRecordOk (asks 0x49 [] (stored (lockSet (floorsFull held)))) := by
  unfold WinchRecordOk; decide

theorem witness_UnitResetsClearTheirBlocks :
    Takes 0x50 [0] (asks 0x50 [0] (shifting .moving 40 0 0 run)) ∧ Takes 0x50 [1] (asks 0x50 [1] held) ∧
    Takes 0x50 [2] (asks 0x50 [2] (pulling 800 (-600) run)) ∧ Takes 0x50 [3] (asks 0x50 [3] cutoff) ∧
    (Takes 0x50 [4] (asks 0x50 [4] cutoff) ∧ (asks 0x50 [4] cutoff).csc.chassis = .cutoff) ∧
    (Takes 0x50 [4] (asks 0x50 [4] run) ∧ (asks 0x50 [4] run).csc.chassis ≠ .cutoff) ∧
    (requestOf (.unitResetLink [6]) = some (0x50, [6]) ∧ Takes 0x50 [6] (asks 0x50 [6] run) ∧ 6 ≤ (6 : Byte).toNat) := by decide

theorem witness_QueriesAnswerTheStateInForce :
    Takes 0x51 [] (asks 0x51 [] held) ∧ Takes 0x12 [2] (asks 0x12 [2] run) ∧ Takes 0x12 [3] (asks 0x12 [3] run) ∧
    Takes 0x26 [] (asks 0x26 [] run) ∧ (Takes 0x35 [16, 0] (asks 0x35 [16, 0] run) ∧ 16 ≤ (16 : Byte).toNat) ∧
    (let s := asks 0x35 [0, 1] (after (.patternAlloc [2]) (asks 0x32 [2] fresh))
     Takes 0x35 [0, 1] s ∧ s.cfg.lcu.table[0].steps[(1 : Byte).toNat]? = some 1) ∧
    (let s := asks 0x35 [0, 2] (after (.patternAlloc [2]) (asks 0x32 [2] fresh))
     Takes 0x35 [0, 2] s ∧ s.cfg.lcu.table[0].steps.length ≤ (2 : Byte).toNat) ∧
    Takes 0x36 [] (asks 0x36 [] run) ∧ Takes 0x3A [] (asks 0x3A [] run) ∧ Takes 0x3D [] (asks 0x3D [] run) := by decide
end Sys2Proof.Tests
end

