-- ==== Sys2Proof/Proofs/GearRequest.lean ====
section
/-! How a GEAR request is taken: the shift record's answer by the rows of R49, and that no part of the answer depends on the frame
that has just left the intake queue. -/

namespace Sys2Proof.Machine

/-! ## The rows of R49 -/

section Record

variable {g : Gear} {s : State}

/-- The gear asked for is the one in place. -/
theorem gearInRecord_sameGear (hidle : s.spg.shift.phase = .idle) (hsame : g = s.spg.shift.gear) :
    gearInRecord g s = (s, .ok) := by
  simp [gearInRecord, hidle, hsame]

/-- A shift to the other gear begins in EASING and latches the threshold in force. -/
theorem gearInRecord_starts (hidle : s.spg.shift.phase = .idle) (hother : g ≠ s.spg.shift.gear) :
    gearInRecord g s = (setShift { s.spg.shift with
      phase := .easing, pending := some g, latched := s.cfg.spg.shiftThreshold, waitMs := 0, settleMs := 0 } s, .ok) := by
  simp [gearInRecord, hidle, hother]

/-- The gear asked for is the one that the shift in progress goes to. -/
theorem gearInRecord_pendingGear (hshifts : s.spg.shift.phase ≠ .idle) (hpending : s.spg.shift.pending = some g) :
    gearInRecord g s = (s, .ok) := by
  cases hphase : s.spg.shift.phase with
  | idle => exact absurd hphase hshifts
  | easing | moving | settling => simp [gearInRecord, hphase, hpending]

/-- A shift that has not moved off is cancelled. -/
theorem gearInRecord_cancels (heasing : s.spg.shift.phase = .easing) (hpending : s.spg.shift.pending ≠ some g) :
    gearInRecord g s = (endShift .cancelled s.spg.shift.gear s, .ok) := by
  simp [gearInRecord, heasing, hpending.symm]

/-- A shift that has moved off is not turned back. -/
theorem gearInRecord_busy (hmoved : s.spg.shift.phase = .moving ∨ s.spg.shift.phase = .settling)
    (hpending : s.spg.shift.pending ≠ some g) : gearInRecord g s = (s, .busy) := by
  rcases hmoved with h | h <;> simp [gearInRecord, h, hpending.symm]

end Record

/-! ## The chassis state -/

/-- A gear's code names it. -/
theorem gearOf_code (g : Gear) : gearOf g.code = some g := by cases g <;> rfl

/-- A value above 1 names no gear. -/
theorem gearOf_of_two_le {n : Nat} (h : 2 ≤ n) : gearOf n = none := by
  match n, h with
  | _ + 2, _ => rfl

section Owner

variable {p : Payload} {g : Gear} {s : State}

/-- A value that names no gear is refused. -/
theorem gearOwner_badValue (hvalue : gearOf (u8At p 0) = none) : gearOwner p s = (s, gearReply .badValue s) := by
  simp [gearOwner, hvalue]

/-- Outside RUN and HOLD no gear is shifted. -/
theorem gearOwner_wrongState (hvalue : gearOf (u8At p 0) = some g)
    (hc : s.csc.chassis = .standby ∨ s.csc.chassis = .failsafe ∨ s.csc.chassis = .cutoff) :
    gearOwner p s = (s, gearReply .wrongState s) := by
  rcases hc with hc | hc | hc <;> simp [gearOwner, hvalue, hc]

/-- In RUN and HOLD the record answers. -/
theorem gearOwner_inRecord (hvalue : gearOf (u8At p 0) = some g) (hc : s.csc.chassis = .run ∨ s.csc.chassis = .hold) :
    gearOwner p s = ((gearInRecord g s).1, gearReply (gearInRecord g s).2 (gearInRecord g s).1) := by
  rcases hc with hc | hc <;> simp [gearOwner, hvalue, hc]

end Owner

/-! ## The end of a shift -/

/-- The end of a shift changes the record and the report queue alone (R50, R55). -/
theorem endShift_eq (r : ShiftResult) (g : Gear) (s : State) :
    endShift r g s = { s with
      spg := { s.spg with shift := { s.spg.shift with gear := g, pending := none, phase := .idle, waitMs := 0, settleMs := 0 } }
      lif := posted (shiftEndReport r g s.spg.shift.pending) s.lif } := by
  rw [endShift, postReport_eq]
  rfl

/-! ## Independence of the intake queue -/

/-- A report is posted alike before and after the oldest frame has left the intake queue. -/
theorem postReport_popIntake (f : TxFrame) (s : State) : postReport f (popIntake s) = popIntake (postReport f s) := by
  unfold postReport popIntake
  by_cases hroom : s.lif.reports.length < 4 <;> simp [hroom]

/-- A shift ends alike before and after the oldest frame has left the intake queue. -/
theorem endShift_popIntake (r : ShiftResult) (g : Gear) (s : State) :
    endShift r g (popIntake s) = popIntake (endShift r g s) :=
  postReport_popIntake _ (setShift _ s)

/-- The record's answer to a GEAR reads and writes nothing of the intake queue. -/
theorem gearInRecord_popIntake (g : Gear) (s : State) :
    gearInRecord g (popIntake s) = (popIntake (gearInRecord g s).1, (gearInRecord g s).2) := by
  simp only [gearInRecord, popIntake_keeps]
  cases s.spg.shift.phase with
  | idle => dsimp only; split <;> rfl
  | easing =>
    dsimp only; split
    · rfl
    · rw [endShift_popIntake]
  | moving | settling => dsimp only; split <;> rfl

/-- SPG's part of a GEAR reads and writes nothing of the intake queue. -/
theorem gearOwner_popIntake (p : Payload) (s : State) :
    gearOwner p (popIntake s) = (popIntake (gearOwner p s).1, (gearOwner p s).2) := by
  cases hvalue : gearOf (u8At p 0) with
  | none =>
    rw [gearOwner_badValue hvalue, gearOwner_badValue hvalue]
    rfl
  | some g =>
    cases hc : s.csc.chassis with
    | run | hold =>
      rw [gearOwner_inRecord hvalue (by simp [hc]), gearOwner_inRecord hvalue (by simp [hc]), gearInRecord_popIntake]
      rfl
    | standby | failsafe | cutoff =>
      rw [gearOwner_wrongState hvalue (by simp [hc]), gearOwner_wrongState hvalue (by simp [hc])]
      rfl

/-! ## The request -/

section Request

variable {b : Byte} {g : Gear} {s t : State}

/-- A GEAR that is taken leaves SPG's state, answered with SPG's fields. -/
theorem exec_gear_of_owner {fields : List Field} (htakes : Takes 0x11 [b] s) (howner : gearOwner [b] s = (t, fields)) :
    exec (.gear [b]) s = .next { t with lif := answered 0x11 fields t.lif } := by
  have hlength : lengthAllowed 0x11 [b].length = true := rfl
  have hexec : exec (.gear [b]) s = .next (taking 0x11 [b] (gearOwner [b]) s) := rfl
  rw [hexec, taking_owner _ htakes hlength, gearOwner_popIntake, howner]
  rfl

/-- A byte that is a gear's code names the gear in a payload. -/
theorem gearOf_payload (hg : g.code = b.toNat) : gearOf (u8At [b] 0) = some g :=
  (congrArg gearOf hg.symm).trans (gearOf_code g)

/-- In RUN and HOLD a GEAR that is taken leaves the record's state, answered with the record as it then stands. -/
theorem exec_gear_of_record {c : ResultCode} (htakes : Takes 0x11 [b] s) (hg : g.code = b.toNat)
    (hc : s.csc.chassis = .run ∨ s.csc.chassis = .hold) (hrecord : gearInRecord g s = (t, c)) :
    exec (.gear [b]) s = .next { t with lif := answered 0x11 (gearReply c t) t.lif } := by
  apply exec_gear_of_owner htakes
  rw [gearOwner_inRecord (gearOf_payload hg) hc, hrecord]

end Request

/-- Settles O28: a refusal changes nothing, and in RUN and HOLD each clause is one row of R49's table. -/
theorem gearStartsAndCancelsShifts : Obligations.GearStartsAndCancelsShifts := by
  intro b s htakes
  refine ⟨fun hvalue _ => ?badValue, fun g hg => ⟨fun hc => ?wrongState,
    fun hc => ⟨?sameGear, ?pendingGear, ?cancels, ?busy, ?starts⟩⟩⟩
  case badValue => exact exec_gear_of_owner htakes (gearOwner_badValue (gearOf_of_two_le hvalue))
  case wrongState => exact exec_gear_of_owner htakes (gearOwner_wrongState (gearOf_payload hg) hc)
  case sameGear =>
    intro hidle hsame
    exact exec_gear_of_record htakes hg hc (gearInRecord_sameGear hidle hsame)
  case pendingGear =>
    intro hshifts hpending
    exact exec_gear_of_record htakes hg hc (gearInRecord_pendingGear hshifts hpending)
  case cancels =>
    intro heasing hsame hpending
    rw [exec_gear_of_record htakes hg hc (gearInRecord_cancels heasing hpending), endShift_eq, hsame]
    rfl
  case busy =>
    intro hmoved _ hpending
    exact exec_gear_of_record htakes hg hc (gearInRecord_busy hmoved hpending)
  case starts =>
    intro hidle hother
    exact exec_gear_of_record htakes hg hc (gearInRecord_starts hidle hother)

end Sys2Proof.Machine
end

