-- ==== Sys2Proof/Proofs/DriveSlew.lean ====
section
/-! The slew of a drive output: what R68 does by the sides of zero on which the output and the target stand, the range of the rates, and
the drive update of a channel that does not trip, which ends in that slew. -/

namespace Sys2Proof.Machine

/-! ## The slew by the sides of zero -/

section Slew

variable {up down : Nat} {o t : Int}

/-- The rules of R68 are the same on both sides of zero. -/
theorem slewOutput_neg (up down : Nat) (o t : Int) : slewOutput up down (-o) (-t) = -slewOutput up down o t := by
  wlog ho : 0 ≤ o generalizing o t
  · have hflip := this (-o) (-t) (by omega)
    rw [neg_neg, neg_neg] at hflip
    rw [hflip, neg_neg]
  rcases ho.eq_or_lt with rfl | hpos
  · simp only [slewOutput, neg_zero, if_true]
    split_ifs <;> omega
  · simp only [slewOutput, neg_eq_zero, hpos.ne', hpos, ho.not_gt, Left.neg_pos_iff, if_true, if_false]
    split_ifs <;> omega

/-- Away from zero the output rises by at most `up`. -/
theorem slewOutput_rises (ho : 0 ≤ o) (ht : o ≤ t) : slewOutput up down o t = min t (o + up) := by
  rcases ho.eq_or_lt with rfl | hpos
  · simp [slewOutput, ht]
  · simp only [slewOutput, hpos.ne', hpos, (ho.trans ht).not_gt, if_true, if_false]
    split <;> omega

/-- Toward a target on its own side the output falls by at most `down`. -/
theorem slewOutput_falls (ht : 0 ≤ t) (ho : t < o) : slewOutput up down o t = max t (o - down) := by
  have hpos : 0 < o := ht.trans_lt ho
  simp [slewOutput, hpos.ne', hpos, ht.not_gt, ho.le.not_gt]

/-- Toward a target on the other side the output falls by at most `down` and stops at zero. -/
theorem slewOutput_stops_at_zero (ho : 0 < o) (ht : t < 0) : slewOutput up down o t = max 0 (o - down) := by
  simp only [slewOutput, ho.ne', ho, ht, if_true, if_false]
  split <;> omega

/-- `slewOutput_rises` below zero. -/
theorem slewOutput_rises_below (ho : o ≤ 0) (ht : t ≤ o) : slewOutput up down o t = max t (o - up) := by
  have hneg := slewOutput_neg up down o t
  rw [slewOutput_rises (by omega) (by omega)] at hneg
  omega

/-- `slewOutput_falls` below zero. -/
theorem slewOutput_falls_below (ht : t ≤ 0) (ho : o < t) : slewOutput up down o t = min t (o + down) := by
  have hneg := slewOutput_neg up down o t
  rw [slewOutput_falls (by omega) (by omega)] at hneg
  omega

/-- `slewOutput_stops_at_zero` below zero. -/
theorem slewOutput_stops_at_zero_below (ho : o < 0) (ht : 0 < t) : slewOutput up down o t = min 0 (o + down) := by
  have hneg := slewOutput_neg up down o t
  rw [slewOutput_stops_at_zero (by omega) (by omega)] at hneg
  omega

/-- Everything the slew can do: move away from zero, move toward zero on its own side, or move toward zero and stop there. -/
theorem slewOutput_cases (up down : Nat) (o t : Int) :
    (0 ≤ o ∧ o ≤ t ∧ slewOutput up down o t = min t (o + up)) ∨
      (0 ≤ t ∧ t < o ∧ slewOutput up down o t = max t (o - down)) ∨
      (0 < o ∧ t < 0 ∧ slewOutput up down o t = max 0 (o - down)) ∨
      (o ≤ 0 ∧ t ≤ o ∧ slewOutput up down o t = max t (o - up)) ∨
      (t ≤ 0 ∧ o < t ∧ slewOutput up down o t = min t (o + down)) ∨
      (o < 0 ∧ 0 < t ∧ slewOutput up down o t = min 0 (o + down)) := by
  rcases le_or_gt o t with hot | hot
  · rcases le_or_gt 0 o with ho | ho
    · exact .inl ⟨ho, hot, slewOutput_rises ho hot⟩
    · rcases le_or_gt t 0 with ht | ht
      · rcases hot.eq_or_lt with rfl | hlt
        · exact .inr (.inr (.inr (.inl ⟨ht, le_rfl, slewOutput_rises_below ht le_rfl⟩)))
        · exact .inr (.inr (.inr (.inr (.inl ⟨ht, hlt, slewOutput_falls_below ht hlt⟩))))
      · exact .inr (.inr (.inr (.inr (.inr ⟨ho, ht, slewOutput_stops_at_zero_below ho ht⟩))))
  · rcases le_or_gt o 0 with ho | ho
    · exact .inr (.inr (.inr (.inl ⟨ho, hot.le, slewOutput_rises_below ho hot.le⟩)))
    · rcases le_or_gt 0 t with ht | ht
      · exact .inr (.inl ⟨ht, hot, slewOutput_falls ht hot⟩)
      · exact .inr (.inr (.inl ⟨ho, ht, slewOutput_stops_at_zero ho ht⟩))

/-- The slew does not change the sign of an output. -/
theorem slewOutput_keeps_side (up down : Nat) (o t : Int) :
    (0 < o → 0 ≤ slewOutput up down o t) ∧ (o < 0 → slewOutput up down o t ≤ 0) := by
  have := slewOutput_cases up down o t
  omega

/-- The slew moves an output by at most the greater of its two rates. -/
theorem slewOutput_natAbs_sub_le (up down : Nat) (o t : Int) : (slewOutput up down o t - o).natAbs ≤ max up down := by
  have := slewOutput_cases up down o t
  omega

/-- The slew leaves an output between where it was and its target. -/
theorem slewOutput_mem (up down : Nat) (o t : Int) :
    min o t ≤ slewOutput up down o t ∧ slewOutput up down o t ≤ max o t := by
  have := slewOutput_cases up down o t
  omega

/-- An output at its target rests there. -/
theorem slewOutput_self (up down : Nat) (o : Int) : slewOutput up down o o = o := by
  have := slewOutput_mem up down o o
  omega

/-- With rates of at least 1 an output away from its target moves. -/
theorem slewOutput_ne (hup : 1 ≤ up) (hdown : 1 ≤ down) (hne : o ≠ t) : slewOutput up down o t ≠ o := by
  have := slewOutput_cases up down o t
  omega

end Slew

/-! ## The drive update of a channel that does not trip -/

section Update

variable {ch : DriveCh} {current : Nat} {s : State}

/-- A channel replaced by itself. -/
@[simp] theorem setDrive_chan_self (ch : DriveCh) (s : State) : setDrive ch (s.drc.chan ch) s = s := by cases ch <;> rfl

/-- A curve that is not PENDING does not change over. -/
theorem curveChangeover_not_pending {id : CurveId} (h : (s.smx.load id).state ≠ .pending) : curveChangeover id s = s :=
  if_neg h

/-- A NORMAL channel has nothing to retry. -/
theorem retriedChan_normal {clock : Clock} {c : DriveChan} (hnormal : c.fault = .normal) : retriedChan clock c = c := by
  simp [retriedChan, retryDue, hnormal]

/-- The fault step leaves a NORMAL channel as it is at a current within the trip level. -/
theorem faultStep_untripped (hnormal : (s.drc.chan ch).fault = .normal) (htrip : current ≤ s.cfg.drc.tripLevel) :
    faultStep ch current s = s := by
  simp [faultStep, retriedChan_normal hnormal, htrip.not_gt]

/-- The update of a channel that does not trip: the dig mode comes into force, the cap follows the grant, the channel moves. -/
theorem driveUpdate_untripped (hcurve : (s.smx.load .throttle).state ≠ .pending) (hnormal : (s.drc.chan ch).fault = .normal)
    (htrip : min current 65000 ≤ s.cfg.drc.tripLevel) :
    driveUpdate ch current s =
      setDrive ch (driveMove ch (driveFoldback ch (min current 65000) (digIntoForce s))).leaveUpdate
        (driveFoldback ch (min current 65000) (digIntoForce s)) := by
  have hfault : faultStep ch (min current 65000) (digIntoForce s) = digIntoForce s :=
    faultStep_untripped hnormal htrip
  simp only [driveUpdate, curveChangeover_not_pending hcurve, hfault]

/-- A full cap stays full at a current within the grant. -/
theorem foldCap_full {grant : Nat} (h : current ≤ grant) : foldCap 1000 current grant = 1000 := by
  unfold foldCap
  rw [if_neg h.not_gt]
  split <;> rfl

/-- At a full cap and a current within the grant the first two steps of the update leave the channel as it is. -/
theorem driveFoldback_chan_full (hcap : (s.drc.chan ch).cap = 1000) (hgrant : current ≤ driveGrant ch s) :
    (driveFoldback ch current (digIntoForce s)).drc.chan ch = s.drc.chan ch := by
  have hfold : foldCap (s.drc.chan ch).cap current (driveGrant ch s) = (s.drc.chan ch).cap := by
    rw [hcap, foldCap_full hgrant]
  have hchan : (driveFoldback ch current (digIntoForce s)).drc.chan ch =
      { s.drc.chan ch with cap := foldCap (s.drc.chan ch).cap current (driveGrant ch s) } :=
    setChan_chan_same _ _ _
  rw [hchan, hfold]

/-- A channel that no dig mode locks is left at its output slewed toward its target and capped, and brakes only with a target of 0. -/
theorem driveToward_unlocked (target : Int) (strength : Nat) (s : State) (c : DriveChan) :
    let c' := driveToward target strength false s c
    c'.output = capOutput c.cap (slewOutput s.cfg.drc.aUp s.cfg.drc.aDown c.output c'.target) ∧
      (c'.target ≠ 0 → c'.brake = 0) :=
  ⟨rfl, fun htarget => if_neg fun hrest => htarget hrest.1⟩

/-- A NORMAL channel in RUN whose axle no dig mode locks is slewed toward the target that it is left with. -/
theorem driveMove_run_slews (hnormal : (s.drc.chan ch).fault = .normal) (hrun : s.csc.chassis = .run)
    (hdig : digLocks s.drc.digInForce ch = false) :
    let c := s.drc.chan ch
    let c' := driveMove ch s
    c'.output = capOutput c.cap (slewOutput s.cfg.drc.aUp s.cfg.drc.aDown c.output c'.target) ∧
      (c'.target ≠ 0 → c'.brake = 0) := by
  have hmove : driveMove ch s =
      driveToward (runTarget ch s) s.cfg.drc.drag false s { s.drc.chan ch with assist := assistApplies s } := by
    simp [driveMove, hnormal, hrun, hdig]
  rw [hmove]
  exact driveToward_unlocked _ _ _ _

/-- The requested dig mode is in force at the move of the update. -/
theorem driveFoldback_digInForce (ch : DriveCh) (current : Nat) (s : State) :
    (driveFoldback ch current (digIntoForce s)).drc.digInForce = s.drc.digRequested := by cases ch <;> rfl

/-- The update in RUN of an untripped, unlocked channel at full cap ends in the slew of its output toward the target that it leaves. -/
theorem driveUpdate_run_slews (hrun : s.csc.chassis = .run) (hcurve : (s.smx.load .throttle).state ≠ .pending)
    (hnormal : (s.drc.chan ch).fault = .normal) (htrip : min current 65000 ≤ s.cfg.drc.tripLevel)
    (hdig : digLocks s.drc.digRequested ch = false) (hcap : (s.drc.chan ch).cap = 1000)
    (hgrant : min current 65000 ≤ driveGrant ch s) :
    let c := (driveUpdate ch current s).drc.chan ch
    c.output = capOutput 1000 (slewOutput s.cfg.drc.aUp s.cfg.drc.aDown (s.drc.chan ch).output c.target) ∧
      (c.target ≠ 0 → c.brake = 0) := by
  have hchan := driveFoldback_chan_full hcap hgrant
  have hmove := driveMove_run_slews (ch := ch) (s := driveFoldback ch (min current 65000) (digIntoForce s))
    (by rw [hchan, hnormal]) (by simpa using hrun) (by rw [driveFoldback_digInForce, hdig])
  rw [driveUpdate_untripped hcurve hnormal htrip]
  simpa [hchan, hcap] using hmove

end Update

/-- Settles O32: the clauses about the slew are its cases, and the drive update ends in the slew. -/
theorem slewNeverPassesThroughZero : Obligations.SlewNeverPassesThroughZero := by
  refine ⟨fun up down o t hup hdown => ?slew, ⟨rfl, rfl, fun _ => ⟨rfl, rfl⟩⟩,
    fun ch current s hpower hrun hcurve hnormal htrip hdig hcap hgrant => ?update⟩
  case slew =>
    obtain ⟨hpos, hneg⟩ := slewOutput_keeps_side up down o t
    obtain ⟨hlow, hhigh⟩ := slewOutput_mem up down o t
    exact ⟨hpos, hneg, slewOutput_natAbs_sub_le up down o t, hlow, hhigh,
      fun ho ht => slewOutput_rises ho ht.le, slewOutput_falls, slewOutput_stops_at_zero,
      fun ho ht => slewOutput_rises_below ho ht.le, slewOutput_falls_below, slewOutput_stops_at_zero_below,
      fun heq => heq ▸ slewOutput_self up down o, slewOutput_ne hup hdown⟩
  case update =>
    have hexec : exec (.driveUpdate ch current) s = .next (driveUpdate ch current s) :=
      congrArg Host.Outcome.next (whenRunning_runs hpower)
    exact ⟨_, hexec, driveUpdate_run_slews hrun hcurve hnormal htrip hdig hcap hgrant⟩

end Sys2Proof.Machine
end

namespace Sys2Proof.Machine

/-! ## What a command does

A command is a request that is taken, an event of the part, the taking of an unknown type, or one of the three commands of power. -/

/-- The owner of a request row: what its taking does between the pop of the intake queue and the placing of the reply. -/
def ownerOf : Instr → State → State × List Field
  | .setMotion p => setMotionOwner p
  | .hold _ => holdOwner
  | .resume _ => resumeOwner
  | .cutoffRelease _ => cutoffReleaseOwner
  | .steerMode p => steerModeOwner p
  | .curveBegin p => curveBeginOwner p
  | .curveData p => curveDataOwner p
  | .curveCommit p => curveCommitOwner p
  | .servoEnds p => servoEndsOwner p
  | .gear p => gearOwner p
  | .getServo p => getServoOwner p
  | .dig p => digOwner p
  | .faultClear p => faultClearOwner p
  | .winchRun p => winchRunOwner p
  | .winchPull p => winchPullOwner p
  | .winchSuspend _ => winchSuspendOwner
  | .winchResume _ => winchResumeOwner
  | .winchZero _ => winchZeroOwner
  | .winchLimits p => winchLimitsOwner p
  | .getWinch _ => getWinchOwner
  | .lightLevel p => lightLevelOwner p
  | .lightMap p => lightMapOwner p
  | .patternAlloc p => patternAllocOwner p
  | .patternStep p => patternStepOwner p
  | .patternFree p => patternFreeOwner p
  | .getPattern p => getPatternOwner p
  | .getFree _ => getFreeOwner
  | .batteryLevels strap p => batteryLevelsOwner strap p
  | .protLock strap p => protLockOwner strap p
  | .getCells strap _ => getCellsOwner strap
  | .budgetClass p => budgetClassOwner p
  | .getBudget _ => getBudgetOwner
  | .setParam strap p => setParamOwner strap p
  | .getParam p => getParamOwner p
  | .profileStore _ => profileStoreOwner
  | .profileRestore strap _ => profileRestoreOwner strap
  | .profileDefaults strap _ => profileDefaultsOwner strap
  | .unitResetSteer p => unitResetOwner .steer p
  | .unitResetDrive p => unitResetOwner .drive p
  | .unitResetWinch p => unitResetOwner .winch p
  | .unitResetLights p => unitResetOwner .lights p
  | .unitResetBattery p => unitResetOwner .battery p
  | .unitResetLink p => unitResetOwner .link p
  | .getStatus strap _ => getStatusOwner strap
  | .getLinkCounts p => getLinkCountsOwner p
  | _ => fun s => (s, [])

/-- An event row: when the event is due and what it does then. -/
def eventOf : Instr → Option ((State → Bool) × (State → State))
  | .characterReceived c => some (fun s => !s.lif.inBreak, receiveChar c)
  | .gapTimeout => some (gapDue, gapDiscard)
  | .lineBreak => some (fun s => !s.lif.inBreak, lineBreak)
  | .linkTimerExpiry => some (linkTimerDue, linkTimerExpires)
  | .transmitFrameStart => some (transmitDue, startTransmission)
  | .frameSent => some (fun s => s.lif.tx.isSome, frameSent)
  | .telemetry => some (telemetryDue, formTelemetry)
  | .servoFrameStart ch => some (fun _ => true, frameStart ch)
  | .blendEnd axle => some (blendEndDue axle, frameStart (axleServo axle))
  | .shiftWaitExpiry => some (shiftWaitDue, frameStart .sh)
  | .shiftSettleExpiry => some (shiftSettleDue, frameStart .sh)
  | .driveUpdate ch current => some (fun _ => true, driveUpdate ch current)
  | .driveRetry ch current => some (fun s => retryDue s.drc.clock (s.drc.chan ch), driveUpdate ch current)
  | .winchUpdate current => some (fun _ => true, winchUpdate current)
  | .winchStall current => some (winchStallDue current, winchUpdate current)
  | .encoderCount enc => some (fun _ => true, encoderChange enc)
  | .lineSpeedWindowEnd => some (windowDue, windowEnd)
  | .lightPeriodStart k => some (fun _ => true, lightPeriodStart k)
  | .patternStepComplete k => some (stepCompleteDue k, lightPeriodStart k)
  | .sweepCompletion x => some (fun _ => true, sweepComplete x)
  | .tapFaultChange x => some (tapFaultDue x, sweepComplete x)
  | .stageWorsen x => some (stageWorsenDue x, sweepComplete x)
  | .stageRecover x => some (stageRecoverDue x, sweepComplete x)
  | .profileStoreCompletion ok => some (storeRunning, completeStore ok)
  | .breakEnd => some (fun s => s.lif.inBreak, fun s => s.withLif { s.lif with inBreak := false })
  | _ => none

/-- An event that is due whenever it is delivered is an event whose condition holds. -/
theorem whenRunning_eq_whenDue (act : State → State) (s : State) : whenRunning act s = whenDue (fun _ => true) act s := by
  simp [whenRunning, whenDue]

variable {i : Instr} {ty : Byte} {p : Payload}

/-- A UNIT_RESET row whose payload it takes is a taking. -/
theorem unitReset_of_rowTakes {u : ResetUnit} {q : Payload} (s : State)
    (h : (if rowTakes u q then some ((0x50 : Byte), q) else none) = some (ty, p)) :
    unitReset u q s = taking ty p (unitResetOwner u q) s := by
  unfold unitReset
  split at h
  · cases h
    rw [if_pos ‹_›]
  · contradiction

/-- A request row is the taking of its request by its owner. -/
theorem exec_of_request (h : requestOf i = some (ty, p)) (s : State) : exec i s = .next (taking ty p (ownerOf i) s) := by
  cases i
  case unitResetSteer | unitResetDrive | unitResetWinch | unitResetLights | unitResetBattery | unitResetLink =>
    exact congrArg Host.Outcome.next (unitReset_of_rowTakes s h)
  all_goals
    cases h
  all_goals rfl

/-- An event row acts when the part runs and the event is due. -/
theorem exec_of_event {due : State → Bool} {act : State → State} (h : eventOf i = some (due, act)) (s : State) :
    exec i s = .next (whenDue due act s) := by
  cases i
  case servoFrameStart | driveUpdate | winchUpdate | encoderCount | lightPeriodStart | sweepCompletion =>
    cases h
    exact congrArg Host.Outcome.next (whenRunning_eq_whenDue _ s)
  all_goals
    cases h
  all_goals rfl

/-- Everything a command can be. -/
theorem exec_cases (i : Instr) (s : State) :
    (∃ ty p, requestOf i = some (ty, p)) ∨ (∃ due act, eventOf i = some (due, act)) ∨ (∃ enc, i = .powerOn enc) ∨
      i = .resetAssert ∨ i = .powerLost ∨ (∃ ty p, i = .unknownTypeRequest ty p) ∨ exec i s = .next s := by
  cases i
  case unitResetSteer q | unitResetDrive q | unitResetWinch q | unitResetLights q | unitResetBattery q | unitResetLink q =>
    simp only [requestOf, exec, execUnitResetSteer, execUnitResetDrive, execUnitResetWinch, execUnitResetLights,
      execUnitResetBattery, execUnitResetLink, unitReset]
    split <;> simp
  all_goals simp [requestOf, eventOf]

/-- Every command completes. -/
theorem exec_completes (i : Instr) (s : State) : ∃ t, exec i s = .next t := by cases i <;> exact ⟨_, rfl⟩

/-! ## What every command keeps -/

@[simp] theorem getWinchOwner_fst (s : State) : (getWinchOwner s).1 = s := rfl
@[simp] theorem getFreeOwner_fst (s : State) : (getFreeOwner s).1 = s := rfl
@[simp] theorem getCellsOwner_fst (strap : PinLevel) (s : State) : (getCellsOwner strap s).1 = s := rfl
@[simp] theorem getBudgetOwner_fst (s : State) : (getBudgetOwner s).1 = s := rfl
@[simp] theorem getStatusOwner_fst (strap : PinLevel) (s : State) : (getStatusOwner strap s).1 = s := rfl

/-- A part stops from any state that RESET or the loss of power finds it in, or stays off. -/
theorem exec_resetAssert (s : State) :
    exec .resetAssert s = .next s ∨ exec .resetAssert s = .next (stopPart .resetHeld s) := by
  by_cases h : s.power = .off <;> simp [exec, execResetAssert, h]

/-- A property that does not look at LIF is kept by every command if the owners of the requests, the events, power-on and the stop of the
part keep it. -/
theorem exec_keeps_of {P : State → Prop} (hlif : ∀ s l, P s → P (s.withLif l)) (howner : ∀ i s, P s → P (ownerOf i s).1)
    (hevent : ∀ i due act, eventOf i = some (due, act) → ∀ s, P s → P (act s)) (hon : ∀ enc s, P s → P (powerOn enc s))
    (hstop : ∀ power s, P s → P (stopPart power s)) {i : Instr} {s t : State} (hs : P s) (h : exec i s = .next t) : P t := by
  rcases exec_cases i s with ⟨ty, p, hreq⟩ | ⟨due, act, hev⟩ | ⟨enc, rfl⟩ | rfl | rfl | ⟨ty, p, rfl⟩ | hsame
  · cases (exec_of_request hreq s).symm.trans h
    exact taking_keeps_of ty p (fun s => hlif s _) (howner i) (fun f s => hlif s _) s hs
  · cases (exec_of_event hev s).symm.trans h
    exact whenDue_keeps_of (hevent i due act hev) s hs
  · cases h
    exact hon enc s hs
  · rcases exec_resetAssert s with hr | hr <;> cases hr.symm.trans h
    · exact hs
    · exact hstop _ s hs
  · cases h
    exact hstop _ s hs
  · cases h
    exact takingUnknown_keeps_of ty p (fun s => hlif s _) (fun f s => hlif s _) s hs
  · cases hsame.symm.trans h
    exact hs

/-- The clocks and the waiting queue apart, a step is a command. -/
theorem step_keeps_of {P : State → Prop} (hpending : ∀ s rest, P s → P { s with pending := rest }) (htick : ∀ s, P s → P (tick s))
    (hexec : ∀ i s t, P s → exec i s = .next t → P t) {s t : State} (hs : P s) (h : step s = .next t) : P t := by
  rcases step_cases s t h with ⟨-, rfl⟩ | ⟨c, rest, -, hc⟩
  · exact htick s hs
  · exact hexec c _ t (hpending s rest hs) hc

end Sys2Proof.Machine

namespace Sys2Proof.Machine

/-! ## The machine and its waiting queue -/

/-- No command touches the waiting queue. -/
theorem exec_pending {i : Instr} {s t : State} (h : exec i s = .next t) : t.pending = s.pending := by
  refine exec_keeps_of (P := fun u => u.pending = s.pending) (fun _ _ hs => hs) ?owner ?event (fun _ _ hs => hs)
    (fun _ _ hs => hs) rfl h
  case owner =>
    intro i u hu
    cases i <;> simpa [ownerOf] using hu
  case event =>
    intro i due act hev u hu
    cases i <;> cases hev <;> simpa using hu

/-- Settles O2: every command completes, and no owner, event or power command writes the waiting queue. -/
theorem commandsLeaveTheWaitingQueue : Obligations.CommandsLeaveTheWaitingQueue := by
  intro i s
  obtain ⟨t, ht⟩ := exec_completes i s
  exact ⟨t, ht, exec_pending ht⟩

/-- Settles O1: the three cases of the step. -/
theorem stepRunsTheFrontCommand : Obligations.StepRunsTheFrontCommand := by
  refine ⟨fun c rest s hp => ?front, fun s hp hrun => ?tick, fun s hp hstop => ?stopped⟩
  case front => simp [step, hp]
  case tick => simp [step, hp, Machine.tick, isRunning, hrun]
  case stopped => simp [step, hp, Machine.tick, isRunning, hstop]

end Sys2Proof.Machine

namespace Sys2Proof.Machine

/-! ## Properties of every configuration that the part holds -/

section EveryConfig

variable {P Q : WorkingConfig → Prop} {s t : State}

/-- A property of every configuration stands while the profile store is kept and the configuration in force has it. -/
theorem EveryConfig.of_cfg (h : EveryConfig P s) (hcfg : P t.cfg) (hpst : t.pst = s.pst) : EveryConfig P t :=
  ⟨hcfg, hpst ▸ h.2.1, hpst ▸ h.2.2⟩

/-- A property that two operations' configurations share stands where one keeps what the property reads. -/
theorem EveryConfig.of_eq (h : EveryConfig P s) (hcfg : t.cfg = s.cfg) (hpst : t.pst = s.pst) : EveryConfig P t :=
  h.of_cfg (hcfg ▸ h.1) hpst

theorem everyConfig_and : EveryConfig (fun c => P c ∧ Q c) s ↔ EveryConfig P s ∧ EveryConfig Q s := by
  constructor
  · rintro ⟨⟨hp, hq⟩, hstored, hwriting⟩
    exact ⟨⟨hp, fun c hc => (hstored c hc).1, fun w hw => (hwriting w hw).1⟩,
      ⟨hq, fun c hc => (hstored c hc).2, fun w hw => (hwriting w hw).2⟩⟩
  · rintro ⟨⟨hp, hps, hpw⟩, ⟨hq, hqs, hqw⟩⟩
    exact ⟨⟨hp, hq⟩, fun c hc => ⟨hps c hc, hqs c hc⟩, fun w hw => ⟨hpw w hw, hqw w hw⟩⟩

/-- An image left by an abandoned store passes its check only if the stored one did. -/
theorem stored_of_abandonStore {p : Pst} {c : WorkingConfig} (h : (abandonStore p).stored = .passes c) : p.stored = .passes c := by
  unfold abandonStore at h
  split at h
  · cases h
  · exact h

theorem abandonStore_writing (p : Pst) : (abandonStore p).writing = none := by
  unfold abandonStore
  split
  · rfl
  · assumption

/-- A stop of the part abandons a store and keeps the configurations. -/
theorem everyConfig_stopPart (power : Power) (h : EveryConfig P s) : EveryConfig P (stopPart power s) := by
  obtain ⟨hcfg, hstored, -⟩ := h
  refine ⟨hcfg, fun c hc => hstored c (stored_of_abandonStore hc), fun w hw => ?_⟩
  cases (abandonStore_writing s.pst).symm.trans hw

/-- The image that power-on loads, or the factory set, is in force and stored. -/
theorem everyConfig_powerOn (hfactory : P factoryConfig) (enc : EncoderPins) (h : EveryConfig P s) :
    EveryConfig P (powerOn enc s) := by
  obtain ⟨-, hstored, -⟩ := h
  unfold powerOn State.powerOn
  cases himg : (abandonStore s.pst).stored with
  | failsCheck => exact ⟨hfactory, by simp [powerOnPst], by simp [powerOnPst]⟩
  | passes c =>
    have hc := hstored c (stored_of_abandonStore himg)
    exact ⟨hc, by simpa [powerOnPst] using hc, by simp [powerOnPst]⟩

/-- A store's snapshot is a configuration in force. -/
theorem everyConfig_profileStoreOwner (h : EveryConfig P s) : EveryConfig P (profileStoreOwner s).1 := by
  obtain ⟨hcfg, hstored, hwriting⟩ := h
  unfold profileStoreOwner
  split
  · exact ⟨hcfg, hstored, hwriting⟩
  · split
    · exact ⟨hcfg, hstored, hwriting⟩
    · exact ⟨hcfg, hstored, fun w hw => by cases hw; exact hcfg⟩

/-- A completed store leaves its snapshot as the stored image, or an image that fails its check. -/
theorem everyConfig_completeStore (ok : Bool) (h : EveryConfig P s) : EveryConfig P (completeStore ok s) := by
  obtain ⟨hcfg, hstored, hwriting⟩ := h
  unfold completeStore
  split
  · exact ⟨hcfg, hstored, hwriting⟩
  · next w hw =>
    cases ok
    · exact ⟨by simpa using hcfg, by simp [completedPst], by simp [completedPst]⟩
    · exact ⟨by simpa using hcfg, by simpa [completedPst] using hwriting w hw, by simp [completedPst]⟩

/-- A restore takes its configuration from the stored image or the factory set. -/
theorem profileRestoreOwner_fst_cases (strap : PinLevel) (s : State) :
    (∃ c, (profileRestoreOwner strap s).1 = (restoreRefusal strap c s).1) ∨
      ∃ c, s.pst.stored = .passes c ∧ (profileRestoreOwner strap s).1 = restore strap c s := by
  unfold profileRestoreOwner
  split
  · exact .inl ⟨_, rfl⟩
  · split
    · exact .inl ⟨_, rfl⟩
    · split
      · exact .inl ⟨_, rfl⟩
      · next c hc =>
        refine .inr ⟨c, ?_, rfl⟩
        unfold storedConfig at hc
        split at hc
        · cases hc
          assumption
        · contradiction

theorem profileDefaultsOwner_fst_cases (strap : PinLevel) (s : State) :
    (∃ c, (profileDefaultsOwner strap s).1 = (restoreRefusal strap c s).1) ∨
      (profileDefaultsOwner strap s).1 = restore strap factoryConfig s := by
  unfold profileDefaultsOwner
  split
  · exact .inl ⟨_, rfl⟩
  · split
    · exact .inl ⟨_, rfl⟩
    · exact .inr rfl

end EveryConfig

/-! ## What the frame starts and drive updates write of the configuration -/

/-- A curve that comes into force is a curve table of the mixer or of the drive. -/
@[simp] theorem curveChangeover_cfg_keeps (id : CurveId) (s : State) :
    (curveChangeover id s).cfg.csc = s.cfg.csc ∧ (curveChangeover id s).cfg.spg = s.cfg.spg ∧
    (curveChangeover id s).cfg.wnc = s.cfg.wnc ∧ (curveChangeover id s).cfg.lcu = s.cfg.lcu ∧
    (curveChangeover id s).cfg.bmn = s.cfg.bmn ∧ (curveChangeover id s).cfg.pba = s.cfg.pba ∧
    (curveChangeover id s).cfg.lif = s.cfg.lif := by
  unfold curveChangeover setActiveTable
  split
  · cases id <;> simp
  · simp

/-- An endpoint set that comes into force is SPG's. -/
@[simp] theorem endpointChangeover_cfg_keeps (ch : ServoCh) (s : State) :
    (endpointChangeover ch s).cfg.csc = s.cfg.csc ∧ (endpointChangeover ch s).cfg.smx = s.cfg.smx ∧
    (endpointChangeover ch s).cfg.drc = s.cfg.drc ∧ (endpointChangeover ch s).cfg.wnc = s.cfg.wnc ∧
    (endpointChangeover ch s).cfg.lcu = s.cfg.lcu ∧ (endpointChangeover ch s).cfg.bmn = s.cfg.bmn ∧
    (endpointChangeover ch s).cfg.pba = s.cfg.pba ∧ (endpointChangeover ch s).cfg.lif = s.cfg.lif := by
  unfold endpointChangeover
  dsimp only
  split <;> simp

/-- A frame start writes no configuration but SMX's, DRC's and SPG's. -/
@[simp] theorem frameStart_cfg_keeps (ch : ServoCh) (s : State) :
    (frameStart ch s).cfg.csc = s.cfg.csc ∧ (frameStart ch s).cfg.wnc = s.cfg.wnc ∧ (frameStart ch s).cfg.lcu = s.cfg.lcu ∧
    (frameStart ch s).cfg.bmn = s.cfg.bmn ∧ (frameStart ch s).cfg.pba = s.cfg.pba ∧ (frameStart ch s).cfg.lif = s.cfg.lif := by
  cases ch <;> simp [frameStart, channelWork, smxFrame]

/-- A drive update writes no configuration but the curve table that comes into force. -/
@[simp] theorem driveUpdate_cfg (ch : DriveCh) (current : Nat) (s : State) :
    (driveUpdate ch current s).cfg = (curveChangeover .throttle s).cfg := by
  simp [driveUpdate]

/-! ## What the owners of requests write of the configuration -/

/-- A WINCH_LIMITS writes WNC's part alone. -/
@[simp] theorem winchLimitsOwner_cfg_keeps (p : Payload) (s : State) :
    (winchLimitsOwner p s).1.cfg.csc = s.cfg.csc ∧
    (winchLimitsOwner p s).1.cfg.smx = s.cfg.smx ∧
    (winchLimitsOwner p s).1.cfg.spg = s.cfg.spg ∧
    (winchLimitsOwner p s).1.cfg.drc = s.cfg.drc ∧
    (winchLimitsOwner p s).1.cfg.lcu = s.cfg.lcu ∧
    (winchLimitsOwner p s).1.cfg.bmn = s.cfg.bmn ∧
    (winchLimitsOwner p s).1.cfg.pba = s.cfg.pba ∧
    (winchLimitsOwner p s).1.cfg.lif = s.cfg.lif := by
  unfold winchLimitsOwner
  dsimp only
  (repeat' split) <;> simp

/-- A LIGHT_LEVEL writes LCU's part alone. -/
@[simp] theorem lightLevelOwner_cfg_keeps (p : Payload) (s : State) :
    (lightLevelOwner p s).1.cfg.csc = s.cfg.csc ∧
    (lightLevelOwner p s).1.cfg.smx = s.cfg.smx ∧
    (lightLevelOwner p s).1.cfg.spg = s.cfg.spg ∧
    (lightLevelOwner p s).1.cfg.drc = s.cfg.drc ∧
    (lightLevelOwner p s).1.cfg.wnc = s.cfg.wnc ∧
    (lightLevelOwner p s).1.cfg.bmn = s.cfg.bmn ∧
    (lightLevelOwner p s).1.cfg.pba = s.cfg.pba ∧
    (lightLevelOwner p s).1.cfg.lif = s.cfg.lif := by
  unfold lightLevelOwner
  dsimp only
  (repeat' split) <;> simp [setLcuCfg, replaceMap]

/-- A LIGHT_MAP writes LCU's part alone. -/
@[simp] theorem lightMapOwner_cfg_keeps (p : Payload) (s : State) :
    (lightMapOwner p s).1.cfg.csc = s.cfg.csc ∧
    (lightMapOwner p s).1.cfg.smx = s.cfg.smx ∧
    (lightMapOwner p s).1.cfg.spg = s.cfg.spg ∧
    (lightMapOwner p s).1.cfg.drc = s.cfg.drc ∧
    (lightMapOwner p s).1.cfg.wnc = s.cfg.wnc ∧
    (lightMapOwner p s).1.cfg.bmn = s.cfg.bmn ∧
    (lightMapOwner p s).1.cfg.pba = s.cfg.pba ∧
    (lightMapOwner p s).1.cfg.lif = s.cfg.lif := by
  unfold lightMapOwner
  dsimp only
  (repeat' split) <;> simp [setLcuCfg, replaceMap, lightMapNoChannel]

/-- A PATTERN_ALLOC writes LCU's part alone. -/
@[simp] theorem patternAllocOwner_cfg_keeps (p : Payload) (s : State) :
    (patternAllocOwner p s).1.cfg.csc = s.cfg.csc ∧
    (patternAllocOwner p s).1.cfg.smx = s.cfg.smx ∧
    (patternAllocOwner p s).1.cfg.spg = s.cfg.spg ∧
    (patternAllocOwner p s).1.cfg.drc = s.cfg.drc ∧
    (patternAllocOwner p s).1.cfg.wnc = s.cfg.wnc ∧
    (patternAllocOwner p s).1.cfg.bmn = s.cfg.bmn ∧
    (patternAllocOwner p s).1.cfg.pba = s.cfg.pba ∧
    (patternAllocOwner p s).1.cfg.lif = s.cfg.lif := by
  unfold patternAllocOwner
  dsimp only
  (repeat' split) <;> simp [setLcuCfg]

/-- A PATTERN_STEP writes LCU's part alone. -/
@[simp] theorem patternStepOwner_cfg_keeps (p : Payload) (s : State) :
    (patternStepOwner p s).1.cfg.csc = s.cfg.csc ∧
    (patternStepOwner p s).1.cfg.smx = s.cfg.smx ∧
    (patternStepOwner p s).1.cfg.spg = s.cfg.spg ∧
    (patternStepOwner p s).1.cfg.drc = s.cfg.drc ∧
    (patternStepOwner p s).1.cfg.wnc = s.cfg.wnc ∧
    (patternStepOwner p s).1.cfg.bmn = s.cfg.bmn ∧
    (patternStepOwner p s).1.cfg.pba = s.cfg.pba ∧
    (patternStepOwner p s).1.cfg.lif = s.cfg.lif := by
  unfold patternStepOwner
  dsimp only
  (repeat' split) <;> simp [setLcuCfg, patternStepRefusal]

/-- A PATTERN_FREE writes LCU's part alone. -/
@[simp] theorem patternFreeOwner_cfg_keeps (p : Payload) (s : State) :
    (patternFreeOwner p s).1.cfg.csc = s.cfg.csc ∧
    (patternFreeOwner p s).1.cfg.smx = s.cfg.smx ∧
    (patternFreeOwner p s).1.cfg.spg = s.cfg.spg ∧
    (patternFreeOwner p s).1.cfg.drc = s.cfg.drc ∧
    (patternFreeOwner p s).1.cfg.wnc = s.cfg.wnc ∧
    (patternFreeOwner p s).1.cfg.bmn = s.cfg.bmn ∧
    (patternFreeOwner p s).1.cfg.pba = s.cfg.pba ∧
    (patternFreeOwner p s).1.cfg.lif = s.cfg.lif := by
  unfold patternFreeOwner
  dsimp only
  (repeat' split) <;> simp [setLcuCfg]

/-- A BATTERY_LEVELS writes BMN's part alone. -/
@[simp] theorem batteryLevelsOwner_cfg_keeps (strap : PinLevel) (p : Payload) (s : State) :
    (batteryLevelsOwner strap p s).1.cfg.csc = s.cfg.csc ∧
    (batteryLevelsOwner strap p s).1.cfg.smx = s.cfg.smx ∧
    (batteryLevelsOwner strap p s).1.cfg.spg = s.cfg.spg ∧
    (batteryLevelsOwner strap p s).1.cfg.drc = s.cfg.drc ∧
    (batteryLevelsOwner strap p s).1.cfg.wnc = s.cfg.wnc ∧
    (batteryLevelsOwner strap p s).1.cfg.lcu = s.cfg.lcu ∧
    (batteryLevelsOwner strap p s).1.cfg.pba = s.cfg.pba ∧
    (batteryLevelsOwner strap p s).1.cfg.lif = s.cfg.lif := by
  unfold batteryLevelsOwner
  dsimp only
  (repeat' split) <;> simp [setLevels]

/-- A PROT_LOCK writes BMN's part alone. -/
@[simp] theorem protLockOwner_cfg_keeps (strap : PinLevel) (p : Payload) (s : State) :
    (protLockOwner strap p s).1.cfg.csc = s.cfg.csc ∧
    (protLockOwner strap p s).1.cfg.smx = s.cfg.smx ∧
    (protLockOwner strap p s).1.cfg.spg = s.cfg.spg ∧
    (protLockOwner strap p s).1.cfg.drc = s.cfg.drc ∧
    (protLockOwner strap p s).1.cfg.wnc = s.cfg.wnc ∧
    (protLockOwner strap p s).1.cfg.lcu = s.cfg.lcu ∧
    (protLockOwner strap p s).1.cfg.pba = s.cfg.pba ∧
    (protLockOwner strap p s).1.cfg.lif = s.cfg.lif := by
  unfold protLockOwner
  dsimp only
  (repeat' split) <;> simp [setLockFlag]

/-- A BUDGET_CLASS writes PBA's part alone. -/
@[simp] theorem budgetClassOwner_cfg_keeps (p : Payload) (s : State) :
    (budgetClassOwner p s).1.cfg.csc = s.cfg.csc ∧
    (budgetClassOwner p s).1.cfg.smx = s.cfg.smx ∧
    (budgetClassOwner p s).1.cfg.spg = s.cfg.spg ∧
    (budgetClassOwner p s).1.cfg.drc = s.cfg.drc ∧
    (budgetClassOwner p s).1.cfg.wnc = s.cfg.wnc ∧
    (budgetClassOwner p s).1.cfg.lcu = s.cfg.lcu ∧
    (budgetClassOwner p s).1.cfg.bmn = s.cfg.bmn ∧
    (budgetClassOwner p s).1.cfg.lif = s.cfg.lif := by
  unfold budgetClassOwner
  dsimp only
  (repeat' split) <;> simp [budgetNoClass]

end Sys2Proof.Machine

namespace Sys2Proof.Machine

/-! ## The budget records -/

section Floors

variable {s t : State}

@[simp] theorem perClass_get {α : Type} (f : ClassId → α) (c : ClassId) : (perClass f).get c = f c := by cases c <;> rfl

@[simp] theorem perClass_set_get {α : Type} (v : PerClass α) (c d : ClassId) (x : α) :
    (v.set c x).get d = if d = c then x else v.get d := by simp [PerClass.set]

theorem budgetOk_factory : budgetOk factoryConfig.pba := by
  refine ⟨by decide, fun id => ?_⟩
  cases id <;> decide

/-- An accepted record keeps the class records in order. -/
theorem budgetOk_set {c : PbaCfg} {id : ClassId} {r : ClassRecord} (h : budgetOk c) (hpriority : r.priority ≤ 7)
    (hceiling : r.floor ≤ r.ceiling) (hfit : floorsFit (c.classes.set id r) c.pmax = true) :
    budgetOk { c with classes := c.classes.set id r } := by
  obtain ⟨-, hrecords⟩ := h
  refine ⟨of_decide_eq_true hfit, fun d => ?_⟩
  simp only [perClass_set_get]
  split
  · exact ⟨hpriority, hceiling⟩
  · exact hrecords d

/-- The budget records stand where an operation keeps what they read. -/
theorem FloorsWithinHalfPmax.of_eq (h : FloorsWithinHalfPmax s) (hcfg : t.cfg.pba = s.cfg.pba) (hpst : t.pst = s.pst)
    (hpba : t.pba = s.pba) : FloorsWithinHalfPmax t := by
  obtain ⟨hall, hgrant⟩ := h
  exact ⟨hall.of_cfg (hcfg ▸ hall.1) hpst, by rw [hpba, hcfg]; exact hgrant⟩

/-- Before the first allocation the grants follow the floors. -/
theorem followFloors_grant (s : State) (h : (followFloors s).pba.allocated = false) :
    (followFloors s).pba.pub.grant = floorsOf (followFloors s).cfg.pba.classes := by
  unfold followFloors at h ⊢
  split at h
  · simp_all
  · rw [if_neg ‹_›]
    rfl

/-- The grants that follow new records in order keep the invariant. -/
theorem floorsWithinHalfPmax_followFloors (h : EveryConfig (fun c => budgetOk c.pba) s) : FloorsWithinHalfPmax (followFloors s) :=
  ⟨h.of_eq (by simp) (by simp), followFloors_grant s⟩

theorem floorsWithinHalfPmax_budgetClassOwner (p : Payload) (h : FloorsWithinHalfPmax s) :
    FloorsWithinHalfPmax (budgetClassOwner p s).1 := by
  unfold budgetClassOwner
  split
  · exact h
  · dsimp only
    split
    · exact h
    · split
      · exact h
      · next hok =>
        simp only [Bool.or_eq_true, decide_eq_true_eq, Bool.not_eq_true', not_or, not_lt, Bool.not_eq_false] at hok
        obtain ⟨hceiling, hfit⟩ := hok
        exact floorsWithinHalfPmax_followFloors
          (h.1.of_cfg (budgetOk_set h.1.1 (Nat.min_le_right _ _) hceiling hfit) rfl)

/-- Pmax is the only parameter among PBA's records. -/
theorem writeParam_pba (c : WorkingConfig) {i : ParamId} (v : Nat) (h : i ≠ .pmax) : (writeParam c i v).pba = c.pba := by
  cases i
  case pmax => exact absurd rfl h
  all_goals rfl

/-- An accepted parameter keeps the class records, and their floors fit under half of the Pmax in force. -/
theorem setListed_pba (strap : PinLevel) (n : Nat) (i : ParamId) (asked : Int) (h : budgetOk s.cfg.pba) :
    budgetOk (setListed strap n i asked s).1.cfg.pba ∧
      (setListed strap n i asked s).1.cfg.pba.classes = s.cfg.pba.classes := by
  unfold setListed
  dsimp only
  split
  · exact ⟨h, rfl⟩
  · split
    · exact ⟨h, rfl⟩
    · next hcheck =>
      have hcfg : (setParam i (paramClamp i asked).toNat s).cfg = writeParam s.cfg i (paramClamp i asked).toNat := by
        unfold setParam
        split <;> simp
      dsimp only
      rw [hcfg]
      by_cases hi : i = .pmax
      · subst hi
        have hfit : floorsFit s.cfg.pba.classes (paramClamp .pmax asked).toNat = true := by simpa [ownerCheck] using hcheck
        exact ⟨⟨of_decide_eq_true hfit, h.2⟩, rfl⟩
      · rw [writeParam_pba _ _ hi]
        exact ⟨h, rfl⟩

theorem floorsWithinHalfPmax_setParamOwner (strap : PinLevel) (p : Payload) (h : FloorsWithinHalfPmax s) :
    FloorsWithinHalfPmax (setParamOwner strap p s).1 := by
  unfold setParamOwner
  dsimp only
  split
  · split <;> exact h
  · next i _ =>
    split
    · exact h
    · obtain ⟨hok, hclasses⟩ := setListed_pba strap (u8At p 0) i (i32At p 1) h.1.1
      exact ⟨h.1.of_cfg hok (by simp), by simpa [hclasses] using h.2⟩

/-- A restore keeps the class records in order: an active lock keeps Pmax, and the old records where the new floors would not fit. -/
theorem budgetOk_restoredPba (strap : PinLevel) (new : WorkingConfig) (s : State) (hnew : budgetOk new.pba)
    (h : budgetOk s.cfg.pba) : budgetOk (restoredPba strap new s) := by
  unfold restoredPba classesKept
  cases hlock : lockActive strap s <;> cases hfit : floorsFit new.pba.classes s.cfg.pba.pmax
  case false.false | false.true => simpa using hnew
  case true.false => simpa using h
  case true.true => exact ⟨of_decide_eq_true hfit, hnew.2⟩

/-- What a restore leaves in force. -/
@[simp] theorem restore_cfg (strap : PinLevel) (new : WorkingConfig) (s : State) :
    (restore strap new s).cfg = restoredCfg strap new s := by
  simp [restore]

theorem floorsWithinHalfPmax_restore (strap : PinLevel) {new : WorkingConfig} (hnew : budgetOk new.pba)
    (h : FloorsWithinHalfPmax s) : FloorsWithinHalfPmax (restore strap new s) := by
  unfold restore
  refine (floorsWithinHalfPmax_followFloors (s := lightsRestored (limitCheck (acceptRestoredEnds new.spg (closeAllLoads
    ((s.withCfg (restoredCfg strap new s)).withBmn (restoredRuns strap s s.bmn)))))) (h.1.of_cfg ?_ (by simp))).of_eq
      (by simp) (by simp) (by simp)
  simpa [restoredCfg] using budgetOk_restoredPba strap new s hnew h.1.1

/-- The allocation ends the time in which the grants are the floors. -/
theorem floorsWithinHalfPmax_sweepComplete (x : SweepSamples) (h : FloorsWithinHalfPmax s) :
    FloorsWithinHalfPmax (sweepComplete x s) :=
  ⟨h.1.of_eq (by simp) (by simp), fun hallocated => by simp [sweepComplete, allocate] at hallocated⟩

theorem floorsWithinHalfPmax_owner (i : Instr) (s : State) (h : FloorsWithinHalfPmax s) :
    FloorsWithinHalfPmax (ownerOf i s).1 := by
  cases i
  case budgetClass p => exact floorsWithinHalfPmax_budgetClassOwner p h
  case setParam strap p => exact floorsWithinHalfPmax_setParamOwner strap p h
  case profileStore => exact ⟨everyConfig_profileStoreOwner h.1, by simpa [ownerOf] using h.2⟩
  case profileRestore strap p =>
    rcases profileRestoreOwner_fst_cases strap s with ⟨c, hc⟩ | ⟨c, hc, hr⟩
    · exact h.of_eq (by simp [ownerOf, hc]) (by simp [ownerOf]) (by simp [ownerOf, hc])
    · rw [ownerOf, hr]
      exact floorsWithinHalfPmax_restore strap (h.1.2.1 c hc) h
  case profileDefaults strap p =>
    rcases profileDefaultsOwner_fst_cases strap s with ⟨c, hc⟩ | hr
    · exact h.of_eq (by simp [ownerOf, hc]) (by simp [ownerOf]) (by simp [ownerOf, hc])
    · rw [ownerOf, hr]
      exact floorsWithinHalfPmax_restore strap budgetOk_factory h
  all_goals refine h.of_eq ?_ ?_ ?_ <;> simp [ownerOf]

theorem floorsWithinHalfPmax_event {i : Instr} {due : State → Bool} {act : State → State} (hev : eventOf i = some (due, act))
    (s : State) (h : FloorsWithinHalfPmax s) : FloorsWithinHalfPmax (act s) := by
  cases i <;> cases hev
  case sweepCompletion x | tapFaultChange x | stageWorsen x | stageRecover x => exact floorsWithinHalfPmax_sweepComplete x h
  case profileStoreCompletion ok => exact ⟨everyConfig_completeStore ok h.1, by simpa using h.2⟩
  all_goals refine h.of_eq ?_ ?_ ?_ <;> simp

/-- Settles O55: the requests that write class records or Pmax check the floor sum, and a restore does so under an active lock. -/
theorem floorsStayWithinHalfPmax : Obligations.FloorsStayWithinHalfPmax := by
  refine fun s t h hstep => step_keeps_of (P := FloorsWithinHalfPmax) (fun s _ hs => hs) (fun s hs => ?_)
    (fun i s t hs => exec_keeps_of (fun s l hs => hs) floorsWithinHalfPmax_owner
      (fun i due act hev s => floorsWithinHalfPmax_event hev s)
      (fun enc s hs => ⟨everyConfig_powerOn budgetOk_factory enc hs.1, fun _ => rfl⟩)
      (fun power s hs => ⟨everyConfig_stopPart power hs.1, hs.2⟩) hs) h hstep
  unfold tick
  split <;> exact hs

end Floors

end Sys2Proof.Machine

namespace Sys2Proof.Machine

/-! ## The step pool and the reference counts -/

section Pool

/-- Replacing one entry of a vector replaces one part of the lists gathered from it. -/
theorem flatMap_set_perm {α β : Type} {n : Nat} (v : Vector α n) (i : Fin n) (f : α → List β) :
    ∃ rest, (v.toList.flatMap f).Perm (f v[i] ++ rest) ∧ ∀ x, ((v.set i x).toList.flatMap f).Perm (f x ++ rest) := by
  have hi : i.val < v.toList.length := by simp
  refine ⟨(v.toList.take i).flatMap f ++ (v.toList.drop (i + 1)).flatMap f, ?_, fun x => ?_⟩
  · have hsplit : v.toList = v.toList.take i ++ v[i] :: v.toList.drop (i + 1) := by
      conv_lhs => rw [← List.take_append_drop i.val v.toList, List.drop_eq_getElem_cons hi]
      simp
    conv_lhs => rw [hsplit]
    simpa using List.perm_append_comm_assoc _ _ _
  · rw [Vector.toList_set, List.set_eq_take_append_cons_drop, if_pos hi]
    simpa using List.perm_append_comm_assoc _ _ _

/-- Replacing one entry of a vector replaces one summand of a sum over it. -/
theorem sum_map_set {α : Type} {n : Nat} (v : Vector α n) (i : Fin n) (f : α → Nat) :
    ∃ rest, (v.toList.map f).sum = f v[i] + rest ∧ ∀ x, ((v.set i x).toList.map f).sum = f x + rest := by
  obtain ⟨rest, hold, hnew⟩ := flatMap_set_perm v i fun x => [f x]
  simp only [← List.map_eq_flatMap] at hold hnew
  exact ⟨rest.sum, by simpa using hold.sum_eq, fun x => by simpa using (hnew x).sum_eq⟩

/-- The light configuration is in order: the pool accounted for and the references counted. -/
def lightsOk (c : LcuCfg) : Prop := poolAccounted c ∧ refsAccounted c

variable {c : LcuCfg}

/-- A pattern of a map's actions is counted in it. -/
theorem mapRefs_ne_zero {m : LightMap} {q : Fin 16} : mapRefs m q ≠ 0 ↔ m.onAction = .pattern q ∨ m.offAction = .pattern q := by
  unfold mapRefs
  split <;> split <;> simp_all

/-- An EMPTY entry is named by no action. -/
theorem refs_eq_zero_of_empty (h : refsAccounted c) {q : Fin 16} (hempty : c.table[q].steps = []) : c.table[q].refs = 0 := by
  by_contra hne
  exact (h q).2 hne hempty

/-- An accepted map, whose patterns are DEFINED, keeps the reference counts right. -/
theorem lightsOk_replaceMap (k : Fin 8) (m : LightMap) (h : lightsOk c)
    (hnamed : ∀ q, mapRefs m q ≠ 0 → c.table[q].steps ≠ []) :
    lightsOk { c with maps := c.maps.set k m, table := tableAfterMap c.maps[k] m c.table } := by
  obtain ⟨hpool, hrefs⟩ := h
  have hsteps : (tableAfterMap c.maps[k] m c.table).toList.flatMap PatternEntry.steps =
      c.table.toList.flatMap PatternEntry.steps := by
    have hmap : (tableAfterMap c.maps[k] m c.table).toList.map PatternEntry.steps = c.table.toList.map PatternEntry.steps := by
      apply List.ext_getElem <;> simp [tableAfterMap]
    rw [List.flatMap_def, hmap, List.flatMap_def]
  refine ⟨by unfold poolAccounted; rw [hsteps]; exact hpool, fun q => ?_⟩
  obtain ⟨hcount, hdefined⟩ := hrefs q
  obtain ⟨rest, hold, hnew⟩ := sum_map_set c.maps k fun m => mapRefs m q
  have hentry : (tableAfterMap c.maps[k] m c.table)[q] =
      { c.table[q] with refs := c.table[q].refs + mapRefs m q - mapRefs c.maps[k] q } := by simp [tableAfterMap]
  simp only [hentry, hnew m]
  refine ⟨by omega, fun hne => ?_⟩
  by_cases hm : mapRefs m q = 0
  · exact hdefined (by omega)
  · exact hnamed q hm

/-- The full-on current of a map names no pattern. -/
theorem lightsOk_setFullOn (k : Fin 8) (v : Nat) (h : lightsOk c) : lightsOk (setFullOn c k v) := by
  refine ⟨h.1, fun q => ?_⟩
  obtain ⟨hcount, hdefined⟩ := h.2 q
  obtain ⟨rest, hold, hnew⟩ := sum_map_set c.maps k fun m => mapRefs m q
  have hsame : mapRefs { c.maps[k] with fullOn := v } q = mapRefs c.maps[k] q := rfl
  refine ⟨?_, hdefined⟩
  rw [setFullOn, hnew, hsame, ← hold]
  exact hcount

/-- An entry whose count is 0 takes another step list, drawn from the free list or returned to it. -/
theorem lightsOk_setSteps (q : Fin 16) (steps free : List (Fin 64)) (pool : Vector StepRecord 64) (h : lightsOk c)
    (hunreferenced : c.table[q].refs = 0) (hperm : (free ++ steps).Perm (c.free ++ c.table[q].steps)) :
    lightsOk { c with table := c.table.set q { steps := steps, refs := 0 }, free := free, pool := pool } := by
  obtain ⟨hpool, hrefs⟩ := h
  obtain ⟨rest, hold, hnew⟩ := flatMap_set_perm c.table q PatternEntry.steps
  constructor
  · have hnew := (hnew { steps := steps, refs := 0 }).append_left free
    have hmoved : (free ++ (steps ++ rest)).Perm (c.free ++ (c.table[q].steps ++ rest)) := by
      simpa only [List.append_assoc] using hperm.append_right rest
    exact hnew.trans (hmoved.trans ((hold.symm.append_left c.free).trans hpool))
  · intro r
    obtain ⟨hcount, hdefined⟩ := hrefs r
    by_cases hr : r = q
    · subst hr
      rw [hunreferenced] at hcount
      simpa using hcount
    · have hentry : (c.table.set q { steps := steps, refs := 0 })[r] = c.table[r] := by
        simp [Fin.val_ne_of_ne (Ne.symm hr)]
      simpa only [hentry] using ⟨hcount, hdefined⟩

/-- A pattern that a map in force names is DEFINED. -/
theorem defined_of_named (h : refsAccounted c) {k : Fin 8} {q : Fin 16} (hnamed : mapRefs c.maps[k] q ≠ 0) :
    c.table[q].steps ≠ [] := by
  obtain ⟨rest, hold, -⟩ := sum_map_set c.maps k fun m => mapRefs m q
  obtain ⟨hcount, hdefined⟩ := h q
  exact hdefined (by omega)

theorem isDefined_iff (e : PatternEntry) : e.isDefined = true ↔ e.steps ≠ [] := by simp [PatternEntry.isDefined]

/-- A pattern action that a LIGHT_MAP may ask for is DEFINED. -/
theorem askedAction_defined {kind v : Nat} {q : Fin 16} (h : askedAction c kind v = some (.pattern q)) :
    c.table[q].steps ≠ [] := by
  unfold askedAction at h
  split at h
  · cases h
  · split at h
    · split at h
      · next hdefined =>
        cases h
        exact (isDefined_iff _).1 hdefined
      · cases h
    · cases h
  · cases h

/-- An accepted LIGHT_MAP carries the actions asked for. -/
theorem askedMap_actions {p : Payload} {m : LightMap} (h : askedMap c p = some m) :
    askedAction c (u8At p 2) (u16At p 3) = some m.onAction ∧ askedAction c (u8At p 5) (u16At p 6) = some m.offAction := by
  simp only [askedMap, Option.bind_eq_bind, Option.bind_eq_some_iff, Option.some.injEq] at h
  obtain ⟨_, -, onA, hon, offA, hoff, _, -, rfl⟩ := h
  exact ⟨hon, hoff⟩

theorem lightsOk_lightMapOwner (p : Payload) {s : State} (h : lightsOk s.cfg.lcu) : lightsOk (lightMapOwner p s).1.cfg.lcu := by
  unfold lightMapOwner
  split
  · exact h
  · next k _ =>
    split
    · exact h
    · split
      · exact h
      · next m hm =>
        obtain ⟨hon, hoff⟩ := askedMap_actions hm
        refine lightsOk_replaceMap k m h fun q hq => ?_
        rcases mapRefs_ne_zero.1 hq with hq | hq
        · exact askedAction_defined (hq ▸ hon)
        · exact askedAction_defined (hq ▸ hoff)

theorem lightsOk_lightLevelOwner (p : Payload) {s : State} (h : lightsOk s.cfg.lcu) :
    lightsOk (lightLevelOwner p s).1.cfg.lcu := by
  unfold lightLevelOwner
  split
  · exact h
  · next k _ =>
    refine lightsOk_replaceMap k _ h fun q hq => defined_of_named (k := k) h.2 (mapRefs_ne_zero.2 (.inl ?_))
    simpa [mapOf] using mapRefs_ne_zero.1 hq

theorem lightsOk_patternAllocOwner (p : Payload) {s : State} (h : lightsOk s.cfg.lcu) :
    lightsOk (patternAllocOwner p s).1.cfg.lcu := by
  unfold patternAllocOwner
  dsimp only
  split
  · exact h
  · split
    · exact h
    · split
      · exact h
      · next q hq =>
        split
        · exact h
        · have hempty : s.cfg.lcu.table[q].steps = [] := by
            simpa [isDefined_iff, ← Bool.not_eq_true] using List.find?_some hq
          refine lightsOk_setSteps q _ _ _ h (refs_eq_zero_of_empty h.2 hempty) ?_
          rw [hempty, List.append_nil]
          exact List.perm_append_comm.trans (.of_eq (List.take_append_drop _ _))

theorem lightsOk_patternFreeOwner (p : Payload) {s : State} (h : lightsOk s.cfg.lcu) :
    lightsOk (patternFreeOwner p s).1.cfg.lcu := by
  unfold patternFreeOwner
  dsimp only
  split
  · exact h
  · next q _ =>
    split
    · exact h
    · split
      · exact h
      · split
        · exact h
        · exact lightsOk_setSteps q _ _ _ h (by omega) (by simp)

theorem lightsOk_patternStepOwner (p : Payload) {s : State} (h : lightsOk s.cfg.lcu) :
    lightsOk (patternStepOwner p s).1.cfg.lcu := by
  unfold patternStepOwner
  dsimp only
  split
  · exact h
  · split <;> exact h

/-- The full-on currents are the only parameters among LCU's maps and patterns. -/
theorem lightsOk_writeParam (c : WorkingConfig) (i : ParamId) (v : Nat) (h : lightsOk c.lcu) :
    lightsOk (writeParam c i v).lcu := by
  cases i
  case fullOn k => exact lightsOk_setFullOn k v h
  all_goals exact h

@[simp] theorem setParam_cfg (i : ParamId) (v : Nat) (s : State) : (setParam i v s).cfg = writeParam s.cfg i v := by
  unfold setParam
  split <;> simp

theorem lightsOk_setParamOwner (strap : PinLevel) (p : Payload) {s : State} (h : lightsOk s.cfg.lcu) :
    lightsOk (setParamOwner strap p s).1.cfg.lcu := by
  unfold setParamOwner setListed
  dsimp only
  split
  · split <;> exact h
  · split
    · exact h
    · split
      · exact h
      · split
        · exact h
        · simpa using lightsOk_writeParam s.cfg _ _ h

theorem lightsOk_factory : lightsOk factoryConfig.lcu := by
  refine ⟨?_, fun q => ?_⟩
  · have hnone : factoryConfig.lcu.table.toList.flatMap PatternEntry.steps = [] := by
      simp [factoryConfig, factoryLcu]
    rw [poolAccounted, hnone, List.append_nil]
    rfl
  · simp [factoryConfig, factoryLcu, factoryMap, mapRefs]

/-- The light configurations are in order in every configuration that the part holds. -/
def PoolOk (s : State) : Prop := EveryConfig (fun c => lightsOk c.lcu) s

theorem poolOk_iff (s : State) : PoolOk s ↔ PoolPartitioned s ∧ PatternsReferenced s := everyConfig_and

theorem poolOk_owner (i : Instr) (s : State) (h : PoolOk s) : PoolOk (ownerOf i s).1 := by
  cases i
  case lightMap p => exact h.of_cfg (lightsOk_lightMapOwner p h.1) (by simp [ownerOf])
  case lightLevel p => exact h.of_cfg (lightsOk_lightLevelOwner p h.1) (by simp [ownerOf])
  case patternAlloc p => exact h.of_cfg (lightsOk_patternAllocOwner p h.1) (by simp [ownerOf])
  case patternStep p => exact h.of_cfg (lightsOk_patternStepOwner p h.1) (by simp [ownerOf])
  case patternFree p => exact h.of_cfg (lightsOk_patternFreeOwner p h.1) (by simp [ownerOf])
  case setParam strap p => exact h.of_cfg (lightsOk_setParamOwner strap p h.1) (by simp [ownerOf])
  case profileStore => exact everyConfig_profileStoreOwner h
  case profileRestore strap p =>
    rcases profileRestoreOwner_fst_cases strap s with ⟨c, hc⟩ | ⟨c, hc, hr⟩
    · exact h.of_eq (by simp [ownerOf, hc]) (by simp [ownerOf])
    · exact h.of_cfg (by simpa [ownerOf, hr, restoredCfg] using h.2.1 c hc) (by simp [ownerOf])
  case profileDefaults strap p =>
    rcases profileDefaultsOwner_fst_cases strap s with ⟨c, hc⟩ | hr
    · exact h.of_eq (by simp [ownerOf, hc]) (by simp [ownerOf])
    · exact h.of_cfg (by simpa [ownerOf, hr, restoredCfg] using lightsOk_factory) (by simp [ownerOf])
  all_goals
    refine h.of_cfg ?_ ?_
    · simpa [ownerOf] using h.1
    · simp [ownerOf]

theorem poolOk_event {i : Instr} {due : State → Bool} {act : State → State} (hev : eventOf i = some (due, act)) (s : State)
    (h : PoolOk s) : PoolOk (act s) := by
  cases i <;> cases hev
  case profileStoreCompletion ok => exact everyConfig_completeStore ok h
  all_goals
    refine h.of_cfg ?_ ?_
    · simpa using h.1
    · simp

/-- Settles O48: a map's patterns are DEFINED and counted as it is accepted, and a step list changes hands only at an entry that no action
names. -/
theorem patternPoolStaysConsistent : Obligations.PatternPoolStaysConsistent := by
  intro s t hpool hrefs hstep
  refine (poolOk_iff t).1 (step_keeps_of (P := PoolOk) (fun s _ hs => hs) (fun s hs => ?_)
    (fun i s t hs => exec_keeps_of (fun s l hs => hs) poolOk_owner (fun i due act hev s => poolOk_event hev s)
      (fun enc s hs => everyConfig_powerOn lightsOk_factory enc hs) (fun power s hs => everyConfig_stopPart power hs) hs)
    ((poolOk_iff s).2 ⟨hpool, hrefs⟩) hstep)
  unfold tick
  split <;> exact hs

end Pool

end Sys2Proof.Machine

namespace Sys2Proof.Machine

/-! ## The drive records -/

section DriveRecords

variable {s : State} {c : DriveChan}

/-- A channel's record after the fault step of an update (R71 to R73). -/
def faultChan (trip : Nat) (clock : Clock) (current : Nat) (c : DriveChan) : DriveChan :=
  if (retriedChan clock c).fault = .normal ∧ trip < current then trippedChan clock (retriedChan clock c) else retriedChan clock c

/-- The fault step writes the channel's record alone of DRC. -/
theorem faultStep_drc (ch : DriveCh) (current : Nat) (s : State) :
    (faultStep ch current s).drc =
      s.drc.setChan ch (faultChan s.cfg.drc.tripLevel s.drc.clock current (s.drc.chan ch)) := by
  unfold faultStep faultChan
  dsimp only
  split
  · split <;> simp
  · simp

/-- A drive update takes the requested dig mode and writes the channel's record. -/
theorem driveUpdate_drc (ch : DriveCh) (current : Nat) (s : State) :
    (driveUpdate ch current s).drc = ({ s.drc with digInForce := s.drc.digRequested } : Drc).setChan ch
      (driveMove ch (driveFoldback ch (min current 65000)
        (faultStep ch (min current 65000) (digIntoForce (curveChangeover .throttle s))))).leaveUpdate := by
  simp [driveUpdate, driveFoldback, faultStep_drc, digIntoForce]

/-- What the fault step and the foldback keep of a channel's record: the cap in range, three trips, a retry time while TRIPPED. -/
def faultRecordOk (c : DriveChan) : Prop :=
  c.cap ≤ 1000 ∧ c.history.length ≤ 3 ∧ (c.retry.isSome ↔ c.fault = .tripped)

theorem driveChanOk.faultRecord (h : driveChanOk c) : faultRecordOk c := by
  obtain ⟨-, -, hcap, -, hhistory, hretry⟩ := h
  exact ⟨hcap, hhistory, hretry⟩

/-- A channel at rest is in order: it is stopped, and coasts where its fault state asks for it. -/
theorem driveChanOk_atRest {brake : Nat} (h : faultRecordOk c) (hbrake : c.fault ≠ .normal → brake = 0) :
    driveChanOk (c.atRest brake) := by
  obtain ⟨hcap, hhistory, hretry⟩ := h
  exact ⟨fun hne => absurd rfl hne, Nat.zero_le _, hcap, fun hfault => ⟨rfl, rfl, hbrake hfault⟩, hhistory, hretry⟩

theorem faultRecordOk_retriedChan (clock : Clock) (h : faultRecordOk c) : faultRecordOk (retriedChan clock c) := by
  unfold retriedChan
  split
  · obtain ⟨hcap, hhistory, -⟩ := h
    exact ⟨hcap, hhistory, by simp⟩
  · exact h

theorem faultRecordOk_trippedChan (clock : Clock) (h : faultRecordOk c) : faultRecordOk (trippedChan clock c) := by
  obtain ⟨hcap, hhistory, -⟩ := h
  refine ⟨hcap, pushTrip_length_le _ _ hhistory, ?_⟩
  unfold trippedChan
  dsimp only
  split <;> simp

theorem faultRecordOk_faultChan (trip : Nat) (clock : Clock) (current : Nat) (h : faultRecordOk c) :
    faultRecordOk (faultChan trip clock current c) := by
  unfold faultChan
  split
  · exact faultRecordOk_trippedChan clock (faultRecordOk_retriedChan clock h)
  · exact faultRecordOk_retriedChan clock h

theorem faultRecordOk_driveFoldback (ch : DriveCh) (current : Nat) (h : faultRecordOk (s.drc.chan ch)) :
    faultRecordOk ((driveFoldback ch current s).drc.chan ch) := by
  obtain ⟨hcap, hhistory, hretry⟩ := h
  simp only [driveFoldback, setDrive_drc, setChan_chan_same]
  exact ⟨foldCap_le _ _ _ hcap, hhistory, hretry⟩

/-- Steps 4 to 8 of an update leave a NORMAL channel in order: a locked axle at rest, any other output within its cap. -/
theorem driveChanOk_driveToward (target : Int) (strength : Nat) (locked : Bool) (s : State) (h : faultRecordOk c)
    (hnormal : c.fault = .normal) : driveChanOk (driveToward target strength locked s c) := by
  unfold driveToward
  split
  · exact driveChanOk_atRest h fun hne => absurd hnormal hne
  · obtain ⟨hcap, hhistory, hretry⟩ := h
    refine ⟨fun hne => ?_, capOutput_natAbs_le _ _, hcap, fun hne => absurd hnormal hne, hhistory, hretry⟩
    exact if_neg fun hrest => hne hrest.2

/-- The move of an update leaves the channel's record in order. -/
theorem driveChanOk_driveMove (ch : DriveCh) (h : faultRecordOk (s.drc.chan ch)) : driveChanOk (driveMove ch s) := by
  unfold driveMove
  dsimp only
  split
  · exact driveChanOk_atRest h fun _ => rfl
  · next hfault =>
    have hnormal : (s.drc.chan ch).fault = .normal := by simpa using hfault
    split
    · exact driveChanOk_atRest h fun _ => rfl
    · exact driveChanOk_atRest h fun _ => rfl
    · exact driveChanOk_atRest h fun hne => absurd hnormal hne
    · exact driveChanOk_driveToward _ _ _ _ h hnormal
    · exact driveChanOk_driveToward _ _ _ _ h hnormal

theorem driveRecordsOk_iff (s : State) : DriveRecordsOk s ↔ ∀ ch, driveChanOk (s.drc.chan ch) :=
  ⟨fun h ch => by cases ch; exacts [h.1, h.2], fun h => ⟨h .df, h .dr⟩⟩

/-- A record in order replaces a channel's. -/
theorem driveChanOk_setChan {d : Drc} (ch : DriveCh) (hc : driveChanOk c) (h : ∀ ch', driveChanOk (d.chan ch')) (ch' : DriveCh) :
    driveChanOk ((d.setChan ch c).chan ch') := by
  by_cases hch : ch' = ch
  · subst hch
    simpa using hc
  · rw [setChan_chan_other d c hch]
    exact h ch'

theorem driveRecordsOk_driveUpdate (ch : DriveCh) (current : Nat) (h : DriveRecordsOk s) :
    DriveRecordsOk (driveUpdate ch current s) := by
  rw [driveRecordsOk_iff, driveUpdate_drc]
  refine driveChanOk_setChan ch (c := (driveMove ch _).leaveUpdate) (driveChanOk_driveMove ch ?_) (fun ch' => ?_)
  · refine faultRecordOk_driveFoldback ch _ ?_
    have hchan : (digIntoForce (curveChangeover .throttle s)).drc.chan ch = s.drc.chan ch := by
      cases ch <;> simp [digIntoForce, Drc.chan]
    rw [faultStep_drc, setChan_chan_same, hchan]
    exact faultRecordOk_faultChan _ _ _ ((driveRecordsOk_iff s).1 h ch).faultRecord
  · cases ch'
    exacts [h.1, h.2]

/-- Both channels replaced by records in order. -/
theorem driveRecordsOk_mapDrive {f : DriveCh → DriveChan → DriveChan} (h : DriveRecordsOk s)
    (hf : ∀ ch c, driveChanOk c → driveChanOk (f ch c)) : DriveRecordsOk (mapDrive f s) :=
  ⟨hf .df _ h.1, hf .dr _ h.2⟩

theorem driveRecordsOk_driveHold (h : DriveRecordsOk s) : DriveRecordsOk (driveHold s) :=
  driveRecordsOk_mapDrive h fun _ _ hc => driveChanOk_atRest hc.faultRecord fun hne => if_neg hne

theorem driveRecordsOk_driveCutoff (h : DriveRecordsOk s) : DriveRecordsOk (driveCutoff s) :=
  driveRecordsOk_mapDrive h fun _ _ hc => driveChanOk_atRest hc.faultRecord fun _ => rfl

theorem driveRecordsOk_driveUnitReset (s : State) (h : DriveRecordsOk s) : DriveRecordsOk (driveUnitReset s) :=
  driveRecordsOk_mapDrive h fun _ _ _ => ⟨fun hne => absurd rfl hne, by simp [driveChanReset, powerOnDriveChan],
    by simp [driveChanReset, powerOnDriveChan], fun hne => absurd rfl hne, by simp [driveChanReset, powerOnDriveChan],
    by simp [driveChanReset, powerOnDriveChan]⟩

/-- A latched channel is freed with its history emptied. -/
theorem driveRecordsOk_faultClearOwner (p : Payload) (h : DriveRecordsOk s) : DriveRecordsOk (faultClearOwner p s).1 := by
  unfold faultClearOwner
  split
  · exact h
  · next ch _ =>
    dsimp only
    split
    · next hlatched =>
      rw [driveRecordsOk_iff] at h ⊢
      obtain ⟨hbrake, hcap, hmax, -, -, hretry⟩ := h ch
      refine driveChanOk_setChan ch ⟨hbrake, hcap, hmax, fun hne => absurd rfl hne, by simp, ?_⟩ h
      simpa [hlatched] using hretry
    · exact h

/-- The entry into CUTOFF stops both channels. -/
theorem enterCutoff_drc (s : State) :
    (enterCutoff s).drc = if s.csc.chassis = .cutoff then s.drc else (driveCutoff s).drc := by
  unfold enterCutoff
  split <;> simp [driveCutoff, mapDrive, clearMotion]

/-- A sweep completion leaves the drive alone or stops it at the entry into CUTOFF. -/
theorem sweepComplete_drc_cases (x : SweepSamples) (s : State) :
    (sweepComplete x s).drc = s.drc ∨ (sweepComplete x s).drc = (driveCutoff s).drc := by
  unfold sweepComplete reportStage
  split
  · exact .inl rfl
  · dsimp only
    split
    · by_cases hc : s.csc.chassis = .cutoff
      · exact .inl (by simp [enterCutoff_drc, hc])
      · exact .inr (by simp [enterCutoff_drc, hc, driveCutoff, mapDrive])
    · exact .inl (by simp)

theorem driveRecordsOk_resetUnit (u : ResetUnit) (h : DriveRecordsOk s) : DriveRecordsOk (resetUnit u s) := by
  cases u
  case drive => exact driveRecordsOk_driveUnitReset s h
  all_goals simpa [resetUnit, DriveRecordsOk] using h

theorem driveRecordsOk_owner (i : Instr) (s : State) (h : DriveRecordsOk s) : DriveRecordsOk (ownerOf i s).1 := by
  cases i
  case faultClear p => exact driveRecordsOk_faultClearOwner p h
  case dig p =>
    simp only [ownerOf, digOwner]
    split <;> exact h
  case hold p =>
    simp only [ownerOf, holdOwner]
    split
    · have hdrc : (enterHold s).drc = (driveHold s).drc := by simp [enterHold, driveHold, mapDrive]
      unfold DriveRecordsOk
      rw [hdrc]
      exact driveRecordsOk_driveHold h
    all_goals exact h
  case unitResetSteer p | unitResetDrive p | unitResetWinch p | unitResetLights p | unitResetBattery p | unitResetLink p =>
    simp only [ownerOf, unitResetOwner]
    split
    · exact h
    · split
      · exact h
      · exact driveRecordsOk_resetUnit _ h
  all_goals simpa [ownerOf, DriveRecordsOk] using h

theorem driveRecordsOk_event {i : Instr} {due : State → Bool} {act : State → State} (hev : eventOf i = some (due, act))
    (s : State) (h : DriveRecordsOk s) : DriveRecordsOk (act s) := by
  cases i <;> cases hev
  case driveUpdate ch current | driveRetry ch current => exact driveRecordsOk_driveUpdate ch current h
  case sweepCompletion x | tapFaultChange x | stageWorsen x | stageRecover x =>
    unfold DriveRecordsOk
    rcases sweepComplete_drc_cases x s with hx | hx <;> rw [hx]
    · exact h
    · exact driveRecordsOk_driveCutoff h
  all_goals simpa [DriveRecordsOk] using h

theorem driveChanOk_powerOn : driveChanOk powerOnDriveChan := by
  refine ⟨fun hne => absurd rfl hne, ?_, ?_, fun hne => absurd rfl hne, ?_, ?_⟩ <;> simp [powerOnDriveChan]

/-- Settles O36: every write of a drive record ends in a channel at rest or in a capped output with the brake of rest. -/
theorem driveRecordsStayInOrder : Obligations.DriveRecordsStayInOrder := by
  refine fun s t h hstep => step_keeps_of (P := DriveRecordsOk) (fun s _ hs => hs) (fun s hs => ?_)
    (fun i s t hs => exec_keeps_of (fun s l hs => hs) driveRecordsOk_owner
      (fun i due act hev s => driveRecordsOk_event hev s) (fun enc s hs => ⟨driveChanOk_powerOn, driveChanOk_powerOn⟩)
      (fun power s hs => hs) hs) h hstep
  unfold tick
  split <;> exact hs

end DriveRecords

end Sys2Proof.Machine

namespace Sys2Proof.Machine

/-! ## The winch record -/

section WinchRecord

variable {s t : State}

theorem reasons_isEmpty_iff (r : Reasons) : r.isEmpty = true ↔ r = noReasons := by
  cases r
  simp [Reasons.isEmpty, noReasons, and_assoc]

/-- The states in which there is no operation. -/
def WinchState.still : WinchState → Bool
  | .braked | .free | .stalled => true
  | .spoolIn | .spoolOut | .pull | .suspended => false

/-- A winch without an operation is in order in every chassis state. -/
theorem winchRecordOk_of_still (hstate : s.wnc.state.still = true) (hop : s.wnc.op = none) (hduty : s.wnc.duty = 0)
    (hreasons : s.wnc.reasons = noReasons) : WinchRecordOk s := by
  unfold WinchRecordOk Wnc.hasOp
  rw [hop, hduty, hreasons]
  cases h : s.wnc.state <;> simp_all [WinchState.still, WinchState.driving]

/-- A driving winch is in order in RUN. -/
theorem winchRecordOk_of_driving {k : WinchOp} (hrun : s.csc.chassis = .run) (hop : s.wnc.op = some k)
    (hstate : s.wnc.state = k.driveState) (hreasons : s.wnc.reasons = noReasons) : WinchRecordOk s := by
  unfold WinchRecordOk Wnc.hasOp
  rw [hop, hstate, hreasons, hrun]
  cases k <;> simp [WinchOp.driveState, WinchState.driving]

/-- A suspended winch is in order in RUN, and in HOLD with the reason HOLD. -/
theorem winchRecordOk_of_suspended (hstate : s.wnc.state = .suspended) (hop : s.wnc.op.isSome) (hduty : s.wnc.duty = 0)
    (hreasons : s.wnc.reasons ≠ noReasons)
    (hchassis : s.csc.chassis = .run ∨ (s.csc.chassis = .hold ∧ s.wnc.reasons.hold = true)) : WinchRecordOk s := by
  unfold WinchRecordOk Wnc.hasOp
  rw [hstate]
  simp [WinchState.driving, hop, hduty, hreasons, hchassis]

/-- What a record in order says of a driving winch. -/
theorem WinchRecordOk.of_driving (h : WinchRecordOk s) (hd : s.wnc.state.driving = true) :
    s.csc.chassis = .run ∧ s.wnc.reasons = noReasons ∧ ∃ k, s.wnc.op = some k ∧ s.wnc.state = k.driveState := by
  obtain ⟨hreasons, -, hdriving, -, -⟩ := h
  obtain ⟨hop, hrun⟩ := hdriving hd
  have hstate : s.wnc.state ≠ .suspended := by
    rintro hs
    rw [hs] at hd
    cases hd
  refine ⟨hrun, by_contra fun hne => hstate (hreasons.2 hne), ?_⟩
  obtain ⟨k, hk, hdrive⟩ := Option.map_eq_some_iff.1 hop
  exact ⟨k, hk, hdrive.symm⟩

/-- What a record in order says of a suspended winch. -/
theorem WinchRecordOk.of_suspended (h : WinchRecordOk s) (hs : s.wnc.state = .suspended) :
    s.wnc.op.isSome = true ∧ s.wnc.duty = 0 ∧ s.wnc.reasons ≠ noReasons ∧
      (s.csc.chassis = .run ∨ (s.csc.chassis = .hold ∧ s.wnc.reasons.hold = true)) := by
  obtain ⟨hreasons, hop, -, hduty, hchassis⟩ := h
  exact ⟨hop.1 (by simp [Wnc.hasOp, hs]), hduty (by simp [hs, WinchState.driving]), hreasons.1 hs, hchassis hs⟩

/-- What a record in order says of a winch without an operation. -/
theorem WinchRecordOk.of_still (h : WinchRecordOk s) (hs : s.wnc.state.still = true) :
    s.wnc.op = none ∧ s.wnc.duty = 0 ∧ s.wnc.reasons = noReasons := by
  obtain ⟨hreasons, hop, -, hduty, -⟩ := h
  have hnot : s.wnc.state ≠ .suspended ∧ s.wnc.state.driving = false := by
    cases hst : s.wnc.state <;> simp_all [WinchState.still, WinchState.driving]
  refine ⟨?_, hduty hnot.2, by_contra fun hne => hnot.1 (hreasons.2 hne)⟩
  simpa [Wnc.hasOp, hnot.1, hnot.2] using hop

/-- Every state of a winch is still, driving or suspended. -/
theorem winchState_cases (st : WinchState) : st.still = true ∨ st.driving = true ∨ st = .suspended := by
  cases st <;> simp [WinchState.still, WinchState.driving]

/-- The record is in order as long as its state, operation, duty and reasons and the chassis state stand. -/
theorem WinchRecordOk.of_eq (h : WinchRecordOk s) (hchassis : t.csc.chassis = s.csc.chassis) (hstate : t.wnc.state = s.wnc.state)
    (hop : t.wnc.op = s.wnc.op) (hduty : t.wnc.duty = s.wnc.duty) (hreasons : t.wnc.reasons = s.wnc.reasons) :
    WinchRecordOk t := by
  unfold WinchRecordOk Wnc.hasOp
  rw [hchassis, hstate, hop, hduty, hreasons]
  exact h

/-- A winch without an operation is in order whatever the chassis does. -/
theorem WinchRecordOk.of_still_moved (h : WinchRecordOk s) (hs : s.wnc.state.still = true) (hwnc : t.wnc = s.wnc) :
    WinchRecordOk t := by
  obtain ⟨hop, hduty, hreasons⟩ := h.of_still hs
  refine winchRecordOk_of_still ?_ ?_ ?_ ?_ <;> rw [hwnc] <;> assumption

/-- Outside RUN and HOLD there is no operation. -/
theorem WinchRecordOk.still_of_chassis (h : WinchRecordOk s) (hrun : s.csc.chassis ≠ .run) (hhold : s.csc.chassis ≠ .hold) :
    s.wnc.state.still = true := by
  rcases winchState_cases s.wnc.state with hs | hs | hs
  · exact hs
  · exact absurd (h.of_driving hs).1 hrun
  · obtain ⟨-, -, -, hc⟩ := h.of_suspended hs
    rcases hc with hc | ⟨hc, -⟩
    exacts [absurd hc hrun, absurd hc hhold]

/-! ### The operations on the record -/

theorem winchRecordOk_endOp (r : WinchResult) {st : WinchState} (hst : st.still = true) (s : State) :
    WinchRecordOk (endOp r st s) := by
  apply winchRecordOk_of_still <;> simp [Wnc.rest, hst]

theorem winchRecordOk_endAnyOp (r : WinchResult) (s : State) : WinchRecordOk (endAnyOp r s) := by
  unfold endAnyOp
  split
  · exact winchRecordOk_endOp r rfl s
  · exact winchRecordOk_of_still rfl rfl rfl rfl

theorem winchRecordOk_limitCheck (h : WinchRecordOk s) : WinchRecordOk (limitCheck s) := by
  rcases limitCheck_cases s with heq | ⟨-, hd, heq | heq⟩ <;> rw [heq]
  · exact h
  · exact winchRecordOk_endOp _ rfl s
  · obtain ⟨hrun, hreasons, k, hk, hstate⟩ := h.of_driving hd
    exact winchRecordOk_of_driving (s := s.withWnc { s.wnc with duty := 0 }) hrun hk hstate hreasons

/-- In RUN an operation whose reasons have gone is restored. -/
theorem winchRecordOk_restoreOp (hrun : s.csc.chassis = .run) (hop : s.wnc.op.isSome) (hreasons : s.wnc.reasons = noReasons) :
    WinchRecordOk (restoreOp s) := by
  unfold restoreOp
  dsimp only
  split
  · next hnone => simp [hnone] at hop
  · next k hk =>
    split
    · exact winchRecordOk_endOp _ rfl _
    · exact winchRecordOk_limitCheck (winchRecordOk_of_driving (k := k) hrun hk rfl hreasons)

/-- The last reason that goes restores the operation. -/
theorem dropReason_restores {r : Reasons} (hs : s.wnc.state = .suspended) (hr : r = noReasons) :
    dropReason r s = restoreOp (s.withWnc { s.wnc with reasons := r }) := by
  unfold dropReason
  exact if_pos (by simp [hs, (reasons_isEmpty_iff r).2 hr])

/-- While a reason is left the operation stays suspended. -/
theorem dropReason_waits {r : Reasons} (hr : r ≠ noReasons) : dropReason r s = s.withWnc { s.wnc with reasons := r } := by
  unfold dropReason
  exact if_neg (by simp [reasons_isEmpty_iff, hr])

/-- A reason may leave a suspended winch in RUN, and in HOLD one other than HOLD. -/
theorem winchRecordOk_dropReason {r : Reasons} (hs : s.wnc.state = .suspended) (hop : s.wnc.op.isSome) (hduty : s.wnc.duty = 0)
    (hchassis : s.csc.chassis = .run ∨ (s.csc.chassis = .hold ∧ r.hold = true)) : WinchRecordOk (dropReason r s) := by
  by_cases hr : r = noReasons
  · have hrun : s.csc.chassis = .run := by
      rcases hchassis with hc | ⟨-, hc⟩
      · exact hc
      · rw [hr] at hc
        cases hc
    rw [dropReason_restores hs hr]
    exact winchRecordOk_restoreOp (s := s.withWnc { s.wnc with reasons := r }) hrun hop hr
  · rw [dropReason_waits hr]
    exact winchRecordOk_of_suspended (s := s.withWnc { s.wnc with reasons := r }) hs hop hduty hr hchassis

/-- A driving or suspended operation takes a reason in RUN, and in HOLD beside HOLD. -/
theorem winchRecordOk_suspendOp {r : Reasons} (hop : s.wnc.op.isSome) (hr : r ≠ noReasons)
    (hchassis : s.csc.chassis = .run ∨ (s.csc.chassis = .hold ∧ r.hold = true)) :
    WinchRecordOk (s.withWnc (suspendOp r s.wnc)) :=
  winchRecordOk_of_suspended (s := s.withWnc (suspendOp r s.wnc)) rfl hop rfl hr hchassis

theorem host_ne_noReasons (r : Reasons) : { r with host := true } ≠ noReasons := by simp [noReasons]
theorem hold_ne_noReasons (r : Reasons) : { r with hold := true } ≠ noReasons := by simp [noReasons]
theorem budget_ne_noReasons (r : Reasons) : { r with budget := true } ≠ noReasons := by simp [noReasons]

/-- A reason joins those of a suspended winch. -/
theorem WinchRecordOk.addReason (h : WinchRecordOk s) (hs : s.wnc.state = .suspended) {r : Reasons} (hr : r ≠ noReasons)
    (hhold : s.wnc.reasons.hold = true → r.hold = true) : WinchRecordOk (s.withWnc { s.wnc with reasons := r }) := by
  obtain ⟨hop, hduty, -, hc⟩ := h.of_suspended hs
  exact winchRecordOk_of_suspended (s := s.withWnc { s.wnc with reasons := r }) hs hop hduty hr
    (hc.imp_right fun ⟨hc, hh⟩ => ⟨hc, hhold hh⟩)

/-- HOLD joins the reasons at the transition into HOLD, whatever state it is made from. -/
theorem winchRecordOk_winchHold (h : WinchRecordOk t) (hwnc : s.wnc = t.wnc) (hhold : s.csc.chassis = .hold) : WinchRecordOk (winchHold s) := by
  unfold winchHold
  rw [hwnc]
  dsimp only
  split
  · next hd =>
    obtain ⟨-, -, k, hk, -⟩ := h.of_driving hd
    rw [← hwnc] at hk ⊢
    exact winchRecordOk_suspendOp (by simp [hk]) (hold_ne_noReasons _) (.inr ⟨hhold, rfl⟩)
  · split
    · next hs =>
      obtain ⟨hop, hduty, -, -⟩ := h.of_suspended hs
      exact winchRecordOk_of_suspended hs hop hduty (hold_ne_noReasons _) (.inr ⟨hhold, rfl⟩)
    · next hd hs =>
      refine h.of_still_moved ?_ hwnc
      rcases winchState_cases t.wnc.state with hst | hst | hst
      exacts [hst, absurd hst hd, absurd hst hs]

/-- A new operation is in order in RUN and HOLD. -/
theorem winchRecordOk_startOp (k : WinchOp) (d : WinchDir) (speed : Nat) (target : Int)
    (hchassis : s.csc.chassis = .run ∨ s.csc.chassis = .hold) : WinchRecordOk (startOp k d speed target s) := by
  unfold startOp
  dsimp only
  split
  · next hhold => exact winchRecordOk_of_suspended rfl rfl rfl (hold_ne_noReasons _) (.inr ⟨hhold, rfl⟩)
  · next hhold => exact winchRecordOk_of_driving (k := k) (hchassis.resolve_right hhold) rfl rfl rfl

theorem winchRecordOk_replaceOp (h : WinchRecordOk s) : WinchRecordOk (replaceOp s) := by
  unfold replaceOp
  split
  · exact winchRecordOk_endOp _ rfl s
  · next hnot =>
    rcases winchState_cases s.wnc.state with hs | hs | hs
    · obtain ⟨hop, hduty, -⟩ := h.of_still hs
      exact winchRecordOk_of_still hs hop hduty rfl
    · obtain ⟨hrun, -, k, hk, hstate⟩ := h.of_driving hs
      exact winchRecordOk_of_driving hrun hk hstate rfl
    · exact absurd (.inr hs) hnot

/-- WINCH_RUN starts a spool in RUN and HOLD alone, and lets the winch rest in its other modes. -/
theorem winchRecordOk_winchRunMode (mode asked : Nat) (h : WinchRecordOk s) : WinchRecordOk (winchRunMode mode asked s).1 := by
  have hspool : ∀ k d, mode ≤ 1 → runModeAllowed mode s.csc.chassis = true → WinchRecordOk (runSpool k d asked s).1 := by
    intro k d hmode hallowed
    unfold runSpool
    split
    · exact h
    · refine winchRecordOk_startOp k d _ _ ?_
      cases hc : s.csc.chassis <;> simp [hc, runModeAllowed] at hallowed
      · omega
      · simp [hc]
      · simp [hc]
      · omega
  unfold winchRunMode
  split
  · exact h
  · split
    · exact h
    · next hallowed =>
      have hallowed : runModeAllowed mode s.csc.chassis = true := by simpa using hallowed
      split
      · exact hspool _ _ (by omega) hallowed
      · split
        · exact hspool _ _ (by omega) hallowed
        · refine winchRecordOk_of_still ?_ rfl rfl rfl
          dsimp only [withWnc_wnc, Wnc.rest]
          split <;> rfl

theorem winchRecordOk_winchPullOwner (p : Payload) (h : WinchRecordOk s) : WinchRecordOk (winchPullOwner p s).1 := by
  unfold winchPullOwner
  split
  · exact h
  · next hok =>
    dsimp only [startPull]
    split
    · exact winchRecordOk_endOp _ rfl _
    · refine winchRecordOk_startOp _ _ _ _ ?_
      cases hc : s.csc.chassis <;> simp_all [pullRefusedIn]

theorem winchRecordOk_winchSuspendOwner (h : WinchRecordOk s) : WinchRecordOk (winchSuspendOwner s).1 := by
  unfold winchSuspendOwner
  dsimp only
  split
  · next hd =>
    obtain ⟨hrun, -, k, hk, -⟩ := h.of_driving hd
    exact winchRecordOk_suspendOp (by simp [hk]) (host_ne_noReasons _) (.inl hrun)
  · split
    · next hs => exact h.addReason hs (host_ne_noReasons _) id
    · exact h

/-- A winch that a reason holds is suspended. -/
theorem WinchRecordOk.suspended_of_reason (h : WinchRecordOk s) (hr : s.wnc.reasons ≠ noReasons) : s.wnc.state = .suspended :=
  h.1.2 hr

theorem winchRecordOk_winchResumeOwner (h : WinchRecordOk s) : WinchRecordOk (winchResumeOwner s).1 := by
  unfold winchResumeOwner
  split
  · next hhost =>
    have hs := h.suspended_of_reason (fun hr => by simp [hr, noReasons] at hhost)
    obtain ⟨hop, hduty, -, hc⟩ := h.of_suspended hs
    exact winchRecordOk_dropReason hs hop hduty hc
  · exact h

theorem winchRecordOk_winchZeroOwner (h : WinchRecordOk s) : WinchRecordOk (winchZeroOwner s).1 := by
  unfold winchZeroOwner
  dsimp only
  split
  · exact h
  · exact winchRecordOk_limitCheck (h.of_eq rfl rfl rfl rfl rfl)

theorem winchRecordOk_winchLimitsOwner (p : Payload) (h : WinchRecordOk s) : WinchRecordOk (winchLimitsOwner p s).1 := by
  unfold winchLimitsOwner
  split
  · exact h
  · dsimp only
    split
    · exact h
    · exact winchRecordOk_limitCheck (h.of_eq rfl rfl rfl rfl rfl)

/-! ### The chassis -/

theorem winchRecordOk_setMotionOwner (p : Payload) (h : WinchRecordOk s) : WinchRecordOk (setMotionOwner p s).1 := by
  unfold setMotionOwner
  dsimp only
  split
  · next hc =>
    split
    · exact h.of_still_moved (h.still_of_chassis (by simp [hc]) (by simp [hc])) (by simp [writeSetpoint])
    · exact h
  · next hc =>
    split
    · exact h.of_still_moved (h.still_of_chassis (by simp [hc]) (by simp [hc])) (by simp [writeSetpoint])
    · exact h
  · exact h.of_eq rfl rfl rfl rfl rfl
  · exact h.of_eq rfl rfl rfl rfl rfl
  · exact h

theorem winchRecordOk_holdOwner (h : WinchRecordOk s) : WinchRecordOk (holdOwner s).1 := by
  unfold holdOwner
  split
  · exact winchRecordOk_winchHold h (by simp) (by simp)
  all_goals exact h

theorem winchRecordOk_resumeOwner (h : WinchRecordOk s) : WinchRecordOk (resumeOwner s).1 := by
  unfold resumeOwner
  split
  · next hhold =>
    dsimp only [resumeRun, winchUnhold]
    split
    · next hs =>
      obtain ⟨hop, hduty, -, -⟩ := h.of_suspended (by simpa using hs)
      exact winchRecordOk_dropReason hs (by simpa using hop) (by simpa using hduty) (.inl (by simp))
    · next hs =>
      refine h.of_still_moved ?_ (by simp)
      rcases winchState_cases s.wnc.state with hst | hst | hst
      · exact hst
      · cases hhold.symm.trans (h.of_driving hst).1
      · exact absurd (by simpa using hst) hs
  all_goals exact h

theorem winchRecordOk_cutoffReleaseOwner (h : WinchRecordOk s) : WinchRecordOk (cutoffReleaseOwner s).1 := by
  unfold cutoffReleaseOwner
  split
  · next hc =>
    split
    · exact h.of_still_moved (h.still_of_chassis (by simp [hc]) (by simp [hc])) (by simp)
    · exact h
  all_goals exact h

/-- A mode change writes the flag of the hold record alone. -/
@[simp] theorem noteModeChange_csc_keeps (s : State) :
    (noteModeChange s).csc.chassis = s.csc.chassis ∧ (noteModeChange s).csc.setpoint = s.csc.setpoint ∧
      (noteModeChange s).csc.hold.isSome = s.csc.hold.isSome := by
  unfold noteModeChange
  split
  · split <;> simp [*]
  · simp

@[simp] theorem changeMode_csc_keeps (m : SteerMode) (s : State) :
    (changeMode m s).csc.chassis = s.csc.chassis ∧ (changeMode m s).csc.setpoint = s.csc.setpoint ∧
      (changeMode m s).csc.hold.isSome = s.csc.hold.isSome := by
  unfold changeMode
  dsimp only
  split <;> simp

@[simp] theorem steerModeOwner_csc_keeps (p : Payload) (s : State) :
    (steerModeOwner p s).1.csc.chassis = s.csc.chassis ∧ (steerModeOwner p s).1.csc.setpoint = s.csc.setpoint ∧
      (steerModeOwner p s).1.csc.hold.isSome = s.csc.hold.isSome := by
  unfold steerModeOwner
  split
  · simp
  · dsimp only
    split <;> simp

theorem winchRecordOk_restore (strap : PinLevel) (new : WorkingConfig) (h : WinchRecordOk s) :
    WinchRecordOk (restore strap new s) := by
  unfold restore
  have hlimit : WinchRecordOk (limitCheck (acceptRestoredEnds new.spg (closeAllLoads
      ((s.withCfg (restoredCfg strap new s)).withBmn (restoredRuns strap s s.bmn))))) :=
    winchRecordOk_limitCheck (by simpa [WinchRecordOk] using h)
  simpa [WinchRecordOk] using hlimit

theorem winchRecordOk_resetUnit (u : ResetUnit) (h : WinchRecordOk s) : WinchRecordOk (resetUnit u s) := by
  cases u
  case winch => exact (winchRecordOk_endAnyOp .reset s).of_eq rfl rfl rfl rfl rfl
  all_goals simpa [resetUnit, WinchRecordOk] using h

theorem winchRecordOk_owner (i : Instr) (s : State) (h : WinchRecordOk s) : WinchRecordOk (ownerOf i s).1 := by
  cases i
  case setMotion p => exact winchRecordOk_setMotionOwner p h
  case hold => exact winchRecordOk_holdOwner h
  case resume => exact winchRecordOk_resumeOwner h
  case cutoffRelease => exact winchRecordOk_cutoffReleaseOwner h
  case winchRun p => exact winchRecordOk_winchRunMode _ _ h
  case winchPull p => exact winchRecordOk_winchPullOwner p h
  case winchSuspend => exact winchRecordOk_winchSuspendOwner h
  case winchResume => exact winchRecordOk_winchResumeOwner h
  case winchZero => exact winchRecordOk_winchZeroOwner h
  case winchLimits p => exact winchRecordOk_winchLimitsOwner p h
  case profileRestore strap p =>
    rcases profileRestoreOwner_fst_cases strap s with ⟨c, hc⟩ | ⟨c, -, hr⟩
    · simpa [ownerOf, hc, WinchRecordOk] using h
    · rw [ownerOf, hr]
      exact winchRecordOk_restore strap c h
  case profileDefaults strap p =>
    rcases profileDefaultsOwner_fst_cases strap s with ⟨c, hc⟩ | hr
    · simpa [ownerOf, hc, WinchRecordOk] using h
    · rw [ownerOf, hr]
      exact winchRecordOk_restore strap factoryConfig h
  case unitResetSteer p | unitResetDrive p | unitResetWinch p | unitResetLights p | unitResetBattery p | unitResetLink p =>
    simp only [ownerOf, unitResetOwner]
    split
    · exact h
    · split
      · exact h
      · exact winchRecordOk_resetUnit _ h
  all_goals simpa [ownerOf, WinchRecordOk] using h

/-! ### The events -/

theorem winchRecordOk_grantRead (current : Nat) (h : WinchRecordOk s) : WinchRecordOk (grantRead current s) := by
  unfold grantRead
  split
  · dsimp only
    split
    · next hadds =>
      split
      · next hd =>
        obtain ⟨hrun, -, k, hk, -⟩ := h.of_driving hd
        exact winchRecordOk_suspendOp (s := s.withWnc { s.wnc with grantUnread := false }) (by simp [hk])
          (budget_ne_noReasons _) (.inl hrun)
      · next hd =>
        have hs : s.wnc.state = .suspended := by
          have hd : s.wnc.state.driving = false := by simpa using hd
          exact (by simpa [budgetAdds, Wnc.hasOp, hd] using hadds : s.bmn.pub.stage = .shed ∧ s.wnc.state = .suspended).2
        exact WinchRecordOk.addReason (s := s.withWnc { s.wnc with grantUnread := false }) (h.of_eq rfl rfl rfl rfl rfl) hs
          (budget_ne_noReasons _) id
    · split
      · next hremoves =>
        have hbudget : s.wnc.reasons.budget = true := by
          simp only [budgetRemoves, Bool.and_eq_true] at hremoves
          exact hremoves.1.1
        have hs := h.suspended_of_reason (fun hr => by simp [hr, noReasons] at hbudget)
        obtain ⟨hop, hduty, -, hc⟩ := h.of_suspended hs
        exact winchRecordOk_dropReason (s := s.withWnc { s.wnc with grantUnread := false }) hs hop hduty hc
      · exact h.of_eq rfl rfl rfl rfl rfl
  · exact h

/-- A trip, a stall or the capped duty of an update of a driving winch. -/
theorem winchRecordOk_winchDrive (current : Nat) (h : WinchRecordOk s) (hd : s.wnc.state.driving = true) :
    WinchRecordOk (winchDrive current s) := by
  have hcap : ∀ duty arm, WinchRecordOk (capAndLimit duty arm s) := by
    intro duty arm
    obtain ⟨hrun, hreasons, k, hk, hstate⟩ := h.of_driving hd
    exact winchRecordOk_limitCheck (winchRecordOk_of_driving (k := k) hrun hk hstate hreasons)
  unfold winchDrive
  split
  · exact (winchRecordOk_endOp .fault rfl s).of_eq rfl rfl rfl rfl rfl
  · dsimp only
    split
    · exact (winchRecordOk_endOp .stall rfl s).of_eq rfl rfl rfl rfl rfl
    · exact hcap _ _
    · exact hcap _ _

theorem winchRecordOk_winchUpdate (current : Nat) (h : WinchRecordOk s) : WinchRecordOk (winchUpdate current s) := by
  have hread : WinchRecordOk (winchFoldback (min current 65000) (grantRead (min current 65000) s)) :=
    (winchRecordOk_grantRead _ h).of_eq rfl rfl rfl rfl rfl
  unfold winchUpdate
  dsimp only
  split
  · next hd => exact winchRecordOk_winchDrive _ hread hd
  · next hd => exact hread.of_eq rfl rfl rfl (hread.2.2.2.1 (by simpa using hd)).symm rfl

theorem winchRecordOk_loseValidity (h : WinchRecordOk s) : WinchRecordOk (loseValidity s) := by
  unfold loseValidity
  dsimp only
  split
  · exact winchRecordOk_endOp _ rfl _
  · exact h.of_eq rfl rfl rfl rfl rfl

theorem winchRecordOk_countChecks (h : WinchRecordOk s) : WinchRecordOk (countChecks s) := by
  unfold countChecks
  split
  · exact winchRecordOk_endOp _ rfl _
  · exact winchRecordOk_limitCheck h

theorem winchRecordOk_encoderStep (d : Int) (h : WinchRecordOk s) : WinchRecordOk (encoderStep d s) := by
  unfold encoderStep
  dsimp only
  split
  · exact winchRecordOk_countChecks (winchRecordOk_loseValidity (h.of_eq rfl rfl rfl rfl rfl))
  · exact winchRecordOk_countChecks (h.of_eq rfl rfl rfl rfl rfl)

theorem winchRecordOk_encoderChange (e : EncoderPins) (h : WinchRecordOk s) : WinchRecordOk (encoderChange e s) := by
  have hread : WinchRecordOk (s.withWnc { s.wnc with enc := e }) := h.of_eq rfl rfl rfl rfl rfl
  unfold encoderChange
  dsimp only
  split
  · exact h
  · split
    · exact winchRecordOk_encoderStep 1 hread
    · split
      · exact winchRecordOk_encoderStep (-1) hread
      · exact winchRecordOk_loseValidity (hread.of_eq rfl rfl rfl rfl rfl)

/-- Link loss ends the operation of RUN or HOLD. -/
theorem winchRecordOk_linkLost (cause : Cause) (h : WinchRecordOk s) : WinchRecordOk (linkLost cause s) := by
  unfold linkLost
  dsimp only
  split
  · exact winchRecordOk_endAnyOp _ _
  · exact winchRecordOk_endAnyOp _ _
  all_goals exact h.of_eq rfl rfl rfl rfl rfl

theorem winchRecordOk_enterCutoff (h : WinchRecordOk s) : WinchRecordOk (enterCutoff s) := by
  unfold enterCutoff
  split
  · exact h
  · simpa [WinchRecordOk] using winchRecordOk_endAnyOp .cutoff
      (driveCutoff (shiftToIdle (dropBlends (moveChassis .cutoff .batteryCutoff (clearMotion s)))))

theorem winchRecordOk_sweepComplete (x : SweepSamples) (h : WinchRecordOk s) : WinchRecordOk (sweepComplete x s) := by
  have hreport : WinchRecordOk (reportStage s.bmn.stage (s.withBmn (sweptBmn x s))) := by
    unfold reportStage
    split
    · exact h
    · dsimp only
      split
      · exact winchRecordOk_enterCutoff (by simpa [WinchRecordOk] using h)
      · simpa [WinchRecordOk] using h
  exact hreport.of_eq rfl rfl rfl rfl rfl

/-- A character may end a loss of the link; the rest of CSC's record stands. -/
@[simp] theorem receiveChar_csc_keeps (c : UartChar) (s : State) :
    (receiveChar c s).csc.chassis = s.csc.chassis ∧ (receiveChar c s).csc.setpoint = s.csc.setpoint ∧
      (receiveChar c s).csc.hold = s.csc.hold := by
  unfold receiveChar
  split
  · simp
  · dsimp only
    split
    · simp only [receiveByte, finishFrame]
      split
      · simp
      · simp only [queueFrame_keeps, noteGoodFrame]
        split <;> simp [linkRegained]
      · simp
    · simp

theorem winchRecordOk_event {i : Instr} {due : State → Bool} {act : State → State} (hev : eventOf i = some (due, act))
    (s : State) (h : WinchRecordOk s) : WinchRecordOk (act s) := by
  cases i <;> cases hev
  case lineBreak => exact winchRecordOk_linkLost _ (by simpa [WinchRecordOk] using h)
  case linkTimerExpiry => exact winchRecordOk_linkLost _ (by simpa [WinchRecordOk] using h)
  case winchUpdate current | winchStall current => exact winchRecordOk_winchUpdate current h
  case encoderCount e => exact winchRecordOk_encoderChange e h
  case lineSpeedWindowEnd => exact h.of_eq rfl rfl rfl rfl rfl
  case sweepCompletion x | tapFaultChange x | stageWorsen x | stageRecover x => exact winchRecordOk_sweepComplete x h
  all_goals simpa [WinchRecordOk] using h

/-- Settles O43: an operation ends in a still record, is suspended by a reason and driven in RUN alone, and every change of the chassis
state that leaves RUN suspends or ends it. -/
theorem winchRecordStaysInOrder : Obligations.WinchRecordStaysInOrder := by
  intro s t _ h hstep
  refine step_keeps_of (P := WinchRecordOk) (fun s _ hs => hs) (fun s hs => ?_)
    (fun i s t hs => exec_keeps_of (fun s l hs => hs) winchRecordOk_owner
      (fun i due act hev s => winchRecordOk_event hev s) (fun enc s hs => winchRecordOk_of_still rfl rfl rfl rfl)
      (fun power s hs => hs) hs) h hstep
  unfold tick
  split <;> exact hs

end WinchRecord

end Sys2Proof.Machine

namespace Sys2Proof.Machine

/-! ## The chassis record -/

section ChassisRecord

variable {s t : State}

/-- The chassis record is in order as long as what it reads stands. -/
theorem ChassisRecordOk.of_eq (h : ChassisRecordOk s) (hchassis : t.csc.chassis = s.csc.chassis)
    (hsetpoint : t.csc.setpoint = s.csc.setpoint) (hhold : t.csc.hold.isSome = s.csc.hold.isSome)
    (hstage : t.bmn.stage = s.bmn.stage) (hpub : t.bmn.pub.stage = s.bmn.pub.stage) : ChassisRecordOk t := by
  unfold ChassisRecordOk
  rw [hchassis, hsetpoint, hhold, hstage, hpub]
  exact h

/-- A chassis without setpoint and hold record is in order outside RUN and HOLD. -/
theorem chassisRecordOk_of_cleared (hsetpoint : s.csc.setpoint = clearedSetpoint) (hhold : s.csc.hold = none)
    (hnot : s.csc.chassis ≠ .run ∧ s.csc.chassis ≠ .hold) (hcutoff : s.csc.chassis = .cutoff ↔ s.bmn.stage = .cutoff)
    (hpub : s.bmn.pub.stage = s.bmn.stage) : ChassisRecordOk s := by
  refine ⟨?_, ?_, fun _ => hsetpoint, hcutoff, hpub⟩
  · simp [hhold, hnot.2]
  · simp [hsetpoint, hnot, clearedSetpoint]

/-- A valid setpoint is in order in RUN without a hold record and in HOLD with one. -/
theorem chassisRecordOk_of_valid (hsetpoint : s.csc.setpoint.valid = true)
    (hchassis : (s.csc.chassis = .run ∧ s.csc.hold = none) ∨ (s.csc.chassis = .hold ∧ s.csc.hold.isSome = true))
    (hstage : s.bmn.stage ≠ .cutoff) (hpub : s.bmn.pub.stage = s.bmn.stage) : ChassisRecordOk s := by
  unfold ChassisRecordOk
  rcases hchassis with ⟨hc, hhold⟩ | ⟨hc, hhold⟩ <;> simp [hsetpoint, hc, hhold, hstage, hpub]

/-- Outside CUTOFF the stage is not CUTOFF. -/
theorem ChassisRecordOk.stage_ne (h : ChassisRecordOk s) (hc : s.csc.chassis ≠ .cutoff) : s.bmn.stage ≠ .cutoff :=
  fun hstage => hc (h.2.2.2.1.2 hstage)

theorem chassisRecordOk_setMotionOwner (p : Payload) (h : ChassisRecordOk s) : ChassisRecordOk (setMotionOwner p s).1 := by
  have hpub : s.bmn.pub.stage = s.bmn.stage := h.2.2.2.2
  have hhold : s.csc.chassis ≠ .hold → s.csc.hold = none := fun hc => by
    simpa using mt h.1.1 hc
  have hstart : s.csc.chassis ≠ .hold → s.csc.chassis ≠ .cutoff →
      ChassisRecordOk (moveChassis .run .neutralSetpoint (writeSetpoint p s)) := by
    intro hne hcut
    exact chassisRecordOk_of_valid (by simp [writeSetpoint]) (.inl (by simp [writeSetpoint, hhold hne]))
      (by simpa [writeSetpoint] using h.stage_ne hcut) (by simpa [writeSetpoint] using hpub)
  unfold setMotionOwner
  dsimp only
  split
  · next hc =>
    split
    · exact hstart (by simp [hc]) (by simp [hc])
    · exact h
  · next hc =>
    split
    · exact hstart (by simp [hc]) (by simp [hc])
    · exact h
  · next hc => exact chassisRecordOk_of_valid rfl (.inl ⟨hc, hhold (by simp [hc])⟩) (h.stage_ne (by simp [hc])) hpub
  · next hc => exact chassisRecordOk_of_valid rfl (.inr ⟨hc, h.1.2 hc⟩) (h.stage_ne (by simp [hc])) hpub
  · exact h

theorem chassisRecordOk_holdOwner (h : ChassisRecordOk s) : ChassisRecordOk (holdOwner s).1 := by
  unfold holdOwner
  split
  · next hc =>
    exact chassisRecordOk_of_valid (by simpa [enterHold] using h.2.1.2 (.inl hc)) (.inr (by simp [enterHold]))
      (by simpa [enterHold] using h.stage_ne (by simp [hc])) (by simpa [enterHold] using h.2.2.2.2)
  all_goals exact h

theorem chassisRecordOk_resumeOwner (h : ChassisRecordOk s) : ChassisRecordOk (resumeOwner s).1 := by
  unfold resumeOwner
  split
  · next hc =>
    exact chassisRecordOk_of_valid (by simpa [resumeRun] using h.2.1.2 (.inr hc)) (.inl (by simp [resumeRun]))
      (by simpa [resumeRun] using h.stage_ne (by simp [hc])) (by simpa [resumeRun] using h.2.2.2.2)
  all_goals exact h

/-- A cleared setpoint and no hold record are what a record in order has outside RUN and HOLD. -/
theorem ChassisRecordOk.cleared (h : ChassisRecordOk s) (hrun : s.csc.chassis ≠ .run) (hhold : s.csc.chassis ≠ .hold) :
    s.csc.setpoint = clearedSetpoint ∧ s.csc.hold = none := by
  obtain ⟨hrecord, hvalid, hcleared, -, -⟩ := h
  refine ⟨hcleared (Bool.eq_false_iff.2 fun hv => ?_), by simpa using mt hrecord.1 hhold⟩
  exact (hvalid.1 hv).elim hrun hhold

theorem chassisRecordOk_cutoffReleaseOwner (h : ChassisRecordOk s) : ChassisRecordOk (cutoffReleaseOwner s).1 := by
  unfold cutoffReleaseOwner
  split
  · next hc =>
    split
    · obtain ⟨hsetpoint, hhold⟩ := h.cleared (by simp [hc]) (by simp [hc])
      apply chassisRecordOk_of_cleared <;> simp [releaseCutoff, releasedBmn, hsetpoint, hhold]
    · exact h
  all_goals exact h

/-! ### The stage at a sweep completion -/

/-- A sweep completion publishes the stage that it leaves. -/
theorem bmnSweep_pub_stage (cfg : BmnCfg) (x : SweepSamples) (b : Bmn) : (bmnSweep cfg x b).pub.stage = (bmnSweep cfg x b).stage :=
  rfl

@[simp] theorem cellCountStep_stage (cfg : BmnCfg) (pack : Nat) (b : Bmn) : (cellCountStep cfg pack b).stage = b.stage := by
  unfold cellCountStep emptyFilters
  dsimp only
  split <;> rfl

@[simp] theorem tapFaultStep_stage (x : SweepSamples) (b : Bmn) : (tapFaultStep x b).stage = b.stage := by
  simp only [tapFaultStep, emptyFilters]
  split_ifs <;> rfl

/-- The cells of a sweep leave the stage alone. -/
@[simp] theorem cellsStep_stage (cfg : BmnCfg) (x : SweepSamples) (b : Bmn) : (cellsStep cfg x b).stage = b.stage := by
  simp [cellsStep, filterStep]

/-- CUTOFF is left by a release alone. -/
theorem stageStep_cutoff (cfg : BmnCfg) (v : Nat) {b : Bmn} (h : b.stage = .cutoff) : (stageStep cfg v b).stage = .cutoff := by
  have hworst : ¬Stage.cutoff.code < (worstDue cfg b).code := by
    cases worstDue cfg b <;> decide
  simp [stageStep, h, hworst, recovers]

theorem bmnSweep_cutoff (cfg : BmnCfg) (x : SweepSamples) {b : Bmn} (h : b.stage = .cutoff) :
    (bmnSweep cfg x b).stage = .cutoff :=
  stageStep_cutoff _ _ ((cellsStep_stage cfg x b).trans h)

theorem chassisRecordOk_sweepComplete (x : SweepSamples) (h : ChassisRecordOk s) : ChassisRecordOk (sweepComplete x s) := by
  have hreport : ChassisRecordOk (reportStage s.bmn.stage (s.withBmn (sweptBmn x s))) := by
    unfold reportStage
    split
    · next hsame => exact h.of_eq rfl rfl rfl hsame (hsame.trans h.2.2.2.2.symm)
    · next hnew =>
      have hleft : s.csc.chassis ≠ .cutoff := fun hc => hnew ((bmnSweep_cutoff _ _ (h.2.2.2.1.1 hc)).trans (h.2.2.2.1.1 hc).symm)
      dsimp only
      split
      · next hcut => apply chassisRecordOk_of_cleared <;> simp_all [enterCutoff_csc, sweptBmn, bmnSweep_pub_stage]
      · next hcut =>
        obtain ⟨hhold, hvalid, hcleared, -, -⟩ := h
        refine ⟨by simpa using hhold, by simpa using hvalid, by simpa using hcleared, ?_, ?_⟩
        · simpa [hleft] using hcut
        · simp [sweptBmn, bmnSweep_pub_stage]
  exact hreport.of_eq rfl rfl rfl rfl rfl

theorem chassisRecordOk_linkLost (cause : Cause) (h : ChassisRecordOk s) : ChassisRecordOk (linkLost cause s) := by
  have hfail : s.csc.chassis ≠ .cutoff → ChassisRecordOk (enterFailsafe cause (s.withCsc { s.csc with linkLost := true })) := by
    intro hc
    apply chassisRecordOk_of_cleared <;> simp [h.stage_ne hc, h.2.2.2.2]
  unfold linkLost
  dsimp only
  split
  · next hc => exact hfail (by simp [hc])
  · next hc => exact hfail (by simp [hc])
  all_goals exact h

@[simp] theorem batteryLevelsOwner_stage (strap : PinLevel) (p : Payload) (s : State) :
    (batteryLevelsOwner strap p s).1.bmn.stage = s.bmn.stage ∧ (batteryLevelsOwner strap p s).1.bmn.pub = s.bmn.pub := by
  unfold batteryLevelsOwner
  dsimp only
  (repeat' split) <;> simp [setLevels, zeroStageRuns]

@[simp] theorem restore_stage (strap : PinLevel) (new : WorkingConfig) (s : State) :
    (restore strap new s).bmn.stage = s.bmn.stage ∧ (restore strap new s).bmn.pub = s.bmn.pub := by
  simp only [restore, restoredRuns]
  split <;> simp [zeroStageRuns]

theorem chassisRecordOk_resetUnit (u : ResetUnit) (h : ChassisRecordOk s) : ChassisRecordOk (resetUnit u s) := by
  cases u
  case battery => exact h.of_eq rfl rfl rfl rfl rfl
  all_goals simpa [resetUnit, ChassisRecordOk] using h

theorem chassisRecordOk_owner (i : Instr) (s : State) (h : ChassisRecordOk s) : ChassisRecordOk (ownerOf i s).1 := by
  cases i
  case setMotion p => exact chassisRecordOk_setMotionOwner p h
  case hold => exact chassisRecordOk_holdOwner h
  case resume => exact chassisRecordOk_resumeOwner h
  case cutoffRelease => exact chassisRecordOk_cutoffReleaseOwner h
  case profileRestore strap p =>
    rcases profileRestoreOwner_fst_cases strap s with ⟨c, hc⟩ | ⟨c, -, hr⟩
    · simpa [ownerOf, hc, ChassisRecordOk] using h
    · simpa [ownerOf, hr, ChassisRecordOk] using h
  case profileDefaults strap p =>
    rcases profileDefaultsOwner_fst_cases strap s with ⟨c, hc⟩ | hr
    · simpa [ownerOf, hc, ChassisRecordOk] using h
    · simpa [ownerOf, hr, ChassisRecordOk] using h
  case unitResetSteer p | unitResetDrive p | unitResetWinch p | unitResetLights p | unitResetBattery p | unitResetLink p =>
    simp only [ownerOf, unitResetOwner]
    split
    · exact h
    · split
      · exact h
      · exact chassisRecordOk_resetUnit _ h
  all_goals simpa [ownerOf, ChassisRecordOk] using h

theorem chassisRecordOk_event {i : Instr} {due : State → Bool} {act : State → State} (hev : eventOf i = some (due, act))
    (s : State) (h : ChassisRecordOk s) : ChassisRecordOk (act s) := by
  cases i <;> cases hev
  case lineBreak => exact chassisRecordOk_linkLost (s := s.withLif (breakLif s.lif)) _ h
  case linkTimerExpiry => exact chassisRecordOk_linkLost (s := s.withLif { s.lif with loss := true }) _ h
  case sweepCompletion x | tapFaultChange x | stageWorsen x | stageRecover x => exact chassisRecordOk_sweepComplete x h
  all_goals simpa [ChassisRecordOk] using h

theorem chassisRecordOk_powerOn (enc : EncoderPins) (s : State) : ChassisRecordOk (powerOn enc s) := by
  apply chassisRecordOk_of_cleared <;> simp [powerOn, State.powerOn, powerOnCsc, powerOnBmn, emptyBatterySet, clearedSetpoint]

theorem chassisRecordOk_exec {i : Instr} (h : ChassisRecordOk s) (hexec : exec i s = .next t) : ChassisRecordOk t :=
  exec_keeps_of (fun _ _ hs => hs) chassisRecordOk_owner (fun _ _ _ hev s => chassisRecordOk_event hev s)
    (fun enc s _ => chassisRecordOk_powerOn enc s) (fun _ _ hs => hs) h hexec

end ChassisRecord

end Sys2Proof.Machine

namespace Sys2Proof.Machine

/-! ## The vehicle in CUTOFF -/

section Cutoff

variable {s t : State}

/-- A lamp that a cutoff keeps dark. -/
def LightChan.isDark (c : LightChan) : Prop := c.forcedOff = true ∧ c.level = 0 ∧ c.base = 0

/-- The lamps are dark whose source is not LOWBATT. -/
def LampsDark (s : State) : Prop := ∀ k : Fin 8, (mapOf s k).source ≠ .lowBatt → (lightOfState s k).isDark

/-- The drives coast and the winch is BRAKED at duty 0. -/
def MotorsStill (s : State) : Prop := (∀ ch, (s.drc.chan ch).coasts) ∧ s.wnc.state = .braked ∧ s.wnc.duty = 0

theorem cutoffIsStill_iff (s : State) : CutoffIsStill s ↔ (s.csc.chassis = .cutoff → MotorsStill s ∧ LampsDark s) := by
  constructor
  · intro h hc
    obtain ⟨hdf, hdr, hstate, hduty, hlamps⟩ := h hc
    exact ⟨⟨fun ch => by cases ch; exacts [hdf, hdr], hstate, hduty⟩, hlamps⟩
  · intro h hc
    obtain ⟨⟨hdrive, hstate, hduty⟩, hlamps⟩ := h hc
    exact ⟨hdrive .df, hdrive .dr, hstate, hduty, hlamps⟩

theorem LampsDark.of_eq (h : LampsDark s) (hmaps : ∀ k, (mapOf t k).source = (mapOf s k).source) (hlcu : t.lcu = s.lcu) :
    LampsDark t := by
  intro k hk
  unfold lightOfState
  rw [hlcu]
  exact h k (hmaps k ▸ hk)

/-- A state in CUTOFF is still as long as what the statement reads stands. -/
theorem cutoffIsStill_of_eq (h : CutoffIsStill s) (hchassis : t.csc.chassis = s.csc.chassis) (hdrc : t.drc = s.drc)
    (hstate : t.wnc.state = s.wnc.state) (hduty : t.wnc.duty = s.wnc.duty)
    (hmaps : ∀ k, (mapOf t k).source = (mapOf s k).source) (hlcu : t.lcu = s.lcu) : CutoffIsStill t := by
  rw [cutoffIsStill_iff] at h ⊢
  intro hc
  obtain ⟨⟨hdrive, hst, hd⟩, hlamps⟩ := h (hchassis.symm.trans hc)
  exact ⟨⟨hdrc ▸ hdrive, hstate.trans hst, hduty.trans hd⟩, hlamps.of_eq hmaps hlcu⟩

theorem cutoffIsStill_of_lcu (h : CutoffIsStill s) (hchassis : t.csc.chassis = s.csc.chassis) (hdrc : t.drc = s.drc)
    (hstate : t.wnc.state = s.wnc.state) (hduty : t.wnc.duty = s.wnc.duty) (hcfg : t.cfg.lcu = s.cfg.lcu) (hlcu : t.lcu = s.lcu) :
    CutoffIsStill t :=
  cutoffIsStill_of_eq h hchassis hdrc hstate hduty (fun k => by simp [mapOf, hcfg]) hlcu

/-- Outside CUTOFF the statement says nothing. -/
theorem cutoffIsStill_of_ne (h : t.csc.chassis ≠ .cutoff) : CutoffIsStill t := fun hc => absurd hc h

/-! ### The drives -/

theorem coasts_atRest (c : DriveChan) : (c.atRest 0).coasts := ⟨rfl, rfl, rfl⟩

theorem coasts_setChan {d : Drc} (ch : DriveCh) {c : DriveChan} (hc : c.coasts) (h : ∀ ch', (d.chan ch').coasts) (ch' : DriveCh) :
    ((d.setChan ch c).chan ch').coasts := by
  by_cases hch : ch' = ch
  · subst hch
    simpa using hc
  · rw [setChan_chan_other d c hch]
    exact h ch'

/-- The move of a drive update in CUTOFF coasts in every fault state. -/
theorem driveMove_cutoff (ch : DriveCh) (hc : s.csc.chassis = .cutoff) : (driveMove ch s).coasts := by
  unfold driveMove
  rw [hc]
  dsimp only
  split <;> exact coasts_atRest _

theorem coasts_driveUpdate (ch : DriveCh) (current : Nat) (hc : s.csc.chassis = .cutoff) (h : ∀ ch', (s.drc.chan ch').coasts) :
    ∀ ch', ((driveUpdate ch current s).drc.chan ch').coasts := by
  rw [driveUpdate_drc]
  refine coasts_setChan ch (c := (driveMove ch _).leaveUpdate) (driveMove_cutoff ch (by simpa using hc)) fun ch' => ?_
  cases ch'
  exacts [h .df, h .dr]

theorem coasts_driveUnitReset (hc : s.csc.chassis = .cutoff) (ch : DriveCh) : ((driveUnitReset s).drc.chan ch).coasts := by
  cases ch <;> simp [driveUnitReset, mapDrive, Drc.chan, driveChanReset, hc, DriveChan.coasts, powerOnDriveChan]

/-! ### The winch -/

/-- A braked winch has no operation to check, restore or end. -/
theorem limitCheck_braked (h : s.wnc.state = .braked) : limitCheck s = s := by simp [limitCheck, h, WinchState.driving]

theorem dropReason_braked (r : Reasons) (h : s.wnc.state = .braked) :
    dropReason r s = s.withWnc { s.wnc with reasons := r } := by simp [dropReason, h]

/-- The winch is BRAKED at duty 0. -/
def winchBraked (s : State) : Prop := s.wnc.state = .braked ∧ s.wnc.duty = 0

theorem winchBraked_endAnyOp (r : WinchResult) (s : State) : winchBraked (endAnyOp r s) := ⟨by simp, by simp⟩

theorem winchBraked_grantRead (current : Nat) (h : winchBraked s) : winchBraked (grantRead current s) := by
  obtain ⟨hstate, hduty⟩ := h
  unfold grantRead
  split
  · dsimp only
    split
    · next hadds => simp [budgetAdds, Wnc.hasOp, hstate, WinchState.driving] at hadds
    · split
      · rw [dropReason_braked _ (by simpa using hstate)]
        exact ⟨hstate, hduty⟩
      · exact ⟨hstate, hduty⟩
  · exact ⟨hstate, hduty⟩

theorem winchBraked_winchUpdate (current : Nat) (h : winchBraked s) : winchBraked (winchUpdate current s) := by
  have hread : winchBraked (winchFoldback (min current 65000) (grantRead (min current 65000) s)) := winchBraked_grantRead _ h
  unfold winchUpdate
  dsimp only
  rw [if_neg (by simp [hread.1, WinchState.driving])]
  exact ⟨hread.1, rfl⟩

theorem loseValidity_braked (h : s.wnc.state = .braked) : loseValidity s = s.withWnc { s.wnc with valid := false } := by
  simp [loseValidity, Wnc.hasOp, h, WinchState.driving]

theorem countChecks_braked (h : s.wnc.state = .braked) : countChecks s = s := by
  simp [countChecks, h, limitCheck_braked]

theorem winchBraked_encoderStep (d : Int) (h : winchBraked s) : winchBraked (encoderStep d s) := by
  obtain ⟨hstate, hduty⟩ := h
  unfold encoderStep
  dsimp only
  split
  · rw [loseValidity_braked (by simpa using hstate), countChecks_braked (by simpa using hstate)]
    exact ⟨hstate, hduty⟩
  · rw [countChecks_braked (by simpa using hstate)]
    exact ⟨hstate, hduty⟩

theorem winchBraked_encoderChange (e : EncoderPins) (h : winchBraked s) : winchBraked (encoderChange e s) := by
  unfold encoderChange
  dsimp only
  split
  · exact h
  · split
    · exact winchBraked_encoderStep 1 h
    · split
      · exact winchBraked_encoderStep (-1) h
      · rw [encoderError, loseValidity_braked (by simpa using h.1)]
        exact h

/-! ### The lamps -/

/-- A lamp forced off does nothing at its period start. -/
theorem lightPeriod_forcedOff (s : State) (k : Fin 8) {c : LightChan} (h : c.forcedOff = true) : lightPeriod s k c = c := by
  simp [lightPeriod, h]

theorem isDark_dark (c : LightChan) : c.dark.isDark := ⟨rfl, rfl, rfl⟩

@[simp] theorem lightOfState_setLight (k j : Fin 8) (c : LightChan) (s : State) :
    lightOfState (setLight k c s) j = if j = k then c else lightOfState s j := by
  simp only [lightOfState, setLight, withLcu_lcu, Fin.getElem_fin, Vector.getElem_set, Fin.ext_iff, eq_comm]

@[simp] theorem lightOfState_mapLights (f : Fin 8 → LightChan → LightChan) (s : State) (k : Fin 8) :
    lightOfState (mapLights f s) k = f k (lightOfState s k) := by
  simp [lightOfState, mapLights]

@[simp] theorem mapOf_withLcu (s : State) (x : Lcu) (k : Fin 8) : mapOf (s.withLcu x) k = mapOf s k := rfl
@[simp] theorem mapOf_setLight (k j : Fin 8) (c : LightChan) (s : State) : mapOf (setLight k c s) j = mapOf s j := rfl
@[simp] theorem mapOf_mapLights (f : Fin 8 → LightChan → LightChan) (s : State) (k : Fin 8) : mapOf (mapLights f s) k = mapOf s k :=
  rfl

theorem lampsDark_lightPeriodStart (k : Fin 8) (h : LampsDark s) : LampsDark (lightPeriodStart k s) := by
  intro j hj
  rw [lightPeriodStart, lightOfState_setLight]
  split
  · next hjk =>
    have hdark := h j hj
    rw [← hjk, lightPeriod_forcedOff s j hdark.1]
    exact hdark
  · exact h j hj

/-- A remapped lamp of another source than LOWBATT is forced off in CUTOFF. -/
theorem isDark_remapLight (hc : s.csc.chassis = .cutoff) {k : Fin 8} (hsource : (mapOf s k).source ≠ .lowBatt) (c : LightChan) :
    (remapLight s k c).isDark := by
  unfold remapLight
  rw [if_pos ⟨hc, hsource⟩]
  exact isDark_dark _

theorem lampsDark_lightsRestored (hc : s.csc.chassis = .cutoff) : LampsDark (lightsRestored s) := by
  intro k hk
  rw [lightsRestored, lightOfState_mapLights]
  exact isDark_remapLight hc hk _

theorem lampsDark_lightsUnitReset (h : LampsDark s) : LampsDark (lightsUnitReset s) := by
  intro k hk
  obtain ⟨hoff, hlevel, hbase⟩ := h k hk
  rw [lightsUnitReset, lightOfState_mapLights, if_pos hoff]
  exact ⟨hoff, hlevel, hbase⟩

@[simp] theorem mapOf_replaceMap (k j : Fin 8) (m : LightMap) (s : State) :
    mapOf (replaceMap k m s) j = if j = k then m else mapOf s j := by
  simp only [mapOf, replaceMap, setLcuCfg, withCfg_cfg, Fin.getElem_fin, Vector.getElem_set, Fin.ext_iff, eq_comm]

@[simp] theorem lightOfState_replaceMap (k j : Fin 8) (m : LightMap) (s : State) :
    lightOfState (replaceMap k m s) j = lightOfState s j := rfl

theorem lampsDark_lightMapOwner (p : Payload) (hc : s.csc.chassis = .cutoff) (h : LampsDark s) :
    LampsDark (lightMapOwner p s).1 := by
  unfold lightMapOwner
  split
  · exact h
  · next k _ =>
    split
    · exact h
    · split
      · exact h
      · intro j hj
        dsimp only at hj ⊢
        rw [lightOfState_setLight]
        split
        · next hjk =>
          subst hjk
          exact isDark_remapLight (by simpa [replaceMap, setLcuCfg] using hc) hj _
        · next hjk =>
          refine h j ?_
          simpa [hjk] using hj

theorem lampsDark_lightLevelOwner (p : Payload) (h : LampsDark s) : LampsDark (lightLevelOwner p s).1 := by
  unfold lightLevelOwner
  split
  · exact h
  · next k _ =>
    intro j hj
    have hdark : (lightOfState s j).isDark := by
      refine h j ?_
      by_cases hjk : j = k
      · simpa [hjk] using hj
      · simpa [hjk] using hj
    dsimp only
    rw [lightOfState_setLight, lightOfState_replaceMap]
    split
    · next hjk =>
      subst hjk
      simpa [levelLight, hdark.1] using hdark
    · exact hdark

/-- A parameter leaves the sources of the light maps alone. -/
theorem writeParam_source (c : WorkingConfig) (i : ParamId) (v : Nat) (k : Fin 8) :
    (writeParam c i v).lcu.maps[k].source = c.lcu.maps[k].source := by
  cases i
  case fullOn j =>
    simp only [writeParam, setFullOn, Fin.getElem_fin, Vector.getElem_set]
    split
    · next hjk => simp [hjk]
    · rfl
  all_goals rfl

/-! ### The commands -/

/-- A change within CUTOFF is shown for the motors and the lamps apart. -/
theorem CutoffIsStill.of_parts (h : CutoffIsStill s) (hchassis : t.csc.chassis = s.csc.chassis)
    (hmotors : s.csc.chassis = .cutoff → MotorsStill s → MotorsStill t)
    (hlamps : s.csc.chassis = .cutoff → LampsDark s → LampsDark t) : CutoffIsStill t := by
  rw [cutoffIsStill_iff] at h ⊢
  intro hc
  have hc := hchassis.symm.trans hc
  exact (h hc).imp (hmotors hc) (hlamps hc)

/-- The winch alone changes. -/
theorem CutoffIsStill.of_winch (h : CutoffIsStill s) (hchassis : t.csc.chassis = s.csc.chassis) (hdrc : t.drc = s.drc)
    (hwinch : winchBraked s → winchBraked t) (hmaps : ∀ k, (mapOf t k).source = (mapOf s k).source) (hlcu : t.lcu = s.lcu) :
    CutoffIsStill t :=
  h.of_parts hchassis (fun _ hm => ⟨hdrc ▸ hm.1, hwinch hm.2⟩) fun _ hl => hl.of_eq hmaps hlcu

/-- The drives alone change. -/
theorem CutoffIsStill.of_drive (h : CutoffIsStill s) (hchassis : t.csc.chassis = s.csc.chassis)
    (hdrive : s.csc.chassis = .cutoff → (∀ ch, (s.drc.chan ch).coasts) → ∀ ch, (t.drc.chan ch).coasts) (hwnc : t.wnc = s.wnc)
    (hmaps : ∀ k, (mapOf t k).source = (mapOf s k).source) (hlcu : t.lcu = s.lcu) : CutoffIsStill t :=
  h.of_parts hchassis (fun hc hm => ⟨hdrive hc hm.1, hwnc ▸ hm.2⟩) fun _ hl => hl.of_eq hmaps hlcu

/-- The lamps alone change. -/
theorem CutoffIsStill.of_lamps (h : CutoffIsStill s) (hchassis : t.csc.chassis = s.csc.chassis) (hdrc : t.drc = s.drc)
    (hwnc : t.wnc = s.wnc) (hlamps : s.csc.chassis = .cutoff → LampsDark s → LampsDark t) : CutoffIsStill t :=
  h.of_parts hchassis (fun _ hm => ⟨hdrc ▸ hm.1, hwnc ▸ hm.2⟩) hlamps

theorem mapOf_of_lcu (hcfg : t.cfg.lcu = s.cfg.lcu) (k : Fin 8) : (mapOf t k).source = (mapOf s k).source := by
  simp [mapOf, hcfg]

theorem cutoffIsStill_faultClearOwner (p : Payload) (h : CutoffIsStill s) : CutoffIsStill (faultClearOwner p s).1 := by
  refine h.of_drive (by simp) (fun _ hdrive => ?_) (by simp) (mapOf_of_lcu (by simp)) (by simp)
  unfold faultClearOwner
  split
  · exact hdrive
  · next ch _ =>
    dsimp only
    split
    · exact coasts_setChan ch (hdrive ch) hdrive
    · exact hdrive

/-- A restore brings the lamps under their new maps in the chassis state that stands. -/
theorem restore_lights (strap : PinLevel) (new : WorkingConfig) (s : State) :
    ∃ u, u.csc = s.csc ∧ restore strap new s = restartTelemetry (followFloors (lightsRestored u)) :=
  ⟨limitCheck (acceptRestoredEnds new.spg (closeAllLoads
    ((s.withCfg (restoredCfg strap new s)).withBmn (restoredRuns strap s s.bmn)))), by simp, rfl⟩

theorem cutoffIsStill_restore (strap : PinLevel) (new : WorkingConfig) (h : CutoffIsStill s) :
    CutoffIsStill (restore strap new s) := by
  refine h.of_parts (by simp) (fun _ hm => ?_) (fun hc _ => ?_)
  · have hwnc : (restore strap new s).wnc = s.wnc := by simp [restore, limitCheck_braked, hm.2.1]
    exact ⟨by simpa using hm.1, hwnc ▸ hm.2⟩
  · obtain ⟨u, hcsc, heq⟩ := restore_lights strap new s
    rw [heq]
    exact (lampsDark_lightsRestored (s := u) (by rw [hcsc, hc])).of_eq (mapOf_of_lcu (by simp)) (by simp)

/-- In CUTOFF the requests of the winch are refused or find nothing to end. -/
theorem winchBraked_winchRunOwner (p : Payload) (hc : s.csc.chassis = .cutoff) (h : winchBraked s) :
    winchBraked (winchRunOwner p s).1 := by
  unfold winchRunOwner winchRunMode
  dsimp only
  split
  · exact h
  · rw [if_pos (by simp [hc, runModeAllowed])]
    exact h

theorem winchBraked_winchSuspendOwner (h : winchBraked s) : winchBraked (winchSuspendOwner s).1 := by
  simp only [winchSuspendOwner, h.1, WinchState.driving]
  exact h

theorem winchBraked_winchResumeOwner (h : winchBraked s) : winchBraked (winchResumeOwner s).1 := by
  unfold winchResumeOwner
  split
  · rw [dropReason_braked _ h.1]
    exact h
  · exact h

theorem winchBraked_winchZeroOwner (h : winchBraked s) : winchBraked (winchZeroOwner s).1 := by
  unfold winchZeroOwner
  dsimp only
  split
  · exact h
  · rw [limitCheck_braked (by simpa using h.1)]
    exact h

theorem winchBraked_winchLimitsOwner (p : Payload) (h : winchBraked s) : winchBraked (winchLimitsOwner p s).1 := by
  unfold winchLimitsOwner
  dsimp only
  split
  · exact h
  · split
    · exact h
    · rw [limitCheck_braked (by simpa using h.1)]
      exact h

theorem winchBraked_winchPullOwner (p : Payload) (hc : s.csc.chassis = .cutoff) (h : winchBraked s) :
    winchBraked (winchPullOwner p s).1 := by
  unfold winchPullOwner
  rw [if_pos (by simp [hc, pullRefusedIn])]
  exact h

theorem cutoffIsStill_resetUnit (u : ResetUnit) (h : CutoffIsStill s) : CutoffIsStill (resetUnit u s) := by
  cases u
  case drive =>
    exact h.of_drive (by simp) (fun hc _ ch => coasts_driveUnitReset hc ch) (by simp [resetUnit]) (mapOf_of_lcu (by simp))
      (by simp [resetUnit])
  case winch =>
    exact h.of_winch (by simp) (by simp [resetUnit]) (fun _ => winchBraked_endAnyOp .reset s) (mapOf_of_lcu (by simp))
      (by simp [resetUnit])
  case lights =>
    exact h.of_lamps (by simp) (by simp [resetUnit]) (by simp [resetUnit]) fun _ hl => lampsDark_lightsUnitReset hl
  all_goals refine cutoffIsStill_of_lcu h ?_ ?_ ?_ ?_ ?_ ?_ <;> simp [resetUnit]

/-- SET_MOTION, HOLD and RESUME leave a CUTOFF alone and enter none. -/
theorem cutoffIsStill_setMotionOwner (p : Payload) (h : CutoffIsStill s) : CutoffIsStill (setMotionOwner p s).1 := by
  unfold setMotionOwner
  dsimp only
  split
  · split
    · exact cutoffIsStill_of_ne (by simp)
    · exact h
  · split
    · exact cutoffIsStill_of_ne (by simp)
    · exact h
  all_goals exact h

theorem cutoffIsStill_holdOwner (h : CutoffIsStill s) : CutoffIsStill (holdOwner s).1 := by
  unfold holdOwner
  split
  · exact cutoffIsStill_of_ne (by simp [enterHold])
  all_goals exact h

theorem cutoffIsStill_resumeOwner (h : CutoffIsStill s) : CutoffIsStill (resumeOwner s).1 := by
  unfold resumeOwner
  split
  · exact cutoffIsStill_of_ne (by simp [resumeRun])
  all_goals exact h

theorem cutoffIsStill_cutoffReleaseOwner (h : CutoffIsStill s) : CutoffIsStill (cutoffReleaseOwner s).1 := by
  unfold cutoffReleaseOwner
  split
  · split
    · exact cutoffIsStill_of_ne (by simp [releaseCutoff])
    · exact h
  all_goals exact h

theorem mapOf_setParamOwner (strap : PinLevel) (p : Payload) (s : State) (k : Fin 8) :
    (mapOf (setParamOwner strap p s).1 k).source = (mapOf s k).source := by
  unfold setParamOwner setListed
  dsimp only
  split
  · split <;> rfl
  · split
    · rfl
    · split
      · rfl
      · split
        · rfl
        · simp only [mapOf, setParam_cfg]
          exact writeParam_source _ _ _ k

@[simp] theorem patternAllocOwner_maps (p : Payload) (s : State) : (patternAllocOwner p s).1.cfg.lcu.maps = s.cfg.lcu.maps := by
  unfold patternAllocOwner
  dsimp only
  (repeat' split) <;> rfl

@[simp] theorem patternStepOwner_maps (p : Payload) (s : State) : (patternStepOwner p s).1.cfg.lcu.maps = s.cfg.lcu.maps := by
  unfold patternStepOwner
  dsimp only
  (repeat' split) <;> rfl

@[simp] theorem patternFreeOwner_maps (p : Payload) (s : State) : (patternFreeOwner p s).1.cfg.lcu.maps = s.cfg.lcu.maps := by
  unfold patternFreeOwner
  dsimp only
  (repeat' split) <;> rfl

theorem cutoffIsStill_owner (i : Instr) (s : State) (h : CutoffIsStill s) : CutoffIsStill (ownerOf i s).1 := by
  cases i
  case setMotion p => exact cutoffIsStill_setMotionOwner p h
  case hold => exact cutoffIsStill_holdOwner h
  case resume => exact cutoffIsStill_resumeOwner h
  case cutoffRelease => exact cutoffIsStill_cutoffReleaseOwner h
  case dig p =>
    refine h.of_drive (by simp [ownerOf]) (fun _ hd => ?_) (by simp [ownerOf]) (mapOf_of_lcu (by simp [ownerOf]))
      (by simp [ownerOf])
    simp only [ownerOf, digOwner]
    split
    · exact hd
    · exact fun ch => by cases ch; exacts [hd .df, hd .dr]
  case faultClear p => exact cutoffIsStill_faultClearOwner p h
  case winchRun p =>
    exact h.of_parts (by simp [ownerOf]) (fun hc hm => ⟨by simpa [ownerOf] using hm.1, winchBraked_winchRunOwner p hc hm.2⟩)
      fun _ hl => hl.of_eq (mapOf_of_lcu (by simp [ownerOf])) (by simp [ownerOf])
  case winchPull p =>
    exact h.of_parts (by simp [ownerOf]) (fun hc hm => ⟨by simpa [ownerOf] using hm.1, winchBraked_winchPullOwner p hc hm.2⟩)
      fun _ hl => hl.of_eq (mapOf_of_lcu (by simp [ownerOf])) (by simp [ownerOf])
  case winchSuspend =>
    exact h.of_winch (by simp [ownerOf]) (by simp [ownerOf]) winchBraked_winchSuspendOwner (mapOf_of_lcu (by simp [ownerOf]))
      (by simp [ownerOf])
  case winchResume =>
    exact h.of_winch (by simp [ownerOf]) (by simp [ownerOf]) winchBraked_winchResumeOwner (mapOf_of_lcu (by simp [ownerOf]))
      (by simp [ownerOf])
  case winchZero =>
    exact h.of_winch (by simp [ownerOf]) (by simp [ownerOf]) winchBraked_winchZeroOwner (mapOf_of_lcu (by simp [ownerOf]))
      (by simp [ownerOf])
  case winchLimits p =>
    exact h.of_winch (by simp [ownerOf]) (by simp [ownerOf]) (winchBraked_winchLimitsOwner p)
      (mapOf_of_lcu (by simp [ownerOf])) (by simp [ownerOf])
  case lightLevel p =>
    exact h.of_lamps (by simp [ownerOf]) (by simp [ownerOf]) (by simp [ownerOf]) fun _ => lampsDark_lightLevelOwner p
  case lightMap p => exact h.of_lamps (by simp [ownerOf]) (by simp [ownerOf]) (by simp [ownerOf]) (lampsDark_lightMapOwner p)
  case setParam strap p =>
    exact cutoffIsStill_of_eq h (by simp [ownerOf]) (by simp [ownerOf]) (by simp [ownerOf]) (by simp [ownerOf])
      (mapOf_setParamOwner strap p s) (by simp [ownerOf])
  case profileRestore strap p =>
    rcases profileRestoreOwner_fst_cases strap s with ⟨c, hc⟩ | ⟨c, -, hr⟩
    · exact cutoffIsStill_of_eq h (by simp [ownerOf]) (by simp [ownerOf]) (by simp [ownerOf, hc]) (by simp [ownerOf, hc])
        (mapOf_of_lcu (by simp [ownerOf, hc])) (by simp [ownerOf, hc])
    · rw [ownerOf, hr]
      exact cutoffIsStill_restore strap c h
  case profileDefaults strap p =>
    rcases profileDefaultsOwner_fst_cases strap s with ⟨c, hc⟩ | hr
    · exact cutoffIsStill_of_eq h (by simp [ownerOf]) (by simp [ownerOf]) (by simp [ownerOf, hc]) (by simp [ownerOf, hc])
        (mapOf_of_lcu (by simp [ownerOf, hc])) (by simp [ownerOf, hc])
    · rw [ownerOf, hr]
      exact cutoffIsStill_restore strap factoryConfig h
  case unitResetSteer p | unitResetDrive p | unitResetWinch p | unitResetLights p | unitResetBattery p | unitResetLink p =>
    simp only [ownerOf, unitResetOwner]
    split
    · exact h
    · split
      · exact h
      · exact cutoffIsStill_resetUnit _ h
  case patternAlloc p | patternStep p | patternFree p =>
    refine cutoffIsStill_of_eq h ?_ ?_ ?_ ?_ (fun k => ?_) ?_ <;> simp [ownerOf, mapOf]
  all_goals refine cutoffIsStill_of_lcu h ?_ ?_ ?_ ?_ ?_ ?_ <;> simp [ownerOf]

/-- The entry into CUTOFF stops the drives and the winch and forces the lamps off. -/
theorem cutoffIsStill_enterCutoff (h : CutoffIsStill s) : CutoffIsStill (enterCutoff s) := by
  unfold enterCutoff
  split
  · exact h
  · rw [cutoffIsStill_iff]
    refine fun _ => ⟨⟨fun ch => ?_, by simp, by simp⟩, fun k hk => ?_⟩
    · cases ch <;> simp [driveCutoff, mapDrive, Drc.chan, coasts_atRest]
    · rw [lightsCutoff, mapOf_mapLights] at hk
      rw [lightsCutoff, lightOfState_mapLights, if_neg hk]
      exact isDark_dark _

theorem cutoffIsStill_sweepComplete (x : SweepSamples) (h : CutoffIsStill s) : CutoffIsStill (sweepComplete x s) := by
  have hreport : CutoffIsStill (reportStage s.bmn.stage (s.withBmn (sweptBmn x s))) := by
    unfold reportStage
    split
    · exact h
    · have hpost : CutoffIsStill (postReport (stageChangeReport s.bmn.stage (s.withBmn (sweptBmn x s)).bmn.stage
          (s.withBmn (sweptBmn x s)).bmn.pub.minVc) (s.withBmn (sweptBmn x s))) := by
        refine cutoffIsStill_of_lcu h ?_ ?_ ?_ ?_ ?_ ?_ <;> simp
      dsimp only
      split
      · exact cutoffIsStill_enterCutoff hpost
      · exact hpost
  exact hreport

theorem cutoffIsStill_linkLost (cause : Cause) (h : CutoffIsStill s) : CutoffIsStill (linkLost cause s) := by
  unfold linkLost
  dsimp only
  split
  · exact cutoffIsStill_of_ne (by simp)
  · exact cutoffIsStill_of_ne (by simp)
  all_goals exact h

theorem cutoffIsStill_event {i : Instr} {due : State → Bool} {act : State → State} (hev : eventOf i = some (due, act))
    (s : State) (h : CutoffIsStill s) : CutoffIsStill (act s) := by
  cases i <;> cases hev
  case lineBreak => exact cutoffIsStill_linkLost (s := s.withLif (breakLif s.lif)) _ h
  case linkTimerExpiry => exact cutoffIsStill_linkLost (s := s.withLif { s.lif with loss := true }) _ h
  case driveUpdate ch current | driveRetry ch current =>
    exact h.of_drive (by simp) (coasts_driveUpdate ch current) (by simp) (mapOf_of_lcu (by simp)) (by simp)
  case winchUpdate current | winchStall current =>
    exact h.of_winch (by simp) (by simp) (winchBraked_winchUpdate current) (mapOf_of_lcu (by simp)) (by simp)
  case encoderCount e =>
    exact h.of_winch (by simp) (by simp) (winchBraked_encoderChange e) (mapOf_of_lcu (by simp)) (by simp)
  case lineSpeedWindowEnd => exact h
  case lightPeriodStart k | patternStepComplete k =>
    exact h.of_lamps (by simp) (by simp) (by simp) fun _ => lampsDark_lightPeriodStart k
  case sweepCompletion x | tapFaultChange x | stageWorsen x | stageRecover x => exact cutoffIsStill_sweepComplete x h
  all_goals refine cutoffIsStill_of_lcu h ?_ ?_ ?_ ?_ ?_ ?_ <;> simp

theorem cutoffIsStill_exec {i : Instr} (h : CutoffIsStill s) (hexec : exec i s = .next t) : CutoffIsStill t :=
  exec_keeps_of (fun _ _ hs => hs) cutoffIsStill_owner (fun _ _ _ hev s => cutoffIsStill_event hev s)
    (fun _ _ _ => cutoffIsStill_of_ne (by simp [powerOn, State.powerOn, powerOnCsc])) (fun _ _ hs => hs) h hexec

/-- Settles O52: CUTOFF is entered with everything stopped, and in it no request, update or period start moves or lights anything. -/
theorem cutoffKeepsTheVehicleStill : Obligations.CutoffKeepsTheVehicleStill := by
  intro s t hchassis hstill hstep
  refine step_keeps_of (P := fun s => ChassisRecordOk s ∧ CutoffIsStill s) (fun _ _ hs => hs) (fun s hs => ?_)
    (fun i s t hs hexec => ⟨chassisRecordOk_exec hs.1 hexec, cutoffIsStill_exec hs.2 hexec⟩) ⟨hchassis, hstill⟩ hstep
  unfold tick
  split <;> exact hs

end Cutoff

end Sys2Proof.Machine

namespace Sys2Proof.Machine

/-! ## What the owners of requests and the events leave of the link -/

section Link

variable {s t u : State}

/-- From `s` to `t` reports may have been posted and counts changed; the receiver, the intake and reply queues and the frame on the line are
as they were. -/
def KeepsLink (s t : State) : Prop :=
  t.lif.intake = s.lif.intake ∧ t.lif.replies = s.lif.replies ∧ t.lif.tx = s.lif.tx ∧ t.lif.rx = s.lif.rx ∧
    t.lif.lastGood = s.lif.lastGood ∧ t.lif.loss = s.lif.loss ∧ (s.lif.reports.length ≤ 4 → t.lif.reports.length ≤ 4)

theorem keepsLink_of_eq (h : t.lif = s.lif) : KeepsLink s t := by simp [KeepsLink, h]

theorem KeepsLink.refl (s : State) : KeepsLink s s := keepsLink_of_eq rfl

theorem KeepsLink.trans (h : KeepsLink s t) (h' : KeepsLink t u) : KeepsLink s u := by
  obtain ⟨hintake, hreplies, htx, hrx, hgood, hloss, hreports⟩ := h
  obtain ⟨hintake', hreplies', htx', hrx', hgood', hloss', hreports'⟩ := h'
  exact ⟨hintake'.trans hintake, hreplies'.trans hreplies, htx'.trans htx, hrx'.trans hrx, hgood'.trans hgood,
    hloss'.trans hloss, hreports' ∘ hreports⟩

/-- Only LIF's record is read. -/
theorem KeepsLink.of_lif (h : KeepsLink s t) (hs : u.lif = s.lif) : KeepsLink u t := (keepsLink_of_eq hs.symm).trans h

theorem KeepsLink.then_eq (h : KeepsLink s t) (ht : u.lif = t.lif) : KeepsLink s u := h.trans (keepsLink_of_eq ht)

theorem keepsLink_postReport (f : TxFrame) (s : State) : KeepsLink s (postReport f s) := by
  simpa [KeepsLink] using posted_reports_le f s.lif

theorem keepsLink_endShift (r : ShiftResult) (g : Gear) (s : State) : KeepsLink s (endShift r g s) :=
  (keepsLink_postReport _ _).of_lif rfl

theorem keepsLink_shiftStep (s : State) : KeepsLink s (shiftStep s) := by
  unfold shiftStep
  dsimp only
  split
  · split
    · exact .refl s
    · split
      · exact (keepsLink_endShift _ _ _).of_lif rfl
      · exact .refl s
  · split
    · exact (keepsLink_endShift _ _ _).of_lif rfl
    · exact .refl s
  · split
    · exact (keepsLink_endShift _ _ _).of_lif rfl
    · exact .refl s
  · exact .refl s

theorem keepsLink_settleEntry (s : State) : KeepsLink s (settleEntry s) := by
  have hsettle : KeepsLink s (if s.spg.sh.pOut = targetPulse .sh s then
      let s' := setShift { s.spg.shift with phase := .settling, settleMs := 0 } s
      if s.cfg.spg.shiftSettle = 0 then completeShift s' else s' else s) := by
    split
    · dsimp only
      split
      · exact (keepsLink_endShift _ _ _).of_lif rfl
      · exact .refl s
    · exact .refl s
  unfold settleEntry
  dsimp only
  split
  · exact hsettle
  · exact hsettle
  · exact .refl s

theorem keepsLink_frameStart (ch : ServoCh) (s : State) : KeepsLink s (frameStart ch s) := by
  have hwork : KeepsLink s (slewStep ch (channelWork ch (endpointChangeover ch (latchPeriod ch s)))) := by
    cases ch
    · exact keepsLink_of_eq (by simp [channelWork])
    · exact keepsLink_of_eq (by simp [channelWork])
    · exact ((keepsLink_shiftStep (endpointChangeover .sh (latchPeriod .sh s))).of_lif (by simp)).then_eq
        (by simp [channelWork])
  unfold frameStart
  dsimp only
  split
  · exact (hwork.trans (keepsLink_settleEntry _)).then_eq (by simp)
  · exact hwork.then_eq (by simp)

theorem keepsLink_gearOwner (p : Payload) (s : State) : KeepsLink s (gearOwner p s).1 := by
  have hrecord : ∀ g, KeepsLink s (gearInRecord g s).1 := by
    intro g
    unfold gearInRecord
    dsimp only
    split
    · split <;> exact .refl s
    · split
      · exact .refl s
      · exact keepsLink_endShift _ _ s
    all_goals split <;> exact .refl s
  unfold gearOwner
  split
  · exact .refl s
  · split
    · exact hrecord _
    · exact hrecord _
    all_goals exact .refl s

theorem keepsLink_faultStep (ch : DriveCh) (current : Nat) (s : State) : KeepsLink s (faultStep ch current s) := by
  unfold faultStep
  dsimp only
  split
  · split
    · exact (keepsLink_postReport _ _).of_lif (by simp)
    · exact keepsLink_of_eq (by simp)
  · exact keepsLink_of_eq (by simp)

theorem keepsLink_driveUpdate (ch : DriveCh) (current : Nat) (s : State) : KeepsLink s (driveUpdate ch current s) :=
  ((keepsLink_faultStep ch (min current 65000) (digIntoForce (curveChangeover .throttle s))).of_lif (by simp)).then_eq
    (by simp [driveUpdate])

/-! ### The winch -/

theorem keepsLink_endOp (r : WinchResult) (st : WinchState) (s : State) : KeepsLink s (endOp r st s) :=
  (keepsLink_postReport _ _).of_lif rfl

theorem keepsLink_endAnyOp (r : WinchResult) (s : State) : KeepsLink s (endAnyOp r s) := by
  rcases endAnyOp_cases r s with ⟨-, h⟩ | ⟨-, h⟩ <;> rw [h]
  · exact keepsLink_endOp _ _ s
  · exact .refl s

theorem keepsLink_limitCheck (s : State) : KeepsLink s (limitCheck s) := by
  rcases limitCheck_cases s with h | ⟨-, -, h | h⟩ <;> rw [h]
  · exact .refl s
  · exact keepsLink_endOp _ _ s
  · exact .refl s

theorem keepsLink_restoreOp (s : State) : KeepsLink s (restoreOp s) := by
  unfold restoreOp
  dsimp only
  split
  · exact .refl s
  · split
    · exact (keepsLink_endOp _ _ _).of_lif rfl
    · exact (keepsLink_limitCheck _).of_lif rfl

theorem keepsLink_dropReason (r : Reasons) (s : State) : KeepsLink s (dropReason r s) := by
  unfold dropReason
  dsimp only
  split
  · exact (keepsLink_restoreOp _).of_lif rfl
  · exact .refl s

theorem keepsLink_replaceOp (s : State) : KeepsLink s (replaceOp s) := by
  unfold replaceOp
  split
  · exact keepsLink_endOp _ _ s
  · exact .refl s

@[simp] theorem startOp_lif (k : WinchOp) (d : WinchDir) (speed : Nat) (target : Int) (s : State) :
    (startOp k d speed target s).lif = s.lif := by
  unfold startOp
  dsimp only
  split <;> rfl

theorem keepsLink_winchRunOwner (p : Payload) (s : State) : KeepsLink s (winchRunOwner p s).1 := by
  have hspool : ∀ k d asked, KeepsLink s (runSpool k d asked s).1 := by
    intro k d asked
    unfold runSpool
    split
    · exact .refl s
    · exact (keepsLink_replaceOp s).then_eq (by simp)
  unfold winchRunOwner winchRunMode
  dsimp only
  split
  · exact .refl s
  · split
    · exact .refl s
    · split
      · exact hspool _ _ _
      · split
        · exact hspool _ _ _
        · exact (keepsLink_replaceOp s).then_eq rfl

theorem keepsLink_winchPullOwner (p : Payload) (s : State) : KeepsLink s (winchPullOwner p s).1 := by
  unfold winchPullOwner
  split
  · exact .refl s
  · dsimp only [startPull]
    split
    · exact (keepsLink_replaceOp s).trans (keepsLink_endOp _ _ _)
    · exact (keepsLink_replaceOp s).then_eq (by simp)

theorem keepsLink_winchSuspendOwner (s : State) : KeepsLink s (winchSuspendOwner s).1 := by
  unfold winchSuspendOwner
  dsimp only
  split
  · exact .refl s
  · split <;> exact .refl s

theorem keepsLink_winchResumeOwner (s : State) : KeepsLink s (winchResumeOwner s).1 := by
  unfold winchResumeOwner
  split
  · exact keepsLink_dropReason _ s
  · exact .refl s

theorem keepsLink_winchZeroOwner (s : State) : KeepsLink s (winchZeroOwner s).1 := by
  unfold winchZeroOwner
  dsimp only
  split
  · exact .refl s
  · exact (keepsLink_limitCheck _).of_lif rfl

theorem keepsLink_winchLimitsOwner (p : Payload) (s : State) : KeepsLink s (winchLimitsOwner p s).1 := by
  unfold winchLimitsOwner
  dsimp only
  split
  · exact .refl s
  · split
    · exact .refl s
    · exact (keepsLink_limitCheck _).of_lif rfl

theorem keepsLink_winchUpdate (current : Nat) (s : State) : KeepsLink s (winchUpdate current s) := by
  have hread : KeepsLink s (winchFoldback (min current 65000) (grantRead (min current 65000) s)) := by
    refine KeepsLink.then_eq (t := grantRead (min current 65000) s) ?_ rfl
    unfold grantRead
    split
    · dsimp only
      split
      · split <;> exact .refl s
      · split
        · exact (keepsLink_dropReason _ _).of_lif rfl
        · exact .refl s
    · exact .refl s
  have hcap : ∀ duty arm x, KeepsLink x (capAndLimit duty arm x) := fun duty arm x => (keepsLink_limitCheck _).of_lif rfl
  unfold winchUpdate
  dsimp only
  split
  · refine hread.trans ?_
    unfold winchDrive
    split
    · exact (keepsLink_endOp .fault .braked _).then_eq rfl
    · dsimp only
      split
      · exact (keepsLink_endOp .stall .stalled _).then_eq rfl
      · exact hcap _ _ _
      · exact hcap _ _ _
  · exact hread

theorem keepsLink_encoderChange (e : EncoderPins) (s : State) : KeepsLink s (encoderChange e s) := by
  have hlose : ∀ x, KeepsLink x (loseValidity x) := by
    intro x
    unfold loseValidity
    dsimp only
    split
    · exact (keepsLink_endOp _ _ _).of_lif rfl
    · exact .refl x
  have hchecks : ∀ x, KeepsLink x (countChecks x) := by
    intro x
    unfold countChecks
    split
    · exact keepsLink_endOp _ _ x
    · exact keepsLink_limitCheck x
  have hstep : ∀ d, KeepsLink s (encoderStep d (s.withWnc { s.wnc with enc := e })) := by
    intro d
    unfold encoderStep
    dsimp only
    split
    · exact ((hlose _).trans (hchecks _)).of_lif rfl
    · exact (hchecks _).of_lif rfl
  unfold encoderChange
  dsimp only
  split
  · exact .refl s
  · split
    · exact hstep _
    · split
      · exact hstep _
      · exact (hlose _).of_lif rfl

/-! ### The chassis and the battery -/

theorem keepsLink_moveChassis (c : Chassis) (cause : Cause) (s : State) : KeepsLink s (moveChassis c cause s) :=
  (keepsLink_postReport _ _).of_lif rfl

theorem keepsLink_shiftToIdle (s : State) : KeepsLink s (shiftToIdle s) := by
  unfold shiftToIdle
  split
  · exact .refl s
  all_goals exact keepsLink_endShift _ _ s

theorem keepsLink_setMotionOwner (p : Payload) (s : State) : KeepsLink s (setMotionOwner p s).1 := by
  have hstart : KeepsLink s (moveChassis .run .neutralSetpoint (writeSetpoint p s)) := (keepsLink_moveChassis _ _ _).of_lif rfl
  unfold setMotionOwner
  dsimp only
  split
  · split
    · exact hstart
    · exact .refl s
  · split
    · exact hstart
    · exact .refl s
  all_goals exact .refl s

@[simp] theorem winchHold_lif (s : State) : (winchHold s).lif = s.lif := by
  unfold winchHold
  dsimp only
  split
  · rfl
  · split <;> rfl

theorem keepsLink_holdOwner (s : State) : KeepsLink s (holdOwner s).1 := by
  unfold holdOwner
  split
  · exact ((keepsLink_moveChassis .hold .hostRequest s)).then_eq (by simp [enterHold])
  all_goals exact .refl s

theorem keepsLink_winchUnhold (s : State) : KeepsLink s (winchUnhold s) := by
  unfold winchUnhold
  split
  · exact keepsLink_dropReason _ s
  · exact .refl s

theorem keepsLink_resumeOwner (s : State) : KeepsLink s (resumeOwner s).1 := by
  unfold resumeOwner
  split
  · exact ((keepsLink_moveChassis .run .hostRequest (s.withCsc { s.csc with hold := none })).of_lif rfl).trans
      (keepsLink_winchUnhold _)
  all_goals exact .refl s

theorem keepsLink_cutoffReleaseOwner (s : State) : KeepsLink s (cutoffReleaseOwner s).1 := by
  unfold cutoffReleaseOwner
  split
  · split
    · exact ((keepsLink_postReport (stageChangeReport .cutoff .shed s.bmn.pub.minVc) s).trans
        (keepsLink_moveChassis .standby .release _)).then_eq (by simp [releaseCutoff])
    · exact .refl s
  all_goals exact .refl s

theorem keepsLink_enterCutoff (s : State) : KeepsLink s (enterCutoff s) := by
  unfold enterCutoff
  split
  · exact .refl s
  · have hmove : KeepsLink s (moveChassis .cutoff .batteryCutoff (clearMotion s)) := (keepsLink_moveChassis _ _ _).of_lif rfl
    have hidle := hmove.trans ((keepsLink_shiftToIdle (dropBlends (moveChassis .cutoff .batteryCutoff (clearMotion s)))).of_lif
      (by simp))
    exact (hidle.trans ((keepsLink_endAnyOp .cutoff (driveCutoff (shiftToIdle (dropBlends
      (moveChassis .cutoff .batteryCutoff (clearMotion s)))))).of_lif (by simp))).then_eq (by simp)

theorem keepsLink_sweepComplete (x : SweepSamples) (s : State) : KeepsLink s (sweepComplete x s) := by
  refine KeepsLink.then_eq (t := reportStage s.bmn.stage (s.withBmn (sweptBmn x s))) ?_ rfl
  unfold reportStage
  split
  · exact .refl s
  · dsimp only
    have hpost : KeepsLink s (postReport (stageChangeReport s.bmn.stage (s.withBmn (sweptBmn x s)).bmn.stage
        (s.withBmn (sweptBmn x s)).bmn.pub.minVc) (s.withBmn (sweptBmn x s))) := (keepsLink_postReport _ _).of_lif rfl
    split
    · exact hpost.trans (keepsLink_enterCutoff _)
    · exact hpost

/-! ### Parameters, profile, unit resets -/

theorem keepsLink_restartTelemetry (s : State) : KeepsLink s (restartTelemetry s) := by
  simp [KeepsLink, restartTelemetry]

theorem keepsLink_setParamOwner (strap : PinLevel) (p : Payload) (s : State) : KeepsLink s (setParamOwner strap p s).1 := by
  have hset : ∀ i v, KeepsLink s (setParam i v s) := by
    intro i v
    unfold setParam
    dsimp only
    split
    · exact (keepsLink_restartTelemetry _).of_lif rfl
    · exact .refl s
  unfold setParamOwner setListed
  dsimp only
  split
  · split <;> exact .refl s
  · split
    · exact .refl s
    · split
      · exact .refl s
      · split
        · exact .refl s
        · exact hset _ _

theorem keepsLink_restore (strap : PinLevel) (new : WorkingConfig) (s : State) : KeepsLink s (restore strap new s) := by
  have hlimit : KeepsLink s (limitCheck (acceptRestoredEnds new.spg (closeAllLoads
      ((s.withCfg (restoredCfg strap new s)).withBmn (restoredRuns strap s s.bmn))))) := (keepsLink_limitCheck _).of_lif (by simp)
  exact (hlimit.then_eq (by simp)).trans (keepsLink_restartTelemetry (followFloors (lightsRestored _)))

theorem keepsLink_resetUnit (u : ResetUnit) (s : State) : KeepsLink s (resetUnit u s) := by
  cases u
  case steer => exact ((keepsLink_shiftToIdle (smxUnitReset s)).of_lif (by simp)).then_eq (by simp [resetUnit, spgUnitReset])
  case winch => exact (keepsLink_endAnyOp .reset s).then_eq rfl
  case link => simp [resetUnit, linkUnitReset, KeepsLink]
  all_goals exact keepsLink_of_eq (by simp [resetUnit])

/-- Between the pop of the intake queue and the placing of the reply a taking leaves the queues alone but for the reports it posts. -/
theorem keepsLink_owner (i : Instr) (s : State) : KeepsLink s (ownerOf i s).1 := by
  cases i
  case setMotion p => exact keepsLink_setMotionOwner p s
  case hold => exact keepsLink_holdOwner s
  case resume => exact keepsLink_resumeOwner s
  case cutoffRelease => exact keepsLink_cutoffReleaseOwner s
  case gear p => exact keepsLink_gearOwner p s
  case winchRun p => exact keepsLink_winchRunOwner p s
  case winchPull p => exact keepsLink_winchPullOwner p s
  case winchSuspend => exact keepsLink_winchSuspendOwner s
  case winchResume => exact keepsLink_winchResumeOwner s
  case winchZero => exact keepsLink_winchZeroOwner s
  case winchLimits p => exact keepsLink_winchLimitsOwner p s
  case setParam strap p => exact keepsLink_setParamOwner strap p s
  case profileRestore strap p =>
    rcases profileRestoreOwner_fst_cases strap s with ⟨c, hc⟩ | ⟨c, -, hr⟩
    · exact keepsLink_of_eq (by simp [ownerOf, hc])
    · rw [ownerOf, hr]
      exact keepsLink_restore strap c s
  case profileDefaults strap p =>
    rcases profileDefaultsOwner_fst_cases strap s with ⟨c, hc⟩ | hr
    · exact keepsLink_of_eq (by simp [ownerOf, hc])
    · rw [ownerOf, hr]
      exact keepsLink_restore strap factoryConfig s
  case unitResetSteer p | unitResetDrive p | unitResetWinch p | unitResetLights p | unitResetBattery p | unitResetLink p =>
    simp only [ownerOf, unitResetOwner]
    split
    · exact .refl s
    · split
      · exact .refl s
      · exact keepsLink_resetUnit _ s
  case getLinkCounts p =>
    simp only [ownerOf, getLinkCountsOwner]
    split
    · exact .refl s
    · dsimp only
      split
      · simp [linkUnitReset, KeepsLink]
      · exact .refl s
  all_goals
    apply keepsLink_of_eq
    simp [ownerOf]

end Link

end Sys2Proof.Machine

namespace Sys2Proof.Machine

/-! ## The bounded queues -/

section Queues

variable {s t : State}

theorem QueuesBounded.of_keepsLink (h : QueuesBounded s) (hk : KeepsLink s t) : QueuesBounded t := by
  obtain ⟨hintake, hreplies, -, -, -, -, hreports⟩ := hk
  obtain ⟨hi, hr, hp⟩ := h
  exact ⟨hintake ▸ hi, hreplies ▸ hr, hreports hp⟩

/-- A taking frees a place of the intake queue and fills a free one of the reply queue. -/
theorem queuesBounded_taking (i : Instr) (ty : Byte) (p : Payload) (h : QueuesBounded s) :
    QueuesBounded (taking ty p (ownerOf i) s) := by
  obtain ⟨hintake, hreplies, hreports⟩ := h
  rcases taking_cases ty p (ownerOf i) s with heq | ⟨⟨-, -, hroom⟩, heq⟩ | ⟨⟨-, -, hroom⟩, -, heq⟩ <;> rw [heq]
  · exact ⟨hintake, hreplies, hreports⟩
  · refine ⟨?_, ?_, hreports⟩ <;> simp [answered] <;> omega
  · obtain ⟨hkintake, hkreplies, -, -, -, -, hkreports⟩ := keepsLink_owner i (popIntake s)
    refine ⟨?_, ?_, hkreports hreports⟩
    · rw [putReply_eq, withLif_lif, hkintake]
      simp [popIntake]
      omega
    · rw [putReply_eq, withLif_lif, hkreplies]
      simp [popIntake]
      omega

theorem queuesBounded_takingUnknown (ty : Byte) (p : Payload) (h : QueuesBounded s) : QueuesBounded (takingUnknown ty p s) := by
  unfold takingUnknown
  split
  · next htakes =>
    obtain ⟨-, -, hroom⟩ := (canTake_iff ty p s).1 (by simp_all)
    obtain ⟨hintake, -, hreports⟩ := h
    refine ⟨?_, ?_, hreports⟩ <;> simp [putReply, popIntake] <;> omega
  · exact h

theorem queuesBounded_queueFrame (f : RxFrame) (h : QueuesBounded s) : QueuesBounded (queueFrame f s) := by
  unfold queueFrame
  split
  · obtain ⟨-, hreplies, hreports⟩ := h
    exact ⟨by simp; omega, hreplies, hreports⟩
  · exact h

theorem queuesBounded_receiveChar (c : UartChar) (h : QueuesBounded s) : QueuesBounded (receiveChar c s) := by
  have hnoise : QueuesBounded (countNoise (isNoisy c) s) := by
    unfold countNoise
    split <;> exact h
  unfold receiveChar
  split
  · exact h
  · dsimp only
    split
    · unfold receiveByte finishFrame
      dsimp only
      split
      · exact hnoise
      · refine queuesBounded_queueFrame _ ?_
        unfold noteGoodFrame
        dsimp only
        split <;> exact hnoise
      · exact hnoise
    · exact hnoise

theorem queuesBounded_frameSent (h : QueuesBounded s) : QueuesBounded (frameSent s) := by
  obtain ⟨hintake, hreplies, hreports⟩ := h
  unfold frameSent
  split
  · exact ⟨hintake, hreplies, hreports⟩
  · split
    · exact ⟨hintake, by simp; omega, hreports⟩
    · exact ⟨hintake, hreplies, by simp; omega⟩

/-- Link loss posts reports alone. -/
theorem keepsLink_linkLost (cause : Cause) (s : State) : KeepsLink s (linkLost cause s) := by
  have hfail : ∀ x, KeepsLink x (enterFailsafe cause x) := by
    intro x
    have hmove : KeepsLink x (dropBlends (moveChassis .failsafe cause (clearMotion x))) :=
      ((keepsLink_moveChassis .failsafe cause (clearMotion x)).of_lif rfl).then_eq (by simp)
    refine (hmove.trans ?_).trans (keepsLink_endAnyOp .linkLost _)
    unfold shiftFailsafe
    split
    · exact keepsLink_endShift _ _ _
    · exact .refl _
  unfold linkLost
  dsimp only
  split
  · exact (hfail _).of_lif rfl
  · exact (hfail _).of_lif rfl
  all_goals exact .refl s

theorem queuesBounded_event {i : Instr} {due : State → Bool} {act : State → State} (hev : eventOf i = some (due, act))
    (s : State) (h : QueuesBounded s) : QueuesBounded (act s) := by
  cases i <;> cases hev
  case characterReceived c => exact queuesBounded_receiveChar c h
  case lineBreak =>
    obtain ⟨-, hreplies, hreports⟩ := h
    exact QueuesBounded.of_keepsLink (s := s.withLif (breakLif s.lif)) ⟨Nat.zero_le _, hreplies, hreports⟩ (keepsLink_linkLost _ _)
  case linkTimerExpiry =>
    exact QueuesBounded.of_keepsLink (s := s.withLif { s.lif with loss := true }) h (keepsLink_linkLost _ _)
  case frameSent => exact queuesBounded_frameSent h
  case telemetry =>
    exact QueuesBounded.of_keepsLink (s := s.withLif (telemetryNext s.lif s.cfg.lif.telemetryMs)) h (keepsLink_postReport _ _)
  case servoFrameStart | blendEnd | shiftWaitExpiry | shiftSettleExpiry => exact h.of_keepsLink (keepsLink_frameStart _ s)
  case driveUpdate | driveRetry => exact h.of_keepsLink (keepsLink_driveUpdate _ _ s)
  case winchUpdate | winchStall => exact h.of_keepsLink (keepsLink_winchUpdate _ s)
  case encoderCount e => exact h.of_keepsLink (keepsLink_encoderChange e s)
  case sweepCompletion | tapFaultChange | stageWorsen | stageRecover => exact h.of_keepsLink (keepsLink_sweepComplete _ s)
  case profileStoreCompletion ok =>
    refine h.of_keepsLink ?_
    unfold completeStore
    split
    · exact .refl s
    · exact (keepsLink_postReport _ _).of_lif rfl
  all_goals exact h

/-- Settles O15: a frame joins a queue that has room, and a taking has a reply place reserved. -/
theorem queuesNeverHoldMoreThanFour : Obligations.QueuesNeverHoldMoreThanFour := by
  refine fun s t h hstep => step_keeps_of (P := QueuesBounded) (fun _ _ hs => hs) (fun s hs => ?tick) ?exec h hstep
  case tick =>
    unfold tick
    split <;> exact hs
  case exec =>
    intro i s t hs hexec
    rcases exec_cases i s with ⟨ty, p, hreq⟩ | ⟨due, act, hev⟩ | ⟨enc, rfl⟩ | rfl | rfl | ⟨ty, p, rfl⟩ | hsame
    · cases (exec_of_request hreq s).symm.trans hexec
      exact queuesBounded_taking i ty p hs
    · cases (exec_of_event hev s).symm.trans hexec
      exact whenDue_keeps_of (queuesBounded_event hev) s hs
    · cases hexec
      exact ⟨Nat.zero_le _, Nat.zero_le _, Nat.zero_le _⟩
    · rcases exec_resetAssert s with hr | hr <;> cases hr.symm.trans hexec <;> exact hs
    · cases hexec
      exact hs
    · cases hexec
      exact queuesBounded_takingUnknown ty p hs
    · cases hsame.symm.trans hexec
      exact hs

end Queues

/-! ## Takings in general -/

/-- Settles O12: a taking pops the frame, lets its owner act and places one reply; no owner touches the queues. -/
theorem eachTakenRequestGetsOneReply : Obligations.EachTakenRequestGetsOneReply := by
  refine ⟨fun i ty p s hreq => ⟨fun htakes => ?reply, fun hwaits => ?waits⟩, fun ty p s hty htakes => ?unknown,
    fun i ty p s hreq htakes hlength => ?badLength⟩
  case reply =>
    rw [exec_of_request hreq]
    rcases hlength : lengthAllowed ty p.length with _ | _
    · rw [taking_badLength _ htakes hlength]
      exact ⟨_, _, rfl, rfl, rfl, rfl, rfl, rfl, rfl, rfl⟩
    · rw [taking_owner _ htakes hlength]
      obtain ⟨hintake, hreplies, htx, hrx, hgood, hloss, -⟩ := keepsLink_owner i (popIntake s)
      exact ⟨_, _, rfl, hintake, congrArg (· ++ [_]) hreplies, rfl, htx, hrx, hgood, hloss⟩
  case waits => rw [exec_of_request hreq, taking_waits _ hwaits]
  case unknown =>
    have hcan : canTake ty p s = true := (canTake_iff ty p s).2 htakes
    have hexec : exec (.unknownTypeRequest ty p) s = .next (takingUnknown ty p s) := rfl
    rw [hexec, takingUnknown, if_pos (by simp [hty, hcan])]
    rfl
  case badLength =>
    rw [exec_of_request hreq, taking_badLength _ htakes hlength]
    rfl

end Sys2Proof.Machine

namespace Sys2Proof.Machine

/-! ## The receiver -/

section Receiver

variable {s : State}

theorem majority_cleanBit (b : Bool) : majority (cleanBit b) = b := by simp [majority, cleanBit]

theorem disagree_cleanBit (b : Bool) : disagree (cleanBit b) = false := by simp [disagree, cleanBit]

theorem cleanChar_isNotFalseStart (b : Byte) : isFalseStart (cleanChar b) = false := majority_cleanBit false

theorem cleanChar_stop (b : Byte) : majority (cleanChar b).stop = true := majority_cleanBit true

theorem cleanChar_isNotNoisy (b : Byte) : isNoisy (cleanChar b) = false := by
  simp [isNoisy, cleanChar, disagree_cleanBit, Vector.any_eq_false]

/-- The eight bits of a byte, sampled without noise, are the byte. -/
theorem charByte_cleanChar (b : Byte) : charByte (cleanChar b) = b := by
  have hbits : (cleanChar b).data.toList.map majority = [b[0], b[1], b[2], b[3], b[4], b[5], b[6], b[7]] := by
    simp [cleanChar, Vector.toList_ofFn, majority_cleanBit]
  rw [charByte, hbits]
  revert b
  decide

/-- A character on a line that is not in a break. -/
theorem exec_character (c : UartChar) (hr : s.power = .running) (hb : s.lif.inBreak = false) :
    exec (.characterReceived c) s = .next (receiveChar c s) :=
  congrArg Host.Outcome.next (whenDue_due hr (by simp [hb]))

/-- No character ends during a break, and a part that does not run receives none. -/
theorem exec_character_none (c : UartChar) (h : ¬(s.power = .running ∧ s.lif.inBreak = false)) :
    exec (.characterReceived c) s = .next s := by
  refine congrArg Host.Outcome.next ?_
  by_cases hr : s.power = .running
  · exact whenDue_not (by simpa [hr] using h)
  · exact whenDue_stopped hr

theorem receiveChar_cleanChar (b : Byte) (s : State) : receiveChar (cleanChar b) s = receiveByte b s := by
  simp [receiveChar, cleanChar_isNotFalseStart, cleanChar_stop, cleanChar_isNotNoisy, countNoise, charByte_cleanChar]

theorem exec_cleanChar (b : Byte) (hr : s.power = .running) (hb : s.lif.inBreak = false) :
    exec (.characterReceived (cleanChar b)) s = .next (receiveByte b s) := by
  rw [exec_character _ hr hb, receiveChar_cleanChar]

theorem countUp_255 (n : Nat) : countUp 255 n = min (n + 1) 255 := by unfold countUp; omega

/-! ### The table of R175 -/

theorem receiveByte_hunt_start (h : s.lif.rx = .hunt) :
    receiveByte 0xC3 s = s.withLif { s.lif with rx := .length, gapSince := some s.now } := by
  simp [receiveByte, h, receive, finishFrame, gapStart]

theorem receiveByte_hunt_other {b : Byte} (h : s.lif.rx = .hunt) (hb : b ≠ 0xC3) :
    receiveByte b s = s.withLif { s.lif with gapSince := none } := by
  have hbyte : ¬b = 195#8 := hb
  simp [receiveByte, h, receive, finishFrame, gapStart, hbyte]

theorem receiveByte_length {b : Byte} (h : s.lif.rx = .length) (h1 : 1 ≤ b.toNat) (h40 : b.toNat ≤ 40) :
    receiveByte b s = s.withLif { s.lif with rx := .body b.toNat [], gapSince := some s.now } := by
  simp [receiveByte, h, receive, finishFrame, gapStart, h1, h40]

theorem receiveByte_length_out {b : Byte} (h : s.lif.rx = .length) (hb : b.toNat = 0 ∨ 41 ≤ b.toNat) :
    receiveByte b s = s.withLif { s.lif with rx := .hunt, gapSince := none } := by
  have hout : ¬(1 ≤ b.toNat ∧ b.toNat ≤ 40) := by omega
  simp only [receiveByte, h, receive, finishFrame, gapStart, if_neg hout, if_true]

theorem receiveByte_body_last {b : Byte} {len : Nat} {got : List Byte} (h : s.lif.rx = .body len got)
    (hlen : got.length + 1 = len) :
    receiveByte b s = s.withLif { s.lif with rx := .check (got ++ [b]), gapSince := some s.now } := by
  simp [receiveByte, h, receive, finishFrame, gapStart, hlen]

theorem receiveByte_body {b : Byte} {len : Nat} {got : List Byte} (h : s.lif.rx = .body len got)
    (hlen : got.length + 1 ≠ len) :
    receiveByte b s = s.withLif { s.lif with rx := .body len (got ++ [b]), gapSince := some s.now } := by
  simp [receiveByte, h, receive, finishFrame, gapStart, hlen]

theorem receiveByte_badCrc {b : Byte} {got : List Byte} (h : s.lif.rx = .check got) (hb : b ≠ frameCrc got) :
    receiveByte b s =
      s.withLif { s.lif with
        rx := .hunt, gapSince := none, counts := { s.lif.counts with crc := min (s.lif.counts.crc + 1) 255 } } := by
  simp [receiveByte, h, receive, finishFrame, gapStart, hb, countUp_255]

/-- A frame whose CRC-8 matches: steps 1 to 4 of R176 on a receiver back in HUNT. -/
theorem receiveByte_good {ty : Byte} {p : List Byte} (h : s.lif.rx = .check (ty :: p)) :
    receiveByte (frameCrc (ty :: p)) s =
      queueFrame { type := ty, payload := p } (noteGoodFrame (s.withLif { s.lif with rx := .hunt, gapSince := none })) := by
  simp [receiveByte, h, receive, finishFrame, gapStart]

/-- Steps 1 and 2 of R176. -/
theorem noteGoodFrame_eq (s : State) :
    noteGoodFrame s =
      { s with
        csc := { s.csc with linkLost := if s.lif.loss then false else s.csc.linkLost }
        lif := { s.lif with lastGood := some s.now, loss := false } } := by
  unfold noteGoodFrame
  cases s.lif.loss <;> rfl

theorem frameCrc_cons (ty : Byte) (p : Payload) : frameCrc (ty :: p) = crc8 (BitVec.ofNat 8 (p.length + 1) :: ty :: p) := rfl

end Receiver

/-- Settles O6, by the state of the receiver. -/
theorem characterDrivesTheReceiver : Obligations.CharacterDrivesTheReceiver := by
  intro b s hr hb
  rw [exec_cleanChar b hr hb]
  refine ⟨?hunt, ?other, ?length, ?out, ?last, ?body, ?crc⟩
  case hunt =>
    rintro hrx rfl
    exact congrArg _ (receiveByte_hunt_start hrx)
  case other => exact fun hrx hb => congrArg _ (receiveByte_hunt_other hrx hb)
  case length => exact fun hrx h1 h40 => congrArg _ (receiveByte_length hrx h1 h40)
  case out => exact fun hrx hb => congrArg _ (receiveByte_length_out hrx hb)
  case last => exact fun _ _ hrx hlen => congrArg _ (receiveByte_body_last hrx hlen)
  case body => exact fun _ _ hrx hlen => congrArg _ (receiveByte_body hrx hlen)
  case crc => exact fun _ hrx hb => congrArg _ (receiveByte_badCrc hrx hb)

/-! ## Errors on the line -/

section LineErrors

variable {s : State} {c : UartChar}

/-- A false start brings no character; the gap is timed from here. -/
theorem receiveChar_falseStart (hc : majority c.start = true) :
    receiveChar c s = s.withLif { s.lif with gapSince := if s.lif.rx = .hunt then none else some s.now } := by
  simp [receiveChar, isFalseStart, hc, falseStart, gapStart]

/-- A zero stop bit: the noise of the character is counted, then the framing error. -/
theorem receiveChar_zeroStop (hstart : majority c.start = false) (hstop : majority c.stop = false) :
    receiveChar c s =
      s.withLif { s.lif with
        rx := .hunt
        gapSince := none
        counts := { s.lif.counts with
          framing := min (s.lif.counts.framing + 1) 255
          noise := if isNoisy c then min (s.lif.counts.noise + 1) 255 else s.lif.counts.noise } } := by
  cases hn : isNoisy c <;> simp [receiveChar, isFalseStart, hstart, hstop, framingError, countNoise, hn, countUp_255]

/-- A character with its stop bit acts by its byte, after its noise has been counted. -/
theorem receiveChar_byte (hstart : majority c.start = false) (hstop : majority c.stop = true) :
    receiveChar c s = receiveByte (charByte c) (countNoise (isNoisy c) s) := by
  simp [receiveChar, isFalseStart, hstart, hstop]

theorem countNoise_noisy (s : State) :
    countNoise true s = s.withLif { s.lif with counts := { s.lif.counts with noise := min (s.lif.counts.noise + 1) 255 } } := by
  simp [countNoise, countUp_255]

theorem gapDue_of {since : Nat} (hg : s.lif.gapSince = some since) :
    gapDue s = (decide (s.lif.rx ≠ .hunt) && decide (2 ≤ s.now - since)) := by
  simp [gapDue, hg]

end LineErrors

/-- Settles O7: false start, zero stop bit, gap and noise in turn. -/
theorem lineErrorsAreCounted : Obligations.LineErrorsAreCounted := by
  refine ⟨?falseStart, ?stop, ?gap, ?early, ?noise⟩
  case falseStart =>
    intro c s hr hb hc
    rw [exec_character c hr hb, receiveChar_falseStart hc]
    rfl
  case stop =>
    intro c s hr hb hstart hstop
    rw [exec_character c hr hb, receiveChar_zeroStop hstart hstop]
    rfl
  case gap =>
    intro s since hr hrx hg hle
    have hdue : gapDue s = true := by simp [gapDue_of hg, hrx]; omega
    rw [exec_of_event rfl, whenDue_due hr hdue]
    simp only [gapDiscard, countUp_255]
    rfl
  case early =>
    intro s since hg hlt
    have hdue : gapDue s = false := by simp [gapDue_of hg]; omega
    rw [exec_of_event rfl, whenDue_not hdue]
  case noise =>
    intro c s hstart hstop
    by_cases hrun : s.power = .running ∧ s.lif.inBreak = false
    · obtain ⟨hr, hb⟩ := hrun
      rw [exec_character c hr hb, receiveChar_byte hstart hstop]
      constructor <;> intro hn <;> rw [hn]
      · rw [countNoise_noisy, if_pos ⟨hr, hb⟩, ← State.withLif, exec_cleanChar _ (by exact hr) (by exact hb)]
      · rw [exec_cleanChar _ hr hb]
        rfl
    · rw [if_neg hrun, exec_character_none c hrun, exec_character_none _ hrun]
      exact ⟨fun _ => rfl, fun _ => rfl⟩

/-- Settles O8: a frame whose check matches is noted and queued; at power-on the link timer does not run. -/
theorem goodFrameArrives : Obligations.GoodFrameArrives := by
  refine ⟨fun ty p s hr hb hrx => ?good, fun enc s => ⟨powerOn enc s, rfl, rfl, rfl, rfl, rfl⟩⟩
  rw [← frameCrc_cons, exec_cleanChar _ hr hb, receiveByte_good hrx, noteGoodFrame_eq]
  constructor <;> intro hlen
  · exact congrArg _ (if_pos hlen)
  · exact congrArg _ ((if_neg (not_lt.2 hlen)).trans (by rw [countUp_255]; rfl))

/-! ## Whole frames -/

section Frames

variable {s : State}

/-- The part with its receiver in this state and its gap timed from this time. -/
def listening (rx : Receiver) (gap : Option Nat) (s : State) : State := s.withLif { s.lif with rx := rx, gapSince := gap }

theorem receiveBytes_cons (b : Byte) (rest : List Byte) (hr : s.power = .running) (hb : s.lif.inBreak = false) :
    receiveBytes (b :: rest) s = receiveBytes rest (receiveByte b s) := by
  rw [receiveBytes, exec_cleanChar b hr hb]

/-- The type and payload bytes of a frame lead from BODY to CHECK. -/
theorem receiveBytes_body (hr : s.power = .running) (hb : s.lif.inBreak = false) (rest : List Byte) :
    ∀ (bs : List Byte) (len : Nat) (got : List Byte) (gap : Option Nat), bs ≠ [] → got.length + bs.length = len →
      receiveBytes (bs ++ rest) (listening (.body len got) gap s) =
        receiveBytes rest (listening (.check (got ++ bs)) (some s.now) s)
  | [], _, _, _, hne, _ => absurd rfl hne
  | [b], len, got, gap, _, hlen => by
    rw [List.singleton_append, receiveBytes_cons b rest (by exact hr) (by exact hb), receiveByte_body_last rfl hlen]
    rfl
  | b :: c :: bs, len, got, gap, _, hlen => by
    have hmore : got.length + 1 ≠ len := by simp at hlen; omega
    have ih := receiveBytes_body hr hb rest (c :: bs) len (got ++ [b]) (some s.now) (by simp) (by simp at hlen ⊢; omega)
    rw [List.cons_append, receiveBytes_cons b _ (by exact hr) (by exact hb), receiveByte_body rfl hmore]
    rw [List.append_assoc] at ih
    exact ih

/-- The bytes of a frame up to its check lead from HUNT to CHECK. -/
theorem receiveBytes_head {ty : Byte} {p : Payload} (hr : s.power = .running) (hb : s.lif.inBreak = false) (hrx : s.lif.rx = .hunt)
    (hp : p.length ≤ 39) (rest : List Byte) :
    receiveBytes (0xC3 :: BitVec.ofNat 8 (p.length + 1) :: (ty :: p ++ rest)) s =
      receiveBytes rest (listening (.check (ty :: p)) (some s.now) s) := by
  have hlen : (BitVec.ofNat 8 (p.length + 1)).toNat = p.length + 1 := by simp; omega
  rw [receiveBytes_cons _ _ hr hb, receiveByte_hunt_start hrx, receiveBytes_cons _ _ (by exact hr) (by exact hb),
    receiveByte_length rfl (by omega) (by omega), hlen]
  exact receiveBytes_body hr hb rest (ty :: p) (p.length + 1) [] (some s.now) (by simp) (by simp)

end Frames

/-- Settles O9: the head of the frame leads to CHECK, by induction over the type and payload bytes; the last byte decides. -/
theorem framesAreReceivedAsSent : Obligations.FramesAreReceivedAsSent := by
  intro ty p s hr hb hrx hp
  have hbytes : frameBytes ty p = 0xC3 :: BitVec.ofNat 8 (p.length + 1) :: (ty :: p ++ [frameCrc (ty :: p)]) := by
    simp [frameBytes, frameCrc]
  constructor
  · rw [hbytes, receiveBytes_head hr hb hrx hp, receiveBytes_cons _ _ (by exact hr) (by exact hb), receiveByte_good rfl,
      noteGoodFrame_eq]
    refine ⟨_, rfl, ?_⟩
    by_cases hlen : s.lif.intake.length < 4 <;> simp [queueFrame, listening, hlen]
  · intro x hx
    rw [← frameCrc_cons] at hx
    have hlast : (frameBytes ty p).dropLast ++ [x] = 0xC3 :: BitVec.ofNat 8 (p.length + 1) :: (ty :: p ++ [x]) := by
      rw [hbytes]
      exact congrArg (· ++ [x]) (List.dropLast_concat (l₁ := 0xC3 :: BitVec.ofNat 8 (p.length + 1) :: ty :: p))
    rw [hlast, receiveBytes_head hr hb hrx hp, receiveBytes_cons _ _ (by exact hr) (by exact hb), receiveByte_badCrc rfl hx, ← hrx]
    rfl

end Sys2Proof.Machine

namespace Sys2Proof.Machine

/-! ## The part without power -/

section Stopped

variable {s : State}

theorem not_takes_of_stopped {ty : Byte} {p : Payload} (h : s.power ≠ .running) : ¬Takes ty p s := fun htakes => h htakes.1

/-- A stopped part changes at no command but the three of power. -/
theorem exec_stopped (i : Instr) (h : s.power ≠ .running) (hon : ∀ enc, i ≠ .powerOn enc) (hreset : i ≠ .resetAssert)
    (hlost : i ≠ .powerLost) : exec i s = .next s := by
  rcases exec_cases i s with ⟨ty, p, hreq⟩ | ⟨due, act, hev⟩ | ⟨enc, rfl⟩ | rfl | rfl | ⟨ty, p, rfl⟩ | hsame
  · rw [exec_of_request hreq, taking_waits _ (not_takes_of_stopped h)]
  · rw [exec_of_event hev, whenDue_stopped h]
  · exact absurd rfl (hon enc)
  · exact absurd rfl hreset
  · exact absurd rfl hlost
  · have hcan : canTake ty p s = false := by
      simpa [Bool.eq_false_iff, canTake_iff] using not_takes_of_stopped h
    simp [exec, execUnknownTypeRequest, takingUnknown, hcan]
  · exact hsame

theorem stopPart_idle (power : Power) (h : s.pst.writing = none) : stopPart power s = { s with power := power } := by
  simp [stopPart, abandonStore, h]

/-- A store in progress is abandoned and its image fails its check. -/
theorem stopPart_storing (power : Power) (h : s.pst.writing ≠ none) :
    stopPart power s = { s with power := power, pst := { s.pst with stored := .failsCheck, writing := none } } := by
  obtain ⟨w, hw⟩ := Option.ne_none_iff_exists'.1 h
  simp [stopPart, abandonStore, hw]

theorem exec_resetAssert_on (h : s.power ≠ .off) : exec .resetAssert s = .next (stopPart .resetHeld s) := by
  simp [exec, execResetAssert, h]

theorem isRunning_of (h : s.power = .running) : isRunning s = true := by simp [isRunning, h]

theorem isRunning_of_not (h : s.power ≠ .running) : isRunning s = false := by simp [isRunning, h]

end Stopped

/-! ## The output lines -/

section Lines

variable {s : State}

theorem dutyLines_nonneg {d : Int} (h : 0 ≤ d) : dutyLines d = { pwmA := d.natAbs, pwmB := 0, brake := 0 } := by
  simp [dutyLines]
  omega

theorem dutyLines_nonpos {d : Int} (h : d ≤ 0) : dutyLines d = { pwmA := 0, pwmB := d.natAbs, brake := 0 } := by
  simp [dutyLines]
  omega

theorem driveLines_moving {ch : DriveCh} (hr : s.power = .running) (h : (s.drc.chan ch).output ≠ 0) :
    driveLines s ch = dutyLines (s.drc.chan ch).output := by
  simp [driveLines, isRunning_of hr, h]

theorem driveLines_rest {ch : DriveCh} (hr : s.power = .running) (h : (s.drc.chan ch).output = 0) :
    driveLines s ch = { pwmA := 0, pwmB := 0, brake := (s.drc.chan ch).brake } := by
  simp [driveLines, isRunning_of hr, h, bridgeOff]

theorem winchLines_eq (hr : s.power = .running) :
    winchLines s =
      match winchMode s with
      | .drive => dutyLines s.wnc.duty
      | .brake => { bridgeOff with brake := 1000 }
      | .off => bridgeOff := by
  have hrun : ¬(!isRunning s) = true := by rw [isRunning_of hr]; exact Bool.false_ne_true
  exact (if_neg hrun).trans rfl

theorem winchMode_driving (h : s.wnc.state = .spoolIn ∨ s.wnc.state = .spoolOut ∨ s.wnc.state = .pull) :
    winchMode s = .drive := by
  rcases h with h | h | h <;> simp [winchMode, h]

theorem winchMode_brake (h : s.wnc.state = .braked ∨ s.wnc.state = .suspended ∨ s.wnc.state = .stalled)
    (hc : s.csc.chassis ≠ .cutoff) : winchMode s = .brake := by
  rcases h with h | h | h <;> simp [winchMode, h, hc]

theorem winchMode_off (h : s.wnc.state = .free ∨ (s.wnc.state = .braked ∧ s.csc.chassis = .cutoff)) : winchMode s = .off := by
  rcases h with h | ⟨h, hc⟩
  · simp [winchMode, h]
  · simp [winchMode, h, hc]

end Lines

/-- Settles O3: the stops of the part, its lines with and without power, and the commands of a stopped part. -/
theorem stoppedPartIsInactive : Obligations.StoppedPartIsInactive := by
  refine ⟨?resetIdle, ?resetStoring, ?resetOff, ?lostIdle, ?lostStoring, ?inactive, ?lines, ?frozen⟩
  case resetIdle => exact fun s h hidle => (exec_resetAssert_on h).trans (congrArg _ (stopPart_idle _ hidle))
  case resetStoring => exact fun s h hw => (exec_resetAssert_on h).trans (congrArg _ (stopPart_storing _ hw))
  case resetOff =>
    intro s h
    simp [exec, execResetAssert, h]
  case lostIdle => exact fun s hidle => congrArg Host.Outcome.next (stopPart_idle _ hidle)
  case lostStoring => exact fun s hw => congrArg Host.Outcome.next (stopPart_storing _ hw)
  case inactive =>
    intro s h
    simp [servoLine, driveLines, winchLines, lampLine, transmitLine, isRunning_of_not h]
  case lines =>
    intro s hr
    refine ⟨fun ch => ⟨fun h => ?_, fun h => ?_, driveLines_rest hr⟩, fun h => ?_, fun h hc => ?_, fun h => ?_, rfl, ?_, ?_, ?_, ?_⟩
    · rw [driveLines_moving hr (by omega), dutyLines_nonneg (by omega)]
    · rw [driveLines_moving hr (by omega), dutyLines_nonpos (by omega)]
    · have hmode := winchMode_driving h
      rw [winchLines_eq hr, hmode]
      exact ⟨rfl, dutyLines_nonneg, dutyLines_nonpos⟩
    · have hmode := winchMode_brake h hc
      rw [winchLines_eq hr, hmode]
      exact ⟨rfl, rfl⟩
    · have hmode := winchMode_off h
      rw [winchLines_eq hr, hmode]
      exact ⟨rfl, rfl⟩
    · exact fun ch => if_pos (isRunning_of hr)
    · exact fun k => if_pos (isRunning_of hr)
    · intro htx
      simp [transmitLine, htx]
    · intro x htx
      simp [transmitLine, htx, isRunning_of hr]
  case frozen => exact fun i s h hon hreset hlost => exec_stopped i h hon hreset hlost

/-! ## Power-on -/

section PowerOn

variable {s : State}

theorem abandonStore_of_idle (h : s.pst.writing = none) : abandonStore s.pst = s.pst := by simp [abandonStore, h]

/-- An image that fails its check, or whose store was in progress, is not there at power-on. -/
theorem abandonStore_stored_fails (h : s.pst.stored = .failsCheck ∨ s.pst.writing ≠ none) :
    (abandonStore s.pst).stored = .failsCheck := by
  cases hw : s.pst.writing with
  | none => simpa [abandonStore, hw] using h
  | some w => simp [abandonStore, hw]

/-- A lamp at power-on is on its off-action: at its level, or in the first step of its pattern. -/
theorem powerOnLight_keeps (c : LcuCfg) (k : Fin 8) :
    (powerOnLight c k).activity = false ∧ (powerOnLight c k).forcedOff = false ∧ (powerOnLight c k).slot = 0 ∧
      (powerOnLight c k).residual = 0 ∧ (powerOnLight c k).level = 0 := by
  unfold powerOnLight startAction
  split <;> simp

theorem powerOnLight_level {c : LcuCfg} {k : Fin 8} {v : Nat} (h : c.maps[k].offAction = .level v) :
    (powerOnLight c k).base = v ∧ (powerOnLight c k).runner = none := by
  rw [powerOnLight, h]
  exact ⟨rfl, rfl⟩

theorem powerOnLight_pattern {c : LcuCfg} {k : Fin 8} {q : Fin 16} (h : c.maps[k].offAction = .pattern q) :
    (powerOnLight c k).base = 0 ∧ (powerOnLight c k).runner = some (enterStep c q 0 0) := by
  rw [powerOnLight, h]
  exact ⟨rfl, rfl⟩

theorem enterStep_latch {c : LcuCfg} {q : Fin 16} {j base : Nat} {i : Fin 64} (h : c.table[q].steps[j]? = some i) :
    (enterStep c q j base).latch = c.pool[i] := by
  simp only [enterStep, stepAt, stepIndex, h]

theorem lightOfState_powerOn (enc : EncoderPins) (s : State) (k : Fin 8) :
    lightOfState (powerOn enc s) k = powerOnLight (powerOn enc s).cfg.lcu k := by
  simp [lightOfState, powerOn, State.powerOn, powerOnLcu]

/-- A servo channel at power-on rests. -/
theorem powerOnSpg_chan (c : SpgCfg) (ch : ServoCh) : ∃ pulse, (powerOnSpg c).chan ch = powerOnServo (c.period ch) pulse := by
  cases ch <;> exact ⟨_, rfl⟩

theorem gearEndpoint_eq (e : Endpoints) (g : Gear) : gearEndpoint e g = if g = .low then e.left else e.right := by
  cases g <;> rfl

theorem telemetryStart_zero (period : Nat) : telemetryStart 0 period = if period = 0 then none else some period := by
  simp [telemetryStart]

end PowerOn

/-- Settles O4, block by block. -/
theorem powerOnLoadsTheProfile : Obligations.PowerOnLoadsTheProfile := by
  intro enc s
  refine ⟨powerOn enc s, rfl, rfl, rfl, ?loaded, ?factory, rfl, rfl, rfl, ?servos, ?drives, ⟨rfl, rfl, rfl⟩, rfl, ?lamps, rfl,
    ⟨rfl, rfl⟩, ⟨rfl, rfl, rfl, rfl, rfl, rfl, rfl, rfl, rfl, ?telemetry⟩⟩
  case loaded =>
    intro c hstored hidle
    simp [powerOn, State.powerOn, abandonStore_of_idle hidle, hstored, loadedConfig, powerOnPst]
  case factory =>
    intro h
    simp [powerOn, State.powerOn, abandonStore_stored_fails h, loadedConfig, powerOnPst]
  case servos =>
    refine ⟨rfl, rfl, ?_, fun ch => ?_⟩
    · exact gearEndpoint_eq _ _
    · obtain ⟨pulse, hpulse⟩ := powerOnSpg_chan (powerOn enc s).cfg.spg ch
      have hchan : (powerOn enc s).spg.chan ch = powerOnServo ((powerOn enc s).cfg.spg.period ch) pulse := hpulse
      rw [servoLine, hchan]
      exact ⟨rfl, rfl, rfl, rfl, rfl, ite_self _⟩
  case drives => intro ch; cases ch <;> rfl
  case lamps =>
    intro k
    rw [lightOfState_powerOn]
    obtain ⟨hact, hoff, hslot, hres, hlevel⟩ := powerOnLight_keeps (powerOn enc s).cfg.lcu k
    refine ⟨hact, hoff, hslot, hres, hlevel, fun v hv => powerOnLight_level hv, fun q hq => ?_⟩
    obtain ⟨hbase, hrunner⟩ := powerOnLight_pattern hq
    exact ⟨hbase, _, hrunner, rfl, rfl, rfl, rfl, rfl, rfl, fun i hi => enterStep_latch hi⟩
  case telemetry => exact telemetryStart_zero _

/-! ## The first state -/

/-- A part that has never been stored holds the factory configuration alone. -/
theorem everyConfig_reset {P : WorkingConfig → Prop} (h : P factoryConfig) : EveryConfig P State.reset :=
  ⟨h, fun _ hc => by simp [State.reset, State.powerOn, powerOnPst] at hc,
    fun _ hw => by simp [State.reset, State.powerOn, powerOnPst] at hw⟩

/-- Settles O5: the invariants hold of the factory set and of the power-on values. -/
theorem resetMeetsTheInvariants : Obligations.ResetMeetsTheInvariants := by
  obtain ⟨hpool, hrefs⟩ := (poolOk_iff State.reset).1 (everyConfig_reset lightsOk_factory)
  refine ⟨rfl, rfl, ⟨Nat.zero_le _, Nat.zero_le _, Nat.zero_le _⟩, hpool, hrefs, ⟨everyConfig_reset budgetOk_factory, fun _ => rfl⟩,
    ⟨driveChanOk_powerOn, driveChanOk_powerOn⟩, winchRecordOk_of_still rfl rfl rfl rfl,
    chassisRecordOk_powerOn { a := false, b := false } State.reset, cutoffIsStill_of_ne ?_⟩
  simp [State.reset, State.powerOn, powerOnCsc]

end Sys2Proof.Machine

namespace Sys2Proof.Machine

/-! ## Closed forms of the transitions -/

section Transitions

variable {s : State}

theorem moveChassis_eq (c : Chassis) (cause : Cause) (s : State) :
    moveChassis c cause s =
      { s with csc := { s.csc with chassis := c }, lif := posted (stateChangeReport s.csc.chassis c cause) s.lif } := by
  rw [moveChassis, postReport_eq]
  rfl

theorem endOp_eq (r : WinchResult) (st : WinchState) (s : State) :
    endOp r st s = { s with wnc := { s.wnc.rest st with last := r }, lif := posted (winchEndReport r s) s.lif } := by
  rw [endOp, postReport_eq]
  rfl

/-- The winch ends BRAKED; an operation is reported and leaves its result. -/
theorem endAnyOp_eq (r : WinchResult) (s : State) :
    endAnyOp r s =
      { s with
        wnc := { s.wnc.rest .braked with last := if s.wnc.hasOp then r else s.wnc.last }
        lif := if s.wnc.hasOp then posted (winchEndReport r s) s.lif else s.lif } := by
  rcases endAnyOp_cases r s with ⟨hop, heq⟩ | ⟨hop, heq⟩
  · simp only [heq, endOp_eq, hop, if_true]
  · simp only [heq, hop]
    rfl

/-- A shift in EASING is abandoned, with its report. -/
theorem shiftFailsafe_eq (s : State) :
    shiftFailsafe s =
      { s with
        spg := { s.spg with
          shift := if s.spg.shift.phase = .easing then
              { s.spg.shift with pending := none, phase := .idle, waitMs := 0, settleMs := 0 }
            else s.spg.shift }
        lif := if s.spg.shift.phase = .easing then
            posted (shiftEndReport .abandoned s.spg.shift.gear s.spg.shift.pending) s.lif
          else s.lif } := by
  unfold shiftFailsafe
  split
  · rw [abandonShift, endShift_eq]
  · rfl

theorem dropBlends_eq (s : State) :
    dropBlends s =
      { s with smx := { s.smx with frontBlend := s.smx.frontBlend.dropped, rearBlend := s.smx.rearBlend.dropped } } := rfl

/-- Link loss in RUN and HOLD is the entry into FAILSAFE. -/
theorem linkLost_enters (cause : Cause) (h : s.csc.chassis = .run ∨ s.csc.chassis = .hold) :
    linkLost cause s = enterFailsafe cause (s.withCsc { s.csc with linkLost := true }) := by
  rcases h with h | h <;> simp [linkLost, h]

/-- Elsewhere it sets the flag alone. -/
theorem linkLost_flag (cause : Cause) (hrun : s.csc.chassis ≠ .run) (hhold : s.csc.chassis ≠ .hold) :
    linkLost cause s = s.withCsc { s.csc with linkLost := true } := by
  unfold linkLost
  split
  · contradiction
  · contradiction
  all_goals rfl

/-- The teardown at link loss, LIF being as the loss itself leaves it. -/
theorem failsafeFrom_linkLost (cause : Cause) (l : Lif) (h : s.csc.chassis = .run ∨ s.csc.chassis = .hold) :
    FailsafeFrom cause.code l s (linkLost cause (s.withLif l)) := by
  unfold FailsafeFrom
  rw [linkLost_enters cause (by exact h), enterFailsafe, endAnyOp_eq, shiftFailsafe_eq, dropBlends_eq, moveChassis_eq]
  rfl

end Transitions

/-! ## Breaks and the link timer -/

section LinkTimer

variable {s : State} {t₀ : Nat}

theorem breakLif_eq (l : Lif) :
    breakLif l =
      { l with
        rx := .hunt, gapSince := none, intake := [], loss := true, inBreak := true
        counts := { l.counts with breaks := min (l.counts.breaks + 1) 255 } } := by
  rw [breakLif, countUp_255]

theorem exec_lineBreak (hr : s.power = .running) (hb : s.lif.inBreak = false) :
    exec .lineBreak s = .next (lineBreak s) :=
  (exec_of_event rfl s).trans (congrArg _ (whenDue_due hr (by simp [hb])))

/-- Outside RUN and HOLD, and without a good frame, the link timer does not run. -/
theorem linkTimerDue_idle (h : s.csc.chassis = .standby ∨ s.csc.chassis = .failsafe ∨ s.csc.chassis = .cutoff ∨
    s.lif.lastGood = none) : linkTimerDue s = false := by
  rcases h with h | h | h | h
  · simp [linkTimerDue, linkLength, h]
  · simp [linkTimerDue, linkLength, h]
  · simp [linkTimerDue, linkLength, h]
  · unfold linkTimerDue
    split
    · simp_all
    · rfl

theorem linkTimerDue_run (h : s.csc.chassis = .run) (ht : s.lif.lastGood = some t₀) :
    linkTimerDue s = (!s.lif.loss && decide (s.cfg.csc.linkTimeout ≤ s.now - t₀)) := by
  simp [linkTimerDue, linkLength, h, ht]

theorem linkTimerDue_hold (h : s.csc.chassis = .hold) (ht : s.lif.lastGood = some t₀) :
    linkTimerDue s = (!s.lif.loss && decide (s.cfg.csc.holdLinkTimeout ≤ s.now - t₀)) := by
  simp [linkTimerDue, linkLength, h, ht]

/-- After a loss a good frame must arrive first. -/
theorem linkTimerDue_lost (h : s.lif.loss = true) : linkTimerDue s = false := by
  unfold linkTimerDue
  split
  · simp [h]
  · rfl

theorem exec_linkTimerExpiry_not (h : linkTimerDue s = false) : exec .linkTimerExpiry s = .next s :=
  (exec_of_event rfl s).trans (congrArg _ (whenDue_not h))

end LinkTimer

/-- Settles O10. -/
theorem breakFlushesTheIntake : Obligations.BreakFlushesTheIntake := by
  refine ⟨fun s hr hb hrun hhold => ?_, fun s hb => ?_, fun s hr hb => ?_, fun s hb => ?_⟩
  · rw [exec_lineBreak hr hb, lineBreak, linkLost_flag _ (by exact hrun) (by exact hhold), breakLif_eq]
    rfl
  · exact (exec_of_event rfl s).trans (congrArg _ (whenDue_not (by simp [hb])))
  · exact (exec_of_event rfl s).trans (congrArg _ (whenDue_due hr hb))
  · exact (exec_of_event rfl s).trans (congrArg _ (whenDue_not hb))

/-- Settles O11: both losses are the entry into FAILSAFE, which `failsafeFrom_linkLost` writes out; the other clauses say when the timer is
not due. -/
theorem linkLossEntersFailsafe : Obligations.LinkLossEntersFailsafe := by
  refine ⟨fun s hr hb hc => ?brk, fun s t₀ hr ht hl hc => ?timer, fun s h => exec_linkTimerExpiry_not (linkTimerDue_idle h),
    fun s hl _ => exec_linkTimerExpiry_not (linkTimerDue_lost hl), fun s t₀ ht hc hlt => exec_linkTimerExpiry_not ?run,
    fun s t₀ ht hc hlt => exec_linkTimerExpiry_not ?hold⟩
  case brk =>
    rw [← breakLif_eq]
    exact ⟨_, exec_lineBreak hr hb, failsafeFrom_linkLost .linkBreak (breakLif s.lif) hc⟩
  case timer =>
    have hdue : linkTimerDue s = true := by
      rcases hc with ⟨hc, hle⟩ | ⟨hc, hle⟩
      · simp [linkTimerDue_run hc ht, hl, hle]
      · simp [linkTimerDue_hold hc ht, hl, hle]
    have hc' : s.csc.chassis = .run ∨ s.csc.chassis = .hold := hc.imp And.left And.left
    have hexec : exec .linkTimerExpiry s = .next (linkTimerExpires s) :=
      (exec_of_event rfl s).trans (congrArg _ (whenDue_due hr hdue))
    exact ⟨_, hexec, failsafeFrom_linkLost .linkTimeout { s.lif with loss := true } hc'⟩
  case run => simp [linkTimerDue_run hc ht, hlt]
  case hold => simp [linkTimerDue_hold hc ht, hlt]

/-! ## The transmitter and telemetry -/

section Transmitter

variable {s : State}

theorem transmitDue_of_idle (htx : s.lif.tx = none) : transmitDue s = (nextTransmission s.lif).isSome := by
  simp [transmitDue, htx]

/-- The transmitter starts what is next. -/
theorem exec_transmitFrameStart {x : Transmission} (hr : s.power = .running) (htx : s.lif.tx = none)
    (hx : nextTransmission s.lif = some x) :
    exec .transmitFrameStart s = .next { s with lif := { s.lif with tx := some x } } := by
  rw [exec_of_event rfl, whenDue_due hr (by simp [transmitDue_of_idle htx, hx]), startTransmission, hx]
  rfl

theorem nextTransmission_reply {f : TxFrame} {rest : List TxFrame} (h : s.lif.replies = f :: rest) :
    nextTransmission s.lif = some { source := .reply, bytes := frameBytes f.type f.payload } := by
  simp [nextTransmission, h]

theorem nextTransmission_report {f : TxFrame} {rest : List TxFrame} (hnone : s.lif.replies = []) (h : s.lif.reports = f :: rest) :
    nextTransmission s.lif = some { source := .report, bytes := frameBytes f.type f.payload } := by
  simp [nextTransmission, hnone, h]

theorem transmitDue_not (h : s.lif.tx ≠ none ∨ (s.lif.replies = [] ∧ s.lif.reports = [])) : transmitDue s = false := by
  rcases h with h | ⟨hreplies, hreports⟩
  · simp [transmitDue, h]
  · simp [transmitDue, nextTransmission, hreplies, hreports]

/-- A frame sent leaves the line. -/
theorem exec_frameSent {x : Transmission} (hr : s.power = .running) (h : s.lif.tx = some x) :
    exec .frameSent s = .next (frameSent s) :=
  (exec_of_event rfl s).trans (congrArg _ (whenDue_due hr (by simp [h])))

theorem telemetryDue_of {due : Nat} (h : s.lif.telNext = some due) : telemetryDue s = decide (due ≤ s.now) := by
  simp [telemetryDue, h]

theorem formTelemetry_eq (s : State) :
    formTelemetry s =
      s.withLif (posted (telemetryReport (s.withLif (telemetryNext s.lif s.cfg.lif.telemetryMs)))
        (telemetryNext s.lif s.cfg.lif.telemetryMs)) := by
  rw [formTelemetry, postReport_eq]
  rfl

end Transmitter

/-- Settles O13: what the transmitter starts and frees, and the schedule of TELEMETRY. -/
theorem transmitterAndTelemetry : Obligations.TransmitterAndTelemetry := by
  refine ⟨?reply, ?report, ?nothing, ?replySent, ?reportSent, ?noFrame, ?telemetry, ?early, ?noSchedule⟩
  case reply => exact fun s f rest hr htx h => exec_transmitFrameStart hr htx (nextTransmission_reply h)
  case report => exact fun s f rest hr htx hnone h => exec_transmitFrameStart hr htx (nextTransmission_report hnone h)
  case nothing => exact fun s h => (exec_of_event rfl s).trans (congrArg _ (whenDue_not (transmitDue_not h)))
  case replySent =>
    intro s bytes hr h
    rw [exec_frameSent hr h, frameSent, h]
    rfl
  case reportSent =>
    intro s bytes hr h
    rw [exec_frameSent hr h, frameSent, h]
    rfl
  case noFrame => exact fun s h => (exec_of_event rfl s).trans (congrArg _ (whenDue_not (by simp [h])))
  case telemetry =>
    intro s due hr h hle
    have hnext : telemetryNext s.lif s.cfg.lif.telemetryMs =
        { s.lif with telSeq := s.lif.telSeq + 1, telNext := some (due + s.cfg.lif.telemetryMs) } := by
      simp [telemetryNext, h]
    rw [exec_of_event rfl, whenDue_due hr (by simp [telemetryDue_of h, hle]), formTelemetry_eq, hnext]
    rfl
  case early =>
    intro s due h hlt
    exact (exec_of_event rfl s).trans (congrArg _ (whenDue_not (by simp [telemetryDue_of h, hlt])))
  case noSchedule => exact fun s h => (exec_of_event rfl s).trans (congrArg _ (whenDue_not (by simp [telemetryDue, h])))

end Sys2Proof.Machine

namespace Sys2Proof.Machine

/-! ## Owners and the frame that has left the intake queue

No owner of a request reads or writes the intake queue, so that a taking can be computed on the state in which the frame still waits. -/

section IgnoresIntake

variable {s : State}

/-- An owner that acts and answers alike before and after the oldest frame has left the intake queue. -/
def IgnoresIntake (owner : State → State × List Field) : Prop :=
  ∀ s, owner (popIntake s) = (popIntake (owner s).1, (owner s).2)

theorem popIntake_ite {c : Prop} [Decidable c] (a b : State) :
    popIntake (if c then a else b) = if c then popIntake a else popIntake b := by split <;> rfl

@[simp] theorem storeRunning_popIntake (s : State) : storeRunning (popIntake s) = storeRunning s := rfl
@[simp] theorem lockActive_popIntake (strap : PinLevel) (s : State) : lockActive strap (popIntake s) = lockActive strap s := rfl

/-! ### Operations that post reports -/

theorem setShift_popIntake (x : Shift) (s : State) : setShift x (popIntake s) = popIntake (setShift x s) := rfl

theorem endOp_popIntake (r : WinchResult) (st : WinchState) (s : State) : endOp r st (popIntake s) = popIntake (endOp r st s) :=
  postReport_popIntake (winchEndReport r s) (s.withWnc { s.wnc.rest st with last := r })

theorem endAnyOp_popIntake (r : WinchResult) (s : State) : endAnyOp r (popIntake s) = popIntake (endAnyOp r s) := by
  simp only [endAnyOp, popIntake_keeps, popIntake_ite, endOp_popIntake]
  rfl

theorem limitCheck_popIntake (s : State) : limitCheck (popIntake s) = popIntake (limitCheck s) := by
  simp only [limitCheck, popIntake_keeps]
  split
  · split
    · split
      · split
        · exact endOp_popIntake _ _ s
        · rfl
      · rfl
    · split
      · exact endOp_popIntake _ _ s
      · rfl
  · rfl

theorem restoreOp_popIntake (s : State) : restoreOp (popIntake s) = popIntake (restoreOp s) := by
  simp only [restoreOp, popIntake_keeps]
  split
  · rfl
  · split
    · exact endOp_popIntake _ _ (s.withWnc _)
    · exact limitCheck_popIntake (s.withWnc _)

theorem dropReason_popIntake (r : Reasons) (s : State) : dropReason r (popIntake s) = popIntake (dropReason r s) := by
  simp only [dropReason, popIntake_keeps]
  split
  · exact restoreOp_popIntake (s.withWnc { s.wnc with reasons := r })
  · rfl

theorem replaceOp_popIntake (s : State) : replaceOp (popIntake s) = popIntake (replaceOp s) := by
  simp only [replaceOp, popIntake_keeps]
  split
  · exact endOp_popIntake _ _ s
  · rfl

theorem startOp_popIntake (k : WinchOp) (d : WinchDir) (speed : Nat) (target : Int) (s : State) :
    startOp k d speed target (popIntake s) = popIntake (startOp k d speed target s) := by
  simp only [startOp, popIntake_keeps]
  split <;> rfl

theorem moveChassis_popIntake (c : Chassis) (cause : Cause) (s : State) :
    moveChassis c cause (popIntake s) = popIntake (moveChassis c cause s) :=
  postReport_popIntake _ (s.withCsc { s.csc with chassis := c })

theorem winchHold_popIntake (s : State) : winchHold (popIntake s) = popIntake (winchHold s) := by
  simp only [winchHold, popIntake_keeps]
  split
  · rfl
  · split <;> rfl

theorem winchUnhold_popIntake (s : State) : winchUnhold (popIntake s) = popIntake (winchUnhold s) := by
  simp only [winchUnhold, popIntake_keeps]
  split
  · exact dropReason_popIntake _ s
  · rfl

theorem shiftToIdle_popIntake (s : State) : shiftToIdle (popIntake s) = popIntake (shiftToIdle s) := by
  simp only [shiftToIdle, popIntake_keeps]
  split
  · rfl
  all_goals exact endShift_popIntake _ _ s

theorem enterHold_popIntake (s : State) : enterHold (popIntake s) = popIntake (enterHold s) := by
  have hmove := moveChassis_popIntake .hold .hostRequest
    (s.withCsc { s.csc with hold := some { entry := s.now, modeChange := false } })
  exact (congrArg (fun x => winchHold (driveHold x)) hmove).trans (winchHold_popIntake (driveHold _))

theorem resumeRun_popIntake (s : State) : resumeRun (popIntake s) = popIntake (resumeRun s) := by
  have hmove := moveChassis_popIntake .run .hostRequest (s.withCsc { s.csc with hold := none })
  exact (congrArg winchUnhold hmove).trans (winchUnhold_popIntake _)

theorem releaseCutoff_popIntake (s : State) : releaseCutoff (popIntake s) = popIntake (releaseCutoff s) := by
  have hpost := postReport_popIntake (stageChangeReport .cutoff .shed s.bmn.pub.minVc) (s.withBmn (releasedBmn s.bmn))
  exact (congrArg (fun x => lightsRelease (moveChassis .standby .release x)) hpost).trans
    (congrArg lightsRelease (moveChassis_popIntake .standby .release _))

theorem popIntake_withCsc (c : Csc) (s : State) : (popIntake s).withCsc c = popIntake (s.withCsc c) := rfl
theorem popIntake_withWnc (w : Wnc) (s : State) : (popIntake s).withWnc w = popIntake (s.withWnc w) := rfl
theorem popIntake_withCfg (c : WorkingConfig) (s : State) : (popIntake s).withCfg c = popIntake (s.withCfg c) := rfl
theorem popIntake_withBmn (b : Bmn) (s : State) : (popIntake s).withBmn b = popIntake (s.withBmn b) := rfl
theorem popIntake_withSpg (g : Spg) (s : State) : (popIntake s).withSpg g = popIntake (s.withSpg g) := rfl

theorem followFloors_popIntake (s : State) : followFloors (popIntake s) = popIntake (followFloors s) := by
  simp only [followFloors, popIntake_keeps]
  split <;> rfl

theorem restore_popIntake (strap : PinLevel) (new : WorkingConfig) (s : State) :
    restore strap new (popIntake s) = popIntake (restore strap new s) := by
  have hcheck := limitCheck_popIntake (acceptRestoredEnds new.spg (closeAllLoads
    ((s.withCfg (restoredCfg strap new s)).withBmn (restoredRuns strap s s.bmn))))
  have hlights : ∀ x, lightsRestored (popIntake x) = popIntake (lightsRestored x) := fun _ => rfl
  exact congrArg restartTelemetry ((congrArg (fun x => followFloors (lightsRestored x)) hcheck).trans
    ((congrArg followFloors (hlights _)).trans (followFloors_popIntake _)))

/-! ### The owners that post reports -/

theorem ignoresIntake_setMotionOwner (p : Payload) : IgnoresIntake (setMotionOwner p) := by
  intro s
  have hstart : moveChassis .run .neutralSetpoint (writeSetpoint p (popIntake s)) = popIntake _ :=
    moveChassis_popIntake .run .neutralSetpoint (writeSetpoint p s)
  have hneutral : neutralCheck p (popIntake s) = neutralCheck p s := rfl
  simp only [setMotionOwner, popIntake_keeps, hneutral, hstart]
  (repeat' split) <;> rfl

theorem ignoresIntake_holdOwner : IgnoresIntake holdOwner := by
  intro s
  simp only [holdOwner, popIntake_keeps, enterHold_popIntake]
  split <;> rfl

theorem ignoresIntake_resumeOwner : IgnoresIntake resumeOwner := by
  intro s
  simp only [resumeOwner, popIntake_keeps, resumeRun_popIntake]
  split <;> rfl

theorem ignoresIntake_cutoffReleaseOwner : IgnoresIntake cutoffReleaseOwner := by
  intro s
  have hpasses : releasePasses (popIntake s) = releasePasses s := rfl
  simp only [cutoffReleaseOwner, popIntake_keeps, releaseCutoff_popIntake, hpasses]
  (repeat' split) <;> rfl

theorem runSpool_popIntake (k : WinchOp) (d : WinchDir) (asked : Nat) (s : State) :
    runSpool k d asked (popIntake s) = (popIntake (runSpool k d asked s).1, (runSpool k d asked s).2) := by
  have hrefused : spoolRefused d (popIntake s) = spoolRefused d s := rfl
  simp only [runSpool, popIntake_keeps, hrefused, replaceOp_popIntake, startOp_popIntake]
  split <;> rfl

theorem winchRunMode_popIntake (mode asked : Nat) (s : State) :
    winchRunMode mode asked (popIntake s) = (popIntake (winchRunMode mode asked s).1, (winchRunMode mode asked s).2) := by
  simp only [winchRunMode, popIntake_keeps, runSpool_popIntake, replaceOp_popIntake, popIntake_withWnc]
  (repeat' split) <;> rfl

theorem ignoresIntake_winchRunOwner (p : Payload) : IgnoresIntake (winchRunOwner p) := by
  intro s
  simp only [winchRunOwner, winchRunMode_popIntake]
  rfl

theorem startPull_popIntake (target : Int) (speed : Nat) (s : State) :
    startPull target speed (popIntake s) = popIntake (startPull target speed s) := by
  simp only [startPull, replaceOp_popIntake, popIntake_keeps, endOp_popIntake, startOp_popIntake, popIntake_ite]

theorem ignoresIntake_winchPullOwner (p : Payload) : IgnoresIntake (winchPullOwner p) := by
  intro s
  have htarget : ∀ mm, pullTarget (popIntake s) mm = pullTarget s mm := fun _ => rfl
  simp only [winchPullOwner, popIntake_keeps, htarget, startPull_popIntake]
  split <;> rfl

theorem ignoresIntake_winchSuspendOwner : IgnoresIntake winchSuspendOwner := by
  intro s
  simp only [winchSuspendOwner, popIntake_keeps]
  (repeat' split) <;> rfl

theorem ignoresIntake_winchResumeOwner : IgnoresIntake winchResumeOwner := by
  intro s
  simp only [winchResumeOwner, popIntake_keeps, dropReason_popIntake]
  split <;> rfl

theorem ignoresIntake_winchZeroOwner : IgnoresIntake winchZeroOwner := by
  intro s
  simp only [winchZeroOwner, popIntake_keeps, popIntake_withWnc, limitCheck_popIntake]
  split <;> rfl

theorem ignoresIntake_winchLimitsOwner (p : Payload) : IgnoresIntake (winchLimitsOwner p) := by
  intro s
  simp only [winchLimitsOwner, popIntake_keeps, storeRunning_popIntake, popIntake_withCfg, limitCheck_popIntake]
  (repeat' split) <;> rfl

theorem restoreRefusal_popIntake (strap : PinLevel) (c : ResultCode) (s : State) :
    restoreRefusal strap c (popIntake s) = (popIntake (restoreRefusal strap c s).1, (restoreRefusal strap c s).2) := by
  unfold restoreRefusal
  rw [lockActive_popIntake]
  split <;> rfl

theorem restoreAnswer_popIntake (strap : PinLevel) (new : WorkingConfig) (s : State) :
    restoreAnswer strap new (popIntake s) = (popIntake (restoreAnswer strap new s).1, (restoreAnswer strap new s).2) := by
  simp only [restoreAnswer, restore_popIntake]
  rfl

theorem ignoresIntake_profileRestoreOwner (strap : PinLevel) : IgnoresIntake (profileRestoreOwner strap) := by
  intro s
  simp only [profileRestoreOwner, popIntake_keeps, storeRunning_popIntake, restoreRefusal_popIntake, restoreAnswer_popIntake]
  (repeat' split) <;> rfl

theorem ignoresIntake_profileDefaultsOwner (strap : PinLevel) : IgnoresIntake (profileDefaultsOwner strap) := by
  intro s
  simp only [profileDefaultsOwner, popIntake_keeps, storeRunning_popIntake, restoreRefusal_popIntake, restoreAnswer_popIntake]
  (repeat' split) <;> rfl

theorem resetUnit_popIntake (u : ResetUnit) (s : State) : resetUnit u (popIntake s) = popIntake (resetUnit u s) := by
  cases u with
  | steer =>
    have hidle := shiftToIdle_popIntake (smxUnitReset s)
    have hsmx : smxUnitReset (popIntake s) = popIntake (smxUnitReset s) := rfl
    simp only [resetUnit, spgUnitReset, hsmx, hidle]
    rfl
  | winch =>
    simp only [resetUnit, winchUnitReset, endAnyOp_popIntake]
    rfl
  | drive | lights | battery | link => rfl

theorem ignoresIntake_unitResetOwner (u : ResetUnit) (p : Payload) : IgnoresIntake (unitResetOwner u p) := by
  intro s
  have hrefused : resetRefused u (popIntake s) = resetRefused u s := rfl
  simp only [unitResetOwner, hrefused, resetUnit_popIntake]
  (repeat' split) <;> rfl

/-! ## A taken request through its owner -/

variable {i : Instr} {ty : Byte} {p : Payload} {t u : State} {fields : List Field}

/-- A taken request of a permitted length leaves what its owner leaves of the state from which the frame is gone, and the owner's reply. -/
theorem exec_of_owner (hreq : requestOf i = some (ty, p)) (htakes : Takes ty p s) (hlen : lengthAllowed ty p.length = true)
    (howner : ownerOf i (popIntake s) = (t, fields)) (hu : putReply { type := ty + 0x80#8, fields := fields } t = u) :
    exec i s = .next u := by
  rw [exec_of_request hreq, taking_owner _ htakes hlen, howner, hu]

/-- A taken request whose owner ignores the intake queue leaves what the owner leaves, and LIF answered. -/
theorem exec_of_ignoring (hignores : IgnoresIntake (ownerOf i)) (hreq : requestOf i = some (ty, p)) (htakes : Takes ty p s)
    (hlen : lengthAllowed ty p.length = true) (howner : ownerOf i s = (t, fields)) :
    exec i s = .next { t with lif := answered ty fields t.lif } :=
  exec_of_owner hreq htakes hlen (by rw [hignores s, howner]) rfl

end IgnoresIntake

end Sys2Proof.Machine

namespace Sys2Proof.Machine

/-! ## Closed forms of the winch operations -/

section WinchOps

variable {s : State}

/-- The operation runs into the stop of its direction: it stands there, or a duty in that direction takes it there. -/
def Wnc.meetsStop (c : WncCfg) (w : Wnc) : Prop :=
  (w.dir = .inward ∧ w.duty ≤ 0 ∧ w.position ≤ c.inner) ∨ (w.dir = .outward ∧ 0 ≤ w.duty ∧ c.outer ≤ w.position)

/-- A duty of the direction before still runs into the stop behind the operation. -/
def Wnc.overrunsStop (c : WncCfg) (w : Wnc) : Prop :=
  (w.dir = .outward ∧ w.duty < 0 ∧ w.position ≤ c.inner) ∨ (w.dir = .inward ∧ 0 < w.duty ∧ c.outer ≤ w.position)

/-- The direction whose stop the limit check looks at: that of the duty, at rest that of the operation. -/
theorem limitCheck_driving (hv : s.wnc.valid = true) (hd : s.wnc.state.driving = true) :
    limitCheck s =
      match dutyDir s.wnc.duty with
      | some d =>
        if atStop s.cfg.wnc d s.wnc.position then
          if s.wnc.dir = d then endOp .limit .braked s else s.withWnc { s.wnc with duty := 0 }
        else s
      | none => if atStop s.cfg.wnc s.wnc.dir s.wnc.position then endOp .limit .braked s else s := by
  have hcheck : (s.wnc.valid && s.wnc.state.driving) = true := by rw [hv, hd, Bool.and_self]
  exact (if_pos hcheck).trans rfl

theorem dutyDir_neg {d : Int} (h : d < 0) : dutyDir d = some .inward := if_pos h

theorem dutyDir_pos {d : Int} (h : 0 < d) : dutyDir d = some .outward := by
  rw [dutyDir, if_neg (by omega), if_pos h]

theorem dutyDir_zero : dutyDir 0 = none := rfl

theorem atStop_inward {c : WncCfg} {pos : Int} : atStop c .inward pos = true ↔ pos ≤ c.inner := decide_eq_true_iff

theorem atStop_outward {c : WncCfg} {pos : Int} : atStop c .outward pos = true ↔ c.outer ≤ pos := decide_eq_true_iff

/-- An operation that runs into its stop ends LIMIT. -/
theorem limitCheck_stops (hv : s.wnc.valid = true) (hd : s.wnc.state.driving = true) (h : s.wnc.meetsStop s.cfg.wnc) :
    limitCheck s = endOp .limit .braked s := by
  rw [limitCheck_driving hv hd]
  rcases h with ⟨hdir, hduty, hpos⟩ | ⟨hdir, hduty, hpos⟩
  · rcases Int.lt_or_eq_of_le hduty with hneg | hzero
    · simp only [dutyDir_neg hneg, hdir, if_pos (atStop_inward.2 hpos), if_true]
    · simp only [hzero, dutyDir_zero, hdir, if_pos (atStop_inward.2 hpos)]
  · rcases Int.lt_or_eq_of_le hduty with hneg | hzero
    · simp only [dutyDir_pos hneg, hdir, if_pos (atStop_outward.2 hpos), if_true]
    · simp only [← hzero, dutyDir_zero, hdir, if_pos (atStop_outward.2 hpos)]

/-- A duty that still runs into the stop behind the operation becomes 0, and the operation goes on. -/
theorem limitCheck_oldDuty (hv : s.wnc.valid = true) (hd : s.wnc.state.driving = true) (h : s.wnc.overrunsStop s.cfg.wnc) :
    limitCheck s = s.withWnc { s.wnc with duty := 0 } := by
  rw [limitCheck_driving hv hd]
  rcases h with ⟨hdir, hduty, hpos⟩ | ⟨hdir, hduty, hpos⟩
  · simp only [dutyDir_neg hduty, hdir, if_pos (atStop_inward.2 hpos), reduceCtorEq, if_false]
  · simp only [dutyDir_pos hduty, hdir, if_pos (atStop_outward.2 hpos), reduceCtorEq, if_false]

/-- Without a valid position, without a driving operation, and away from the stops the limit check changes nothing. -/
theorem limitCheck_same (h : s.wnc.valid = false ∨ s.wnc.state.driving = false ∨
    (¬s.wnc.meetsStop s.cfg.wnc ∧ ¬s.wnc.overrunsStop s.cfg.wnc)) : limitCheck s = s := by
  by_cases hvd : s.wnc.valid = true ∧ s.wnc.state.driving = true
  · obtain ⟨hv, hd⟩ := hvd
    obtain ⟨hmeets, hover⟩ : ¬s.wnc.meetsStop s.cfg.wnc ∧ ¬s.wnc.overrunsStop s.cfg.wnc := by
      simpa [hv, hd] using h
    unfold Wnc.meetsStop at hmeets
    unfold Wnc.overrunsStop at hover
    rw [limitCheck_driving hv hd]
    cases hdir : s.wnc.dir <;> simp only [hdir, reduceCtorEq, true_and, false_and, or_false, false_or] at hmeets hover
    · rcases lt_trichotomy s.wnc.duty 0 with hduty | hduty | hduty
      · simp only [dutyDir_neg hduty, atStop_inward, if_neg (show ¬s.wnc.position ≤ s.cfg.wnc.inner by omega)]
      · simp only [hduty, dutyDir_zero, atStop_inward, if_neg (show ¬s.wnc.position ≤ s.cfg.wnc.inner by omega)]
      · simp only [dutyDir_pos hduty, atStop_outward, if_neg (show ¬s.cfg.wnc.outer ≤ s.wnc.position by omega)]
    · rcases lt_trichotomy s.wnc.duty 0 with hduty | hduty | hduty
      · simp only [dutyDir_neg hduty, atStop_inward, if_neg (show ¬s.wnc.position ≤ s.cfg.wnc.inner by omega)]
      · simp only [hduty, dutyDir_zero, atStop_outward, if_neg (show ¬s.cfg.wnc.outer ≤ s.wnc.position by omega)]
      · simp only [dutyDir_pos hduty, atStop_outward, if_neg (show ¬s.cfg.wnc.outer ≤ s.wnc.position by omega)]
  · exact if_neg fun h => hvd (by simpa using h)

/-! ### Restoring an operation -/

/-- The pull of an operation is at its target or past it. -/
def Wnc.pullDone (k : WinchOp) (w : Wnc) : Prop :=
  k = .pull ∧ ((w.dir = .inward ∧ w.position ≤ w.target) ∨ (w.dir = .outward ∧ w.target ≤ w.position))

/-- An operation at rest stands at the stop it runs into. -/
def Wnc.standsAtStop (c : WncCfg) (w : Wnc) : Prop :=
  w.valid = true ∧ ((w.dir = .inward ∧ w.position ≤ c.inner) ∨ (w.dir = .outward ∧ c.outer ≤ w.position))

theorem pullReached_iff (w : Wnc) :
    pullReached w = true ↔ (w.dir = .inward ∧ w.position ≤ w.target) ∨ (w.dir = .outward ∧ w.target ≤ w.position) := by
  cases h : w.dir <;> simp [pullReached, h]

theorem driveState_driving (k : WinchOp) : k.driveState.driving = true := by cases k <;> rfl

/-- An operation restored: driving from duty 0. -/
def restored (k : WinchOp) (s : State) : State :=
  s.withWnc { s.wnc with state := k.driveState, duty := 0, stall := none }

/-- An operation that ends as it is restored: the winch BRAKED, no reason in the report. -/
theorem endOp_restored (r : WinchResult) (k : WinchOp) (s : State) :
    endOp r .braked (restored k s) =
      { s with
        wnc := { s.wnc with
          state := .braked, duty := 0, op := none, reasons := noReasons, stall := none, last := r }
        lif := posted
          { type := 0xE3, fields := [.u8 r.code, .i32 (positionMm s), .u8 s.wnc.valid.toNat, .u8 0, .u8 0, .u8 0] } s.lif } := by
  rw [endOp_eq]
  cases k <;> rfl

variable {k : WinchOp}

theorem restoreOp_of_op (hop : s.wnc.op = some k) :
    restoreOp s =
      if k = .pull && pullReached s.wnc then endOp .reached .braked (restored k s) else limitCheck (restored k s) := by
  unfold restoreOp
  dsimp only
  split
  · next hnone => cases hop.symm.trans hnone
  · next hsome =>
    cases hop.symm.trans hsome
    rfl

/-- A restored pull at its target or past it ends REACHED. -/
theorem restoreOp_reached (hop : s.wnc.op = some k) (h : s.wnc.pullDone k) :
    restoreOp s = endOp .reached .braked (restored k s) := by
  obtain ⟨hk, hreached⟩ := h
  rw [restoreOp_of_op hop, if_pos (by simpa [hk] using (pullReached_iff s.wnc).2 hreached)]

theorem restoreOp_not_reached (hop : s.wnc.op = some k) (h : ¬s.wnc.pullDone k) : restoreOp s = limitCheck (restored k s) := by
  rw [restoreOp_of_op hop, if_neg]
  rw [Bool.and_eq_true, decide_eq_true_iff, pullReached_iff]
  exact h

/-- A restored operation at its stop ends LIMIT. -/
theorem restoreOp_limit (hop : s.wnc.op = some k) (h : ¬s.wnc.pullDone k) (hstop : s.wnc.standsAtStop s.cfg.wnc) :
    restoreOp s = endOp .limit .braked (restored k s) := by
  obtain ⟨hv, hstop⟩ := hstop
  rw [restoreOp_not_reached hop h]
  refine limitCheck_stops hv (driveState_driving k) ?_
  rcases hstop with ⟨hdir, hpos⟩ | ⟨hdir, hpos⟩
  · exact .inl ⟨hdir, le_refl 0, hpos⟩
  · exact .inr ⟨hdir, le_refl 0, hpos⟩

/-- Any other restored operation runs on from duty 0. -/
theorem restoreOp_runs (hop : s.wnc.op = some k) (h : ¬s.wnc.pullDone k) (hstop : ¬s.wnc.standsAtStop s.cfg.wnc) :
    restoreOp s = restored k s := by
  rw [restoreOp_not_reached hop h]
  apply limitCheck_same
  cases hv : s.wnc.valid with
  | false => exact .inl hv
  | true =>
    refine .inr (.inr ⟨fun hmeets => hstop ⟨hv, ?_⟩, ?_⟩)
    · rcases hmeets with ⟨hdir, -, hpos⟩ | ⟨hdir, -, hpos⟩
      · exact .inl ⟨hdir, hpos⟩
      · exact .inr ⟨hdir, hpos⟩
    · rintro (⟨-, hduty, -⟩ | ⟨-, hduty, -⟩) <;> exact absurd hduty (lt_irrefl 0)

/-- The part with no reason left that suspends the winch. -/
def freed (s : State) : State := s.withWnc { s.wnc with reasons := noReasons }

/-- A suspended winch whose last reason goes is restored. -/
theorem dropReason_last (hst : s.wnc.state = .suspended) : dropReason noReasons s = restoreOp (freed s) :=
  if_pos (by
    rw [hst]
    rfl)

/-- A winch that is not suspended, or has other reasons left, is not restored. -/
theorem dropReason_other {r : Reasons} (h : s.wnc.state ≠ .suspended ∨ r.isEmpty = false) :
    dropReason r s = s.withWnc { s.wnc with reasons := r } := by
  rcases h with h | h <;> simp [dropReason, h]

/-! ### The position account -/

@[simp] theorem rest_position (w : Wnc) (st : WinchState) : (w.rest st).position = w.position := rfl

@[simp] theorem limitCheck_position (s : State) : (limitCheck s).wnc.position = s.wnc.position := by
  rcases limitCheck_cases s with h | ⟨-, -, h | h⟩ <;> rw [h]
  · simp
  · rfl

@[simp] theorem restoreOp_position (s : State) : (restoreOp s).wnc.position = s.wnc.position := by
  unfold restoreOp
  dsimp only
  split
  · rfl
  · split <;> simp

@[simp] theorem dropReason_position (r : Reasons) (s : State) : (dropReason r s).wnc.position = s.wnc.position := by
  unfold dropReason
  dsimp only
  split <;> simp

@[simp] theorem winchUnhold_position (s : State) : (winchUnhold s).wnc.position = s.wnc.position := by
  unfold winchUnhold
  split <;> simp

end WinchOps

end Sys2Proof.Machine

namespace Sys2Proof.Machine

/-! ## The link counts -/

section LinkCounts

variable {s : State} {f : Byte}

theorem getLinkCountsOwner_ok (hf : f.toNat ≤ 1) (s : State) :
    getLinkCountsOwner [f] s = (if f.toNat = 1 then linkUnitReset s else s, rc .ok :: countFields s.lif.counts) :=
  if_neg (not_lt.2 hf)

theorem getLinkCountsOwner_badValue (hf : 2 ≤ f.toNat) (s : State) : getLinkCountsOwner [f] s = (s, [rc .badValue]) := if_pos hf

end LinkCounts

/-- Settles O14. -/
theorem linkCountsAreReadAndCleared : Obligations.LinkCountsAreReadAndCleared := by
  refine ⟨fun f s htakes => ⟨fun hf => ?_, fun hf => ?_⟩, fun s htakes => ?_⟩
  · refine exec_of_owner rfl htakes rfl (getLinkCountsOwner_ok hf _) ?_
    by_cases hclear : f.toNat = 1
    · rw [if_pos hclear, if_pos hclear]
      rfl
    · rw [if_neg hclear, if_neg hclear]
      rfl
  · exact exec_of_owner rfl htakes rfl (getLinkCountsOwner_badValue hf _) rfl
  · exact exec_of_ignoring (i := .unitResetLink [5]) (ignoresIntake_unitResetOwner .link [5]) rfl htakes rfl rfl

/-! ## SET_MOTION -/

section SetMotion

variable {s : State} {p : Payload}

/-- The code of a written SET_MOTION: CLAMPED unless both fields were in range. -/
def motionCode (p : Payload) : ResultCode := if motionClamped p then .clamped else .ok

theorem motionCode_code (p : Payload) :
    (motionCode p).code =
      if max (-1000) (min 1000 (i16At p 0)) = i16At p 0 ∧ max (-1000) (min 1000 (i16At p 2)) = i16At p 2 then 0 else 1 := by
  have hiff : motionClamped p = true ↔
      ¬(max (-1000) (min 1000 (i16At p 0)) = i16At p 0 ∧ max (-1000) (min 1000 (i16At p 2)) = i16At p 2) := by
    unfold motionClamped askedThrottle askedSteer clampInt
    rw [Bool.or_eq_true, decide_eq_true_iff, decide_eq_true_iff]
    tauto
  unfold motionCode
  by_cases h : motionClamped p = true
  · rw [if_pos h, if_neg (hiff.1 h)]
    rfl
  · rw [if_neg h, if_pos (not_not.1 (mt hiff.2 h))]
    rfl

theorem neutralCheck_iff :
    neutralCheck p s = true ↔ (askedThrottle p).natAbs ≤ s.cfg.drc.neutral ∧ askedThrottle p = i16At p 0 := by
  simp [neutralCheck]

/-- The neutral check starts RUN. -/
theorem setMotionOwner_starts (hc : s.csc.chassis = .standby ∨ s.csc.chassis = .failsafe) (hn : neutralCheck p s = true) :
    setMotionOwner p s = (moveChassis .run .neutralSetpoint (writeSetpoint p s), [rc (motionCode p), .u8 1]) := by
  rcases hc with hc | hc <;> simp [setMotionOwner, hc, hn, chassisReply, motionCode, Chassis.code]

theorem setMotionOwner_refused (hc : s.csc.chassis = .standby ∨ s.csc.chassis = .failsafe) (hn : neutralCheck p s = false) :
    setMotionOwner p s = (s, [rc .neutral, .u8 s.csc.chassis.code]) := by
  rcases hc with hc | hc <;> simp [setMotionOwner, hc, hn, chassisReply]

theorem setMotionOwner_writes (hc : s.csc.chassis = .run ∨ s.csc.chassis = .hold) :
    setMotionOwner p s = (writeSetpoint p s, [rc (motionCode p), .u8 s.csc.chassis.code]) := by
  rcases hc with hc | hc <;> simp [setMotionOwner, hc, chassisReply, motionCode]

theorem setMotionOwner_cutoff (hc : s.csc.chassis = .cutoff) : setMotionOwner p s = (s, [rc .wrongState, .u8 4]) := by
  simp [setMotionOwner, hc, chassisReply, Chassis.code]

theorem setMotion_length (hp : p.length = 4) : lengthAllowed 0x01 p.length = true := by
  rw [hp]
  rfl

end SetMotion

/-- Settles O16, by the chassis state and the neutral check. -/
theorem setMotionByChassisState : Obligations.SetMotionByChassisState := by
  intro p s htakes hp
  have hlen := setMotion_length hp
  have hexec {t : State} {fields : List Field} (howner : setMotionOwner p s = (t, fields)) :=
    exec_of_ignoring (i := .setMotion p) (ignoresIntake_setMotionOwner p) rfl htakes hlen howner
  refine ⟨fun hc hn hexact => ?starts, fun hc hn => ?refused, fun hc => ?writes, fun hc => ?cutoff⟩
  case starts =>
    rw [hexec (setMotionOwner_starts hc (neutralCheck_iff.2 ⟨hn, hexact⟩)), moveChassis_eq, ← motionCode_code]
    rfl
  case refused =>
    have hfails : neutralCheck p s = false := by
      rw [Bool.eq_false_iff, ne_eq, neutralCheck_iff]
      rintro ⟨hle, hexact⟩
      exact hn.elim (fun h => absurd hle (not_le.2 h)) (fun h => h hexact)
    exact hexec (setMotionOwner_refused hc hfails)
  case writes =>
    rw [hexec (setMotionOwner_writes hc), ← motionCode_code]
    rfl
  case cutoff => exact hexec (setMotionOwner_cutoff hc)

/-! ## HOLD and RESUME -/

section Hold

variable {s : State}

theorem holdOwner_run (hc : s.csc.chassis = .run) : holdOwner s = (enterHold s, [rc .ok, .u8 2]) := by
  simp [holdOwner, hc, chassisReply, enterHold, Chassis.code]

theorem holdOwner_hold (hc : s.csc.chassis = .hold) : holdOwner s = (s, [rc .ok, .u8 2]) := by
  simp [holdOwner, hc, chassisReply, Chassis.code]

theorem holdOwner_refused (hc : s.csc.chassis = .standby ∨ s.csc.chassis = .failsafe ∨ s.csc.chassis = .cutoff) :
    holdOwner s = (s, [rc .wrongState, .u8 s.csc.chassis.code]) := by
  rcases hc with hc | hc | hc <;> simp [holdOwner, hc, chassisReply]

/-- What the winch record becomes at the transition from RUN to HOLD. -/
theorem winchHold_eq (s : State) :
    winchHold s =
      { s with wnc :=
        if s.wnc.state.driving then
          { s.wnc with
            state := .suspended, duty := 0, stall := none, reasons := { host := false, hold := true, budget := false } }
        else if s.wnc.state = .suspended then { s.wnc with reasons := { s.wnc.reasons with hold := true } }
        else s.wnc } := by
  unfold winchHold
  dsimp only
  split
  · rfl
  · split <;> rfl

/-- Entry into HOLD, block by block. -/
theorem enterHold_eq (s : State) :
    enterHold s = { s with
      csc := { s.csc with chassis := .hold, hold := some { entry := s.now, modeChange := false } }
      drc := { s.drc with
        df := { s.drc.df with target := 0, output := 0, brake := if s.drc.df.fault = .normal then 1000 else 0 }
        dr := { s.drc.dr with target := 0, output := 0, brake := if s.drc.dr.fault = .normal then 1000 else 0 } }
      wnc :=
        if s.wnc.state.driving then
          { s.wnc with
            state := .suspended, duty := 0, stall := none, reasons := { host := false, hold := true, budget := false } }
        else if s.wnc.state = .suspended then { s.wnc with reasons := { s.wnc.reasons with hold := true } }
        else s.wnc
      lif := posted (stateChangeReport s.csc.chassis .hold .hostRequest) s.lif } := by
  rw [enterHold, winchHold_eq, moveChassis_eq]
  rfl

end Hold

/-- Settles O17, by the chassis state. -/
theorem holdParksTheVehicle : Obligations.HoldParksTheVehicle := by
  have hexec {s t : State} {fields : List Field} (htakes : Takes 0x02 [] s) (howner : holdOwner s = (t, fields)) :=
    exec_of_ignoring (i := .hold []) ignoresIntake_holdOwner rfl htakes rfl howner
  refine ⟨fun s htakes hc => ?_, fun s htakes hc => hexec htakes (holdOwner_hold hc),
    fun s htakes hc => hexec htakes (holdOwner_refused hc), fun p s htakes hp hc => ?_⟩
  · rw [hexec htakes (holdOwner_run hc), enterHold_eq, hc]
    rfl
  · exact ⟨_, exec_of_ignoring (i := .setMotion p) (ignoresIntake_setMotionOwner p) rfl htakes (setMotion_length hp)
      (setMotionOwner_writes (.inr hc)), hc, rfl, rfl⟩

section Resume

variable {s : State} {k : WinchOp}

theorem resumeOwner_hold (hc : s.csc.chassis = .hold) : resumeOwner s = (resumeRun s, [rc .ok, .u8 1]) := by
  simp [resumeOwner, hc, chassisReply, resumeRun, Chassis.code]

theorem resumeOwner_refused (hc : s.csc.chassis ≠ .hold) : resumeOwner s = (s, [rc .wrongState, .u8 s.csc.chassis.code]) := by
  unfold resumeOwner
  split
  · contradiction
  all_goals rfl

/-- The state at the transition from HOLD to RUN, before the winch loses its reason. -/
def backInRun (s : State) : State :=
  { s with
    csc := { s.csc with chassis := .run, hold := none }
    lif := posted (stateChangeReport s.csc.chassis .run .hostRequest) s.lif }

theorem resumeRun_eq (s : State) : resumeRun s = winchUnhold (backInRun s) := by
  rw [resumeRun, moveChassis_eq]
  rfl

/-- A winch that is not held, or is held by more than HOLD, is not restored. -/
theorem winchUnhold_waits (h : s.wnc.state ≠ .suspended ∨ s.wnc.reasons.host = true ∨ s.wnc.reasons.budget = true) :
    winchUnhold s =
      { s with wnc := if s.wnc.state = .suspended then { s.wnc with reasons := { s.wnc.reasons with hold := false } } else s.wnc } := by
  unfold winchUnhold
  split
  · next hst =>
    rw [dropReason_other (.inr ?_)]
    · rfl
    · rcases h with h | h | h
      · exact absurd hst h
      · simp [Reasons.isEmpty, h]
      · simp [Reasons.isEmpty, h]
  · rfl

/-- A winch that HOLD alone suspends is restored. -/
theorem winchUnhold_restores (hst : s.wnc.state = .suspended) (hhost : s.wnc.reasons.host = false)
    (hbudget : s.wnc.reasons.budget = false) :
    winchUnhold s = restoreOp (freed s) := by
  have hreasons : { s.wnc.reasons with hold := false } = noReasons := by
    simp only [noReasons, hhost, hbudget]
  rw [winchUnhold, if_pos hst, hreasons, dropReason_last hst]

end Resume

/-- Settles O18: a winch that waits for other reasons goes on waiting; one that HOLD alone suspends is restored, and ends, or runs on. -/
theorem resumeReturnsToRun : Obligations.ResumeReturnsToRun := by
  have hexec {s t : State} {fields : List Field} (htakes : Takes 0x03 [] s) (howner : resumeOwner s = (t, fields)) :=
    exec_of_ignoring (i := .resume []) ignoresIntake_resumeOwner rfl htakes rfl howner
  refine ⟨fun s htakes hc h => ?waits, fun k s htakes hc hst hhost hbudget hop => ?restores, fun s htakes hc => ?frame,
    fun s htakes hc => hexec htakes (resumeOwner_refused hc)⟩
  case waits =>
    rw [hexec htakes (resumeOwner_hold hc), resumeRun_eq, winchUnhold_waits (s := backInRun s) h, backInRun, hc]
    rfl
  case restores =>
    have hrun := hexec htakes (resumeOwner_hold hc)
    rw [resumeRun_eq, winchUnhold_restores (s := backInRun s) hst hhost hbudget] at hrun
    have hreport : (backInRun s).lif = posted { type := 0xE0, fields := [.u8 2, .u8 1, .u8 0] } s.lif := by
      rw [backInRun, hc]
      rfl
    refine ⟨fun hreached => ?_, fun hreached hstop => ?_, fun hreached hstop => ?_⟩
    · rw [hrun, restoreOp_reached (s := freed (backInRun s)) hop hreached, endOp_restored, ← hreport]
      rfl
    · rw [hrun, restoreOp_limit (s := freed (backInRun s)) hop hreached hstop, endOp_restored, ← hreport]
      rfl
    · rw [hrun, restoreOp_runs (s := freed (backInRun s)) hop hreached hstop, ← hreport]
      rfl
  case frame =>
    refine ⟨_, hexec htakes (resumeOwner_hold hc), ?_⟩
    rw [resumeRun_eq]
    simp [backInRun]

/-! ## CUTOFF_RELEASE -/

section Release

variable {s : State}

theorem cutoffReleaseOwner_accepts (hc : s.csc.chassis = .cutoff) (h : releaseLevel s ≤ s.bmn.pub.minVc) :
    cutoffReleaseOwner s = (releaseCutoff s, releaseReply .ok (releaseCutoff s)) := by
  simp [cutoffReleaseOwner, hc, releasePasses, h]

theorem cutoffReleaseOwner_refuses (hc : s.csc.chassis = .cutoff) (h : s.bmn.pub.minVc < releaseLevel s) :
    cutoffReleaseOwner s = (s, releaseReply .lowBattery s) := by
  simp [cutoffReleaseOwner, hc, releasePasses, h]

theorem cutoffReleaseOwner_wrongState (hc : s.csc.chassis ≠ .cutoff) :
    cutoffReleaseOwner s = (s, releaseReply .wrongState s) := by
  unfold cutoffReleaseOwner
  split
  · contradiction
  all_goals rfl

/-- An accepted release, block by block. -/
theorem releaseCutoff_eq (s : State) :
    releaseCutoff s = { s with
      csc := { s.csc with chassis := .standby }
      bmn := releasedBmn s.bmn
      lcu := { chans := Vector.ofFn fun k : Fin 8 =>
        if s.lcu.chans[k].forcedOff then { s.lcu.chans[k] with forcedOff := false, restart := true } else s.lcu.chans[k] }
      lif := posted (stateChangeReport s.csc.chassis .standby .release)
        (posted (stageChangeReport .cutoff .shed s.bmn.pub.minVc) s.lif) } := by
  rw [releaseCutoff, moveChassis_eq, postReport_eq]
  rfl

end Release

/-- Settles O19, by the comparison with the release level. -/
theorem cutoffReleaseChecksTheCells : Obligations.CutoffReleaseChecksTheCells := by
  intro s htakes
  have hexec {t : State} {fields : List Field} (howner : cutoffReleaseOwner s = (t, fields)) :=
    exec_of_ignoring (i := .cutoffRelease []) ignoresIntake_cutoffReleaseOwner rfl htakes rfl howner
  refine ⟨fun hc h => ?_, fun hc h => ?_, fun hc => hexec (cutoffReleaseOwner_wrongState hc)⟩
  · rw [hexec (cutoffReleaseOwner_accepts hc h), releaseCutoff_eq, hc]
    rfl
  · rw [hexec (cutoffReleaseOwner_refuses hc h), releaseReply, hc]
    rfl

end Sys2Proof.Machine

namespace Sys2Proof.Machine

/-! ## WINCH_RUN and WINCH_PULL -/

section Replacing

variable {s : State} {k : WinchOp}

/-- A taken WINCH_RUN or WINCH_PULL cancels a pull and a suspended operation. -/
abbrev Wnc.isCancelled (w : Wnc) : Prop := w.state = .pull ∨ w.state = .suspended

/-- The winch record after the operation has been replaced, as far as the new one keeps it. -/
def replacedWnc (w : Wnc) : Wnc := if w.isCancelled then { w with last := .cancelled, duty := 0 } else w

/-- LIF after the operation has been replaced. -/
def replacedLif (s : State) : Lif := if s.wnc.isCancelled then posted (winchEndReport .cancelled s) s.lif else s.lif

theorem replacedWnc_target (w : Wnc) : (replacedWnc w).target = w.target := by
  unfold replacedWnc
  split <;> rfl

theorem replaceOp_cancels (h : s.wnc.isCancelled) :
    replaceOp s =
      { s with
        wnc := { replacedWnc s.wnc with state := .braked, op := none, reasons := noReasons, stall := none }
        lif := replacedLif s } := by
  rw [replaceOp, if_pos h, endOp_eq, replacedWnc, if_pos h, replacedLif, if_pos h]
  rfl

theorem replaceOp_silent (h : ¬s.wnc.isCancelled) :
    replaceOp s =
      { s with wnc := { replacedWnc s.wnc with reasons := noReasons, stall := none }, lif := replacedLif s } := by
  rw [replaceOp, if_neg h, replacedWnc, if_neg h, replacedLif, if_neg h]
  rfl

/-- A new operation takes the place of the old one and runs. -/
theorem startOp_replaceOp_runs (d : WinchDir) (v : Nat) (target : Int) (hc : s.csc.chassis ≠ .hold) :
    startOp k d v target (replaceOp s) =
      { s with
        wnc := { replacedWnc s.wnc with
          state := k.driveState, op := some k, dir := d, speed := v, target := target, reasons := noReasons, stall := none }
        lif := replacedLif s } := by
  by_cases h : s.wnc.isCancelled
  · rw [replaceOp_cancels h]
    exact if_neg hc
  · rw [replaceOp_silent h]
    exact if_neg hc

/-- In HOLD it waits, suspended with the reason HOLD. -/
theorem startOp_replaceOp_holds (d : WinchDir) (v : Nat) (target : Int) (hc : s.csc.chassis = .hold) :
    startOp k d v target (replaceOp s) =
      { s with
        wnc := { replacedWnc s.wnc with
          state := .suspended, duty := 0, op := some k, dir := d, speed := v, target := target, stall := none
          reasons := { host := false, hold := true, budget := false } }
        lif := replacedLif s } := by
  by_cases h : s.wnc.isCancelled
  · rw [replaceOp_cancels h]
    exact if_pos hc
  · rw [replaceOp_silent h]
    exact if_pos hc

/-- BRAKE and FREE take the place of an operation. -/
theorem rest_replaceOp (st : WinchState) :
    (replaceOp s).withWnc ((replaceOp s).wnc.rest st) =
      { s with
        wnc := { replacedWnc s.wnc with state := st, duty := 0, op := none, reasons := noReasons, stall := none }
        lif := replacedLif s } := by
  by_cases h : s.wnc.isCancelled
  · rw [replaceOp_cancels h]
    rfl
  · rw [replaceOp_silent h]
    rfl

@[simp] theorem replaceOp_position (s : State) : (replaceOp s).wnc.position = s.wnc.position := by
  unfold replaceOp
  split <;> simp

@[simp] theorem replaceOp_target (s : State) : (replaceOp s).wnc.target = s.wnc.target := by
  unfold replaceOp
  split
  · rw [endOp_wnc]
    rfl
  · rfl

end Replacing

section WinchRun

variable {s : State} {mode asked : Nat}

theorem winchRunMode_badValue (h : 4 ≤ mode) : winchRunMode mode asked s = (s, .badValue) := if_pos h

theorem winchRunMode_refused (h : mode ≤ 3) (hc : runModeAllowed mode s.csc.chassis = false) :
    winchRunMode mode asked s = (s, .wrongState) := by
  simp [winchRunMode, not_lt.2 h, hc]

/-- The modes 0 and 1 start a spool. -/
theorem winchRunMode_spool (h : mode ≤ 1) (hc : s.csc.chassis = .run ∨ s.csc.chassis = .hold) :
    winchRunMode mode asked s =
      runSpool (if mode = 0 then .spoolIn else .spoolOut) (if mode = 0 then .inward else .outward) asked s := by
  have hallowed : runModeAllowed mode s.csc.chassis = true := by
    rcases hc with hc | hc <;> rw [hc] <;> rfl
  have hmode : mode = 0 ∨ mode = 1 := by omega
  rcases hmode with rfl | rfl <;> simp [winchRunMode, hallowed]

/-- The modes 2 and 3 brake and free the winch. -/
theorem winchRunMode_rests (h : mode = 2 ∨ mode = 3) (hc : runModeAllowed mode s.csc.chassis = true) :
    winchRunMode mode asked s =
      ((replaceOp s).withWnc ((replaceOp s).wnc.rest (if mode = 2 then .braked else .free)), .ok) := by
  rcases h with rfl | rfl <;> simp [winchRunMode, hc]

/-- A spool stands at the stop that it would run into. -/
abbrev spoolAtStop (mode : Nat) (s : State) : Prop :=
  s.wnc.valid = true ∧ ((mode = 0 ∧ s.wnc.position ≤ s.cfg.wnc.inner) ∨ (mode = 1 ∧ s.cfg.wnc.outer ≤ s.wnc.position))

theorem spoolRefused_iff (h : mode ≤ 1) :
    spoolRefused (if mode = 0 then .inward else .outward) s = true ↔ spoolAtStop mode s := by
  have hmode : mode = 0 ∨ mode = 1 := by omega
  rcases hmode with rfl | rfl <;> simp [spoolRefused, spoolAtStop, atStop]

theorem spoolSpeed_eq (valid : Bool) (asked : Nat) :
    spoolSpeed valid asked = max 1 (min asked (if valid then 1000 else 300)) := by
  cases valid <;> simp [spoolSpeed]
  omega

theorem runSpool_refused {k : WinchOp} {d : WinchDir} (h : spoolRefused d s = true) : runSpool k d asked s = (s, .wrongState) :=
  if_pos h

theorem runSpool_starts {k : WinchOp} {d : WinchDir} (h : spoolRefused d s = false) :
    runSpool k d asked s =
      (startOp k d (spoolSpeed s.wnc.valid asked) (replacedWnc s.wnc).target (replaceOp s),
        if spoolSpeed s.wnc.valid asked = asked then .ok else .clamped) := by
  simp [runSpool, h, replacedWnc_target]

theorem okOrClamped_code (c : Prop) [Decidable c] :
    (if c then ResultCode.ok else .clamped).code = if c then 0 else 1 := by split <;> rfl

/-- The state code of a winch that drives is that of its operation. -/
theorem winchCode_driving {k : WinchOp} (h : s.wnc.state = k.driveState) : winchCode s = k.driveState.code := by
  rw [winchCode, h, if_neg]
  cases k <;> simp [WinchOp.driveState]

/-- Outside CUTOFF the code is that of the record's state. -/
theorem winchCode_of_ne (h : s.csc.chassis ≠ .cutoff) : winchCode s = s.wnc.state.code := if_neg fun hcut => h hcut.2

end WinchRun

/-- Settles O37: the refusals in their order, the start of a spool in RUN and in HOLD, and BRAKE and FREE. -/
theorem winchRunReplacesTheOperation : Obligations.WinchRunReplacesTheOperation := by
  intro p s htakes hp
  have hlen : lengthAllowed 0x20 p.length = true := by rw [hp]; rfl
  have hexec {t u : State} {c : ResultCode} (hmode : winchRunMode (u8At p 0) (u16At p 1) s = (t, c))
      (hu : { t with lif := answered 0x20 (winchReply c t) t.lif } = u) : exec (.winchRun p) s = .next u := by
    rw [← hu]
    exact exec_of_ignoring (i := .winchRun p) (ignoresIntake_winchRunOwner p) rfl htakes hlen
      (by simp only [ownerOf, winchRunOwner, hmode])
  have hfree (hstop : ¬spoolAtStop (u8At p 0) s) (h : u8At p 0 ≤ 1) :
      spoolRefused (if u8At p 0 = 0 then .inward else .outward) s = false := by
    rw [Bool.eq_false_iff, ne_eq, spoolRefused_iff h]
    exact hstop
  refine ⟨fun h => hexec (winchRunMode_badValue h) rfl, fun h hc => hexec (winchRunMode_refused h ?notAllowed) rfl,
    fun h hc hstop => hexec ((winchRunMode_spool h hc).trans (runSpool_refused ((spoolRefused_iff h).2 hstop))) rfl,
    fun h hc hstop => hexec ((winchRunMode_spool h (.inl hc)).trans (runSpool_starts (hfree hstop h))) ?runs,
    fun h hc hstop => hexec ((winchRunMode_spool h (.inr hc)).trans (runSpool_starts (hfree hstop h))) ?holds,
    fun h hc => hexec (winchRunMode_rests h ?allowed) ?rests⟩
  case notAllowed =>
    rcases hc with hc | ⟨hc, hm⟩ | ⟨hc, hm⟩
    · rw [hc]
      rfl
    · simp [hc, runModeAllowed, hm]
    · simp [hc, runModeAllowed, hm]
  case runs =>
    have hchassis : s.csc.chassis ≠ .hold := by simp [hc]
    rw [startOp_replaceOp_runs _ _ _ hchassis, winchReply, winchCode_driving rfl, rc, okOrClamped_code, spoolSpeed_eq]
    rfl
  case holds =>
    rw [startOp_replaceOp_holds _ _ _ hc, winchReply, rc, okOrClamped_code, spoolSpeed_eq]
    rfl
  case allowed =>
    rcases hc with hc | hc | hc | ⟨hc, hm⟩
    · rw [hc]
      rfl
    · rw [hc]
      rfl
    · rw [hc]
      rcases h with h | h <;> rw [h] <;> rfl
    · rw [hc, hm]
      rfl
  case rests =>
    have hchassis : s.csc.chassis ≠ .cutoff := by
      rcases hc with hc | hc | hc | ⟨hc, -⟩ <;> simp [hc]
    rw [rest_replaceOp, winchReply, winchCode_of_ne]
    · rcases h with hm | hm <;> simp only [hm] <;> rfl
    · exact hchassis

end Sys2Proof.Machine

namespace Sys2Proof.Machine

section WinchPull

variable {s : State} {target : Int} {speed : Nat}

theorem replaceOp_csc (s : State) : (replaceOp s).csc = s.csc := by simp

/-- A pull that begins within 4 counts of its target ends REACHED at once. -/
theorem startPull_reached (h : (target - s.wnc.position).natAbs ≤ 4) :
    startPull target speed s =
      { s with
        wnc := { replacedWnc s.wnc with
          state := .braked, duty := 0, op := none, reasons := noReasons, stall := none, last := .reached }
        lif := posted
          { type := 0xE3, fields := [.u8 1, .i32 (positionMm s), .u8 s.wnc.valid.toNat, .u8 0, .u8 0, .u8 0] }
          (replacedLif s) } := by
  rw [startPull, if_pos (by simpa using h), endOp_eq]
  by_cases hcancel : s.wnc.isCancelled
  · rw [replaceOp_cancels hcancel, replacedWnc, if_pos hcancel]
    rfl
  · have hstate : s.wnc.state ≠ .suspended := fun hst => hcancel (.inr hst)
    rw [replaceOp_silent hcancel, replacedWnc, if_neg hcancel]
    simp only [winchEndReport, if_neg hstate]
    rfl

theorem startPull_starts (h : 5 ≤ (target - s.wnc.position).natAbs) :
    startPull target speed s =
      startOp .pull (if s.wnc.position < target then .outward else .inward) speed target (replaceOp s) := by
  have hfar : ¬(target - s.wnc.position).natAbs ≤ 4 := by omega
  simp only [startPull, replaceOp_position, if_neg hfar]

theorem startOp_position (k : WinchOp) (d : WinchDir) (v : Nat) (target : Int) (s : State) :
    (startOp k d v target s).wnc.position = s.wnc.position := by
  unfold startOp
  dsimp only
  split <;> rfl

/-- A WINCH_PULL leaves the line position as it was. -/
theorem positionMm_startPull (target : Int) (speed : Nat) (s : State) : positionMm (startPull target speed s) = positionMm s := by
  have hposition : (startPull target speed s).wnc.position = s.wnc.position := by
    unfold startPull
    dsimp only
    split
    · simp
    · rw [startOp_position, replaceOp_position]
  simp [positionMm, hposition]

/-- The target and the speed of a WINCH_PULL, clamped. -/
def pullCode (target converted : Int) (speed asked : Nat) : ResultCode :=
  if decide (target ≠ converted) || decide (speed ≠ asked) then .clamped else .ok

theorem pullCode_code (target converted : Int) (speed asked : Nat) :
    (pullCode target converted speed asked).code = if target = converted ∧ speed = asked then 0 else 1 := by
  by_cases ht : target = converted <;> by_cases hs : speed = asked <;> simp [pullCode, ht, hs, ResultCode.code]

theorem winchPullOwner_refused {p : Payload} (h : s.csc.chassis = .standby ∨ s.csc.chassis = .failsafe ∨ s.csc.chassis = .cutoff ∨
    s.wnc.valid = false) :
    winchPullOwner p s =
      (s.useFree 1, [rc .wrongState, .u8 (winchCode s), .i32 (s.free 0), .i32 (positionMm s)]) := by
  refine if_pos ?_
  rcases h with h | h | h | h <;> simp [h, pullRefusedIn]

theorem winchPullOwner_taken {p : Payload} (hc : s.csc.chassis = .run ∨ s.csc.chassis = .hold) (hv : s.wnc.valid = true) :
    winchPullOwner p s =
      (let target := pullTarget s (i32At p 0)
      let speed := max 1 (min (u16At p 4) 1000)
      let s' := startPull target speed s
      (s', [rc (pullCode target (mmToCounts s.cfg.wnc.umPerCount (i32At p 0)) speed (u16At p 4)), .u8 (winchCode s'),
        .i32 (countsToMm s.cfg.wnc.umPerCount target), .i32 (positionMm s)])) := by
  dsimp only
  rw [← positionMm_startPull (pullTarget s (i32At p 0)) (max 1 (min (u16At p 4) 1000)) s]
  refine if_neg ?_
  rcases hc with hc | hc <;> simp [hc, hv, pullRefusedIn]

/-- The state of a winch in RUN or HOLD is answered as it is. -/
theorem winchCode_run_hold (hc : s.csc.chassis = .run ∨ s.csc.chassis = .hold) : winchCode s = s.wnc.state.code :=
  winchCode_of_ne (by rcases hc with hc | hc <;> simp [hc])

end WinchPull

/-- Settles O38: the refusals, the pull that ends at once, and the pull that runs or waits. -/
theorem winchPullSeeksItsTarget : Obligations.WinchPullSeeksItsTarget := by
  intro p s htakes hp
  have hlen : lengthAllowed 0x21 p.length = true := by rw [hp]; rfl
  have hexec {t u : State} {fields : List Field} (howner : winchPullOwner p s = (t, fields))
      (hu : { t with lif := answered 0x21 fields t.lif } = u) : exec (.winchPull p) s = .next u :=
    hu ▸ exec_of_ignoring (i := .winchPull p) (ignoresIntake_winchPullOwner p) rfl htakes hlen howner
  refine ⟨fun h => hexec (winchPullOwner_refused h) rfl, fun hc hv hnear => hexec (winchPullOwner_taken hc hv) ?reached,
    fun hc hv hfar => hexec (winchPullOwner_taken (.inl hc) hv) ?runs,
    fun hc hv hfar => hexec (winchPullOwner_taken (.inr hc) hv) ?waits⟩
  case reached =>
    dsimp only
    have hflag : s.wnc.valid.toNat = 1 := congrArg Bool.toNat hv
    rw [startPull_reached (target := pullTarget s (i32At p 0)) hnear, rc, pullCode_code, winchCode_run_hold, hflag]
    · rfl
    · exact hc
  case runs =>
    have hchassis : s.csc.chassis ≠ .hold := by simp [hc]
    dsimp only
    rw [startPull_starts (target := pullTarget s (i32At p 0)) hfar, startOp_replaceOp_runs _ _ _ hchassis, rc, pullCode_code, winchCode_run_hold]
    · rfl
    · exact .inl hc
  case waits =>
    dsimp only
    rw [startPull_starts (target := pullTarget s (i32At p 0)) hfar, startOp_replaceOp_holds _ _ _ hc, rc, pullCode_code, winchCode_run_hold]
    · rfl
    · exact .inr hc

/-! ## WINCH_SUSPEND and WINCH_RESUME -/

section Suspend

variable {s : State}

/-- A driving operation is suspended with the reason HOST. -/
theorem winchSuspendOwner_drives (h : s.wnc.state.driving = true) :
    winchSuspendOwner s =
      (s.withWnc (suspendOp { noReasons with host := true } s.wnc),
        winchReply .ok (s.withWnc (suspendOp { noReasons with host := true } s.wnc))) := by
  simp [winchSuspendOwner, h]

theorem winchSuspendOwner_suspended (h : s.wnc.state = .suspended) :
    winchSuspendOwner s =
      (s.withWnc { s.wnc with reasons := { s.wnc.reasons with host := true } },
        winchReply .ok (s.withWnc { s.wnc with reasons := { s.wnc.reasons with host := true } })) := by
  simp [winchSuspendOwner, h, WinchState.driving]

theorem winchSuspendOwner_refused (h : s.wnc.state = .braked ∨ s.wnc.state = .free ∨ s.wnc.state = .stalled) :
    winchSuspendOwner s = (s, winchReply .wrongState s) := by
  rcases h with h | h | h <;> simp [winchSuspendOwner, h, WinchState.driving]

theorem winchResumeOwner_refused (h : s.wnc.reasons.host = false) : winchResumeOwner s = (s, winchReply .wrongState s) := by
  simp [winchResumeOwner, h]

theorem winchResumeOwner_drops (h : s.wnc.reasons.host = true) :
    winchResumeOwner s =
      (dropReason { s.wnc.reasons with host := false } s,
        winchReply .ok (dropReason { s.wnc.reasons with host := false } s)) := if_pos h

/-- The code of a state other than BRAKED is the same in every chassis state. -/
theorem winchCode_of_not_braked (h : s.wnc.state ≠ .braked) : winchCode s = s.wnc.state.code := if_neg fun hcut => h hcut.1

end Suspend

/-- Settles O39: the record's answers by its state, and the restoration in RUN as the last reason leaves. -/
theorem suspendAndResumeByTheHost : Obligations.SuspendAndResumeByTheHost := by
  have hsuspend {s t u : State} {fields : List Field} (htakes : Takes 0x22 [] s) (howner : winchSuspendOwner s = (t, fields))
      (hu : { t with lif := answered 0x22 fields t.lif } = u) : exec (.winchSuspend []) s = .next u :=
    hu ▸ exec_of_ignoring (i := .winchSuspend []) ignoresIntake_winchSuspendOwner rfl htakes rfl howner
  have hresume {s t u : State} {fields : List Field} (htakes : Takes 0x23 [] s) (howner : winchResumeOwner s = (t, fields))
      (hu : { t with lif := answered 0x23 fields t.lif } = u) : exec (.winchResume []) s = .next u :=
    hu ▸ exec_of_ignoring (i := .winchResume []) ignoresIntake_winchResumeOwner rfl htakes rfl howner
  refine ⟨fun s htakes => ⟨fun h => hsuspend htakes (winchSuspendOwner_drives ?drives) ?driveReply,
      fun h => hsuspend htakes (winchSuspendOwner_suspended h) ?again,
      fun h => hsuspend htakes (winchSuspendOwner_refused h) rfl⟩,
    fun s htakes => ⟨fun h => hresume htakes (winchResumeOwner_refused h) ?refused,
      fun hst h hother => hresume htakes (winchResumeOwner_drops h) ?waits⟩,
    fun k s htakes hst hop hreasons hc => ?restored⟩
  case drives => rcases h with h | h | h <;> rw [h] <;> rfl
  case driveReply =>
    rw [winchReply, winchCode_of_not_braked]
    · rfl
    · simp [suspendOp]
  case again =>
    rw [winchReply, winchCode_of_not_braked]
    · simp only [withWnc_wnc, h]
      rfl
    · simp [h]
  case refused =>
    simp only [winchReply, reasonFields, h]
    rfl
  case waits =>
    have hleft : ({ s.wnc.reasons with host := false } : Reasons).isEmpty = false := by
      rcases hother with hother | hother <;> simp [Reasons.isEmpty, hother]
    rw [dropReason_other (.inr hleft), winchReply, winchCode_of_not_braked]
    · simp only [withWnc_wnc, hst]
      rfl
    · simp [hst]
  case restored =>
    have hlast : { s.wnc.reasons with host := false } = noReasons := by simp only [hreasons, noReasons]
    have howner := winchResumeOwner_drops (s := s) (by rw [hreasons])
    rw [hlast, dropReason_last hst] at howner
    refine ⟨fun hreached => hresume htakes howner ?_, fun hreached hstop => hresume htakes howner ?_,
      fun hreached hstop => hresume htakes howner ?_⟩
    · rw [restoreOp_reached (s := freed s) hop hreached, endOp_restored, winchReply, winchCode_run_hold]
      · rfl
      · exact .inl hc
    · rw [restoreOp_limit (s := freed s) hop hreached hstop, endOp_restored, winchReply, winchCode_run_hold]
      · rfl
      · exact .inl hc
    · rw [restoreOp_runs (s := freed s) hop hreached hstop, winchReply, winchCode_run_hold]
      · rfl
      · exact .inl hc

/-! ## WINCH_ZERO and WINCH_LIMITS -/

section ZeroLimits

variable {s : State} {p : Payload}

/-- The record after a WINCH_ZERO, before its limit check. -/
def zeroed (s : State) : State := s.withWnc { s.wnc with position := 0, valid := true, stall := none }

theorem winchZeroOwner_busy (h : s.wnc.state = .pull ∨ (s.wnc.state = .suspended ∧ s.wnc.op = some .pull)) :
    winchZeroOwner s = (s, [rc .busy]) := if_pos h

theorem winchZeroOwner_zeroes (h : ¬(s.wnc.state = .pull ∨ (s.wnc.state = .suspended ∧ s.wnc.op = some .pull))) :
    winchZeroOwner s =
      (limitCheck (zeroed s),
        [rc .ok, .i32 (positionMm (limitCheck (zeroed s))), flag (limitCheck (zeroed s)).wnc.valid]) := if_neg h

/-- The position 0 is 0 mm. -/
theorem positionMm_of_zero (h : s.wnc.position = 0) : positionMm s = 0 := by simp [positionMm, countsToMm, h]

/-- An operation that ends LIMIT. -/
theorem endOp_limit (h : s.wnc.state ≠ .suspended) :
    endOp .limit .braked s =
      { s with
        wnc := { s.wnc with
          state := .braked, duty := 0, op := none, reasons := noReasons, stall := none, last := .limit }
        lif := posted
          { type := 0xE3, fields := [.u8 2, .i32 (positionMm s), .u8 s.wnc.valid.toNat, .u8 0, .u8 0, .u8 0] } s.lif } := by
  rw [endOp_eq, winchEndReport, if_neg h]
  rfl

/-- The record after a WINCH_LIMITS with these stops, before its limit check. -/
def limited (inner outer : Int) (s : State) : State :=
  s.withCfg { s.cfg with wnc := { s.cfg.wnc with inner := inner, outer := outer } }

/-- The part with the stops that a WINCH_LIMITS asks for. -/
def askedLimits (p : Payload) (s : State) : State :=
  limited (limitCounts s.cfg.wnc.umPerCount (i32At p 0)) (limitCounts s.cfg.wnc.umPerCount (i32At p 4)) s

/-- The code of an accepted WINCH_LIMITS. -/
def limitsCode (a a' b b' : Int) : ResultCode := if decide (a ≠ a') || decide (b ≠ b') then .clamped else .ok

theorem limitsCode_code (a a' b b' : Int) : (limitsCode a a' b b').code = if a = a' ∧ b = b' then 0 else 1 := by
  by_cases ha : a = a' <;> by_cases hb : b = b' <;> simp [limitsCode, ha, hb, ResultCode.code]

theorem storeRunning_of_writing (h : s.pst.writing ≠ none) : storeRunning s = true := by
  simpa [storeRunning, Option.isSome_iff_ne_none] using h

theorem storeRunning_of_idle (h : s.pst.writing = none) : storeRunning s = false := by simp [storeRunning, h]

theorem winchLimitsOwner_busy (h : s.pst.writing ≠ none) : winchLimitsOwner p s = (s, winchLimitsReply .busy s) :=
  if_pos (storeRunning_of_writing h)

theorem winchLimitsOwner_badValue (h : s.pst.writing = none)
    (hle : limitCounts s.cfg.wnc.umPerCount (i32At p 4) ≤ limitCounts s.cfg.wnc.umPerCount (i32At p 0)) :
    winchLimitsOwner p s = (s, winchLimitsReply .badValue s) := by
  simp only [winchLimitsOwner, storeRunning_of_idle h, if_pos hle]
  rfl

theorem winchLimitsOwner_sets (h : s.pst.writing = none)
    (hlt : limitCounts s.cfg.wnc.umPerCount (i32At p 0) < limitCounts s.cfg.wnc.umPerCount (i32At p 4)) :
    winchLimitsOwner p s =
      (let um := s.cfg.wnc.umPerCount
      let s' := limitCheck (askedLimits p s)
      (s', winchLimitsReply (limitsCode (limitCounts um (i32At p 0)) (mmToCounts um (i32At p 0)) (limitCounts um (i32At p 4))
        (mmToCounts um (i32At p 4))) s')) := by
  simp only [winchLimitsOwner, storeRunning_of_idle h, if_neg (not_le.2 hlt)]
  rfl

theorem reorder {a b c : Prop} : a ∧ b ∧ c → a ∧ c ∧ b := fun ⟨ha, hb, hc⟩ => ⟨ha, hc, hb⟩

end ZeroLimits

/-- Settles O40: the refusals, and the three outcomes of the limit check after each of the two writes. -/
theorem zeroAndLimitsAreSet : Obligations.ZeroAndLimitsAreSet := by
  have hzero {s t u : State} {fields : List Field} (htakes : Takes 0x24 [] s) (howner : winchZeroOwner s = (t, fields))
      (hu : { t with lif := answered 0x24 fields t.lif } = u) : exec (.winchZero []) s = .next u :=
    hu ▸ exec_of_ignoring (i := .winchZero []) ignoresIntake_winchZeroOwner rfl htakes rfl howner
  have hlimits {p : Payload} {s t u : State} {fields : List Field} (htakes : Takes 0x25 p s) (hp : p.length = 8)
      (howner : winchLimitsOwner p s = (t, fields)) (hu : { t with lif := answered 0x25 fields t.lif } = u) :
      exec (.winchLimits p) s = .next u :=
    hu ▸ exec_of_ignoring (i := .winchLimits p) (ignoresIntake_winchLimitsOwner p) rfl htakes (by rw [hp]; rfl) howner
  refine ⟨fun s htakes => ⟨fun h => hzero htakes (winchZeroOwner_busy h) rfl,
      fun h => hzero htakes (winchZeroOwner_zeroes ?zeroFree) ?zeroSame,
      fun h hold => hzero htakes (winchZeroOwner_zeroes ?zeroOldFree) ?zeroOld,
      fun h hstop => hzero htakes (winchZeroOwner_zeroes ?zeroStopFree) ?zeroStop⟩,
    fun p s htakes hp => ⟨fun h => hlimits htakes hp (winchLimitsOwner_busy h) rfl,
      fun h hle => hlimits htakes hp (winchLimitsOwner_badValue h hle) rfl,
      fun h hlt hsame => hlimits htakes hp (winchLimitsOwner_sets h hlt) ?limitsSame,
      fun h hlt hv hd hold => hlimits htakes hp (winchLimitsOwner_sets h hlt) ?limitsOld,
      fun h hlt hv hd hstop => hlimits htakes hp (winchLimitsOwner_sets h hlt) ?limitsStop⟩⟩
  case zeroFree =>
    rcases h with h | h | h | ⟨h, hop⟩ | ⟨h | h, -⟩ <;> simp [h]
    exact hop
  case zeroOldFree => rcases h with h | h <;> simp [h]
  case zeroStopFree => rcases h with h | h <;> simp [h]
  case zeroSame =>
    have hsame : limitCheck (zeroed s) = zeroed s := by
      apply limitCheck_same
      refine .inr ?_
      rcases h with h | h | h | ⟨h, -⟩ | ⟨-, hstop, hold⟩
      · exact .inl (by simp [zeroed, h, WinchState.driving])
      · exact .inl (by simp [zeroed, h, WinchState.driving])
      · exact .inl (by simp [zeroed, h, WinchState.driving])
      · exact .inl (by simp [zeroed, h, WinchState.driving])
      · exact .inr ⟨fun hmeets => hstop (hmeets.imp reorder reorder), fun hover => hold (hover.imp reorder reorder)⟩
    rw [hsame, positionMm_of_zero rfl]
    rfl
  case zeroOld =>
    have hover : (zeroed s).wnc.overrunsStop (zeroed s).cfg.wnc := hold.imp reorder reorder
    have hdriving : (zeroed s).wnc.state.driving = true := by rcases h with h | h <;> simp [zeroed, h, WinchState.driving]
    rw [limitCheck_oldDuty rfl hdriving hover, positionMm_of_zero rfl]
    rfl
  case zeroStop =>
    have hmeets : (zeroed s).wnc.meetsStop (zeroed s).cfg.wnc := hstop.imp reorder reorder
    have hdriving : (zeroed s).wnc.state.driving = true := by rcases h with h | h <;> simp [zeroed, h, WinchState.driving]
    have hnot : (zeroed s).wnc.state ≠ .suspended := by rcases h with h | h <;> simp [zeroed, h]
    rw [limitCheck_stops rfl hdriving hmeets, endOp_limit hnot, positionMm_of_zero rfl, positionMm_of_zero rfl]
    rfl
  case limitsSame =>
    have hnoEnd : limitCheck (askedLimits p s) = askedLimits p s := by
      apply limitCheck_same
      rcases hsame with h | h | h | h | h | h
      · exact .inl h
      · exact .inr (.inl (by simp [askedLimits, limited, h, WinchState.driving]))
      · exact .inr (.inl (by simp [askedLimits, limited, h, WinchState.driving]))
      · exact .inr (.inl (by simp [askedLimits, limited, h, WinchState.driving]))
      · exact .inr (.inl (by simp [askedLimits, limited, h, WinchState.driving]))
      · exact .inr (.inr h)
    dsimp only
    rw [hnoEnd, winchLimitsReply, rc, limitsCode_code]
    rfl
  case limitsOld =>
    dsimp only
    rw [limitCheck_oldDuty (s := askedLimits p s) hv hd hold, winchLimitsReply, rc, limitsCode_code]
    rfl
  case limitsStop =>
    have hnot : s.wnc.state ≠ .suspended := fun hst => by simp [hst, WinchState.driving] at hd
    have hflag : (askedLimits p s).wnc.valid.toNat = 1 := congrArg Bool.toNat hv
    dsimp only
    rw [limitCheck_stops (s := askedLimits p s) hv hd hstop, endOp_limit (by exact hnot), hflag, winchLimitsReply, rc, limitsCode_code]
    rfl

end Sys2Proof.Machine

namespace Sys2Proof.Machine

/-! ## The winch update -/

section WinchUpdate

variable {s : State} {current i : Nat}

theorem exec_winchUpdate (current : Nat) (hr : s.power = .running) :
    exec (.winchUpdate current) s = .next (winchUpdate current s) :=
  congrArg Host.Outcome.next (whenRunning_runs hr)

/-- The update after the grant read: the cap, then the steps of a driving winch, or the duty 0 of one that stands. -/
def afterRead (i : Nat) (s : State) : State :=
  if s.wnc.state.driving then winchDrive i (winchFoldback i s) else
    (winchFoldback i s).withWnc { (winchFoldback i s).wnc with duty := 0 }

theorem winchUpdate_eq (current : Nat) (s : State) :
    winchUpdate current s = afterRead (min current 65000) (grantRead (min current 65000) s) := rfl

theorem grantRead_of_read (h : s.wnc.grantUnread = false) : grantRead i s = s := by simp [grantRead, h]

theorem foldCap_eq (cap i grant : Nat) :
    foldCap cap i grant = if grant < i then cap - 20 else if i ≤ grant * 15 / 16 then min (cap + 2) 1000 else cap := rfl

/-- A winch that stands follows the grant with its cap alone. -/
theorem afterRead_still (h : s.wnc.state.driving = false) :
    afterRead i s = s.withWnc { s.wnc with cap := foldCap s.wnc.cap i s.pba.pub.grant.winch, duty := 0 } := by
  simp only [afterRead, h]
  rfl

theorem afterRead_drives (h : s.wnc.state.driving = true) : afterRead i s = winchDrive i (winchFoldback i s) := if_pos h

theorem driving_iff (st : WinchState) : st.driving = true ↔ st = .spoolIn ∨ st = .spoolOut ∨ st = .pull := by
  cases st <;> simp [WinchState.driving]

theorem not_suspended_of_driving (h : s.wnc.state.driving = true) : s.wnc.state ≠ .suspended := by
  intro hst
  simp [hst, WinchState.driving] at h

/-! ### The duty -/

theorem dutyTarget_eq (approach : Nat) (w : Wnc) :
    dutyTarget approach w =
      (let r := (w.target - w.position).natAbs
      let speed : Nat := if w.state = .pull then
          (if 0 < approach ∧ r ≤ approach then min (max 150 (w.speed * r / approach)) w.speed else w.speed)
        else if w.valid then w.speed else min w.speed 300
      if w.dir = .inward then -(speed : Int) else speed) := by
  unfold dutyTarget
  cases w.dir <;> by_cases hpull : w.state = .pull <;>
    simp only [hpull, if_true, if_false, reduceCtorEq] <;> rfl

theorem capOutput_eq (cap : Nat) (d : Int) : capOutput cap d = max (-(cap : Int)) (min cap d) := rfl

/-- The duty of an outward operation, once outward, stays outward. -/
theorem duty_outward {w : Wnc} (cap approach : Nat) (hdir : w.dir = .outward) (h : 0 ≤ w.duty) :
    0 ≤ capOutput cap (slewDuty w.duty (dutyTarget approach w)) := by
  have htarget : 0 ≤ dutyTarget approach w := by
    unfold dutyTarget
    rw [hdir]
    dsimp only
    split <;> exact Int.natCast_nonneg _
  rw [capOutput_eq, slewDuty_eq]
  omega

/-- The duty of an inward operation, once inward, stays inward. -/
theorem duty_inward {w : Wnc} (cap approach : Nat) (hdir : w.dir = .inward) (h : w.duty ≤ 0) :
    capOutput cap (slewDuty w.duty (dutyTarget approach w)) ≤ 0 := by
  have htarget : dutyTarget approach w ≤ 0 := by
    unfold dutyTarget
    rw [hdir]
    dsimp only
    split <;> omega
  rw [capOutput_eq, slewDuty_eq]
  omega

/-- The limit check has nothing to do: no valid position, between the stops, or driving off from one of them. -/
def Wnc.clearOfStops (c : WncCfg) (w : Wnc) : Prop :=
  w.valid = false ∨ (c.inner < w.position ∧ w.position < c.outer) ∨
    (w.dir = .outward ∧ 0 ≤ w.duty ∧ w.position < c.outer) ∨ (w.dir = .inward ∧ w.duty ≤ 0 ∧ c.inner < w.position)

theorem limitCheck_clear (h : s.wnc.clearOfStops s.cfg.wnc) : limitCheck s = s := by
  apply limitCheck_same
  rcases h with h | ⟨hin, hout⟩ | ⟨hdir, hduty, hout⟩ | ⟨hdir, hduty, hin⟩
  · exact .inl h
  · refine .inr (.inr ⟨?_, ?_⟩)
    · rintro (⟨-, -, hpos⟩ | ⟨-, -, hpos⟩) <;> omega
    · rintro (⟨-, -, hpos⟩ | ⟨-, -, hpos⟩) <;> omega
  · refine .inr (.inr ⟨?_, ?_⟩)
    · rintro (⟨hin, -, -⟩ | ⟨-, -, hpos⟩)
      · cases hdir.symm.trans hin
      · omega
    · rintro (⟨-, hneg, -⟩ | ⟨hin, -, -⟩)
      · omega
      · cases hdir.symm.trans hin
  · refine .inr (.inr ⟨?_, ?_⟩)
    · rintro (⟨-, -, hpos⟩ | ⟨hout, -, -⟩)
      · omega
      · cases hdir.symm.trans hout
    · rintro (⟨hout, -, -⟩ | ⟨-, hpos, -⟩)
      · cases hdir.symm.trans hout
      · omega

/-- Clear of the stops before its update, the winch is clear of them with the new duty. -/
theorem clearOfStops_slewed {c : WncCfg} {w : Wnc} (cap approach : Nat) (arm : Option StallArm) (h : w.clearOfStops c) :
    ({ w with cap := cap, stall := arm, duty := capOutput cap (slewDuty w.duty (dutyTarget approach w)) } : Wnc).clearOfStops c := by
  rcases h with h | h | ⟨hdir, hduty, hout⟩ | ⟨hdir, hduty, hin⟩
  · exact .inl h
  · exact .inr (.inl h)
  · exact .inr (.inr (.inl ⟨hdir, duty_outward cap approach hdir hduty, hout⟩))
  · exact .inr (.inr (.inr ⟨hdir, duty_inward cap approach hdir hduty, hin⟩))

/-! ### Trip and stall -/

/-- A driving operation that ends: its report carries no reason. -/
theorem endOp_driving (r : WinchResult) (st : WinchState) (h : s.wnc.state.driving = true) :
    endOp r st s =
      { s with
        wnc := { s.wnc with state := st, duty := 0, op := none, reasons := noReasons, stall := none, last := r }
        lif := posted
          { type := 0xE3, fields := [.u8 r.code, .i32 (positionMm s), .u8 s.wnc.valid.toNat, .u8 0, .u8 0, .u8 0] } s.lif } := by
  rw [endOp_eq, winchEndReport, if_neg (not_suspended_of_driving h)]
  rfl

theorem winchTrip_eq (h : s.wnc.state.driving = true) :
    winchTrip s =
      { s with
        wnc := { s.wnc with
          state := .braked, duty := 0, op := none, reasons := noReasons, stall := none, last := .fault
          tripCount := min (s.wnc.tripCount + 1) 255 }
        lif := posted
          { type := 0xE3, fields := [.u8 8, .i32 (positionMm s), .u8 s.wnc.valid.toNat, .u8 0, .u8 0, .u8 0] } s.lif } := by
  rw [winchTrip, endOp_driving _ _ h]
  simp only [countUp_255]
  rfl

theorem winchStalls_eq (h : s.wnc.state.driving = true) :
    winchStalls s =
      { s with
        wnc := { s.wnc with
          state := .stalled, duty := 0, op := none, reasons := noReasons, stall := none, last := .stall
          stallCount := min (s.wnc.stallCount + 1) 255 }
        lif := posted
          { type := 0xE3, fields := [.u8 3, .i32 (positionMm s), .u8 s.wnc.valid.toNat, .u8 0, .u8 0, .u8 0] } s.lif } := by
  rw [winchStalls, endOp_driving _ _ h]
  simp only [countUp_255]
  rfl

/-! ### The stall detector -/

section Stall

variable {c : WncCfg} {duty : Int} {w : Wnc} {a : StallArm}

/-- An inward duty of 200 or more at more than the stall current. -/
abbrev pushes (c : WncCfg) (i : Nat) (duty : Int) : Prop := duty ≤ -200 ∧ c.stallCurrent < i

theorem stallCheck_disarmed (h : ¬pushes c i duty) : stallCheck c i duty w = .disarmed := if_neg h

theorem stallCheck_arms (h : pushes c i duty) (ha : w.stall = none) :
    stallCheck c i duty w = .armed { since := w.clock, position := w.position } := by
  simp only [stallCheck, if_pos h, ha]

theorem stallCheck_armed (h : pushes c i duty) (ha : w.stall = some a) :
    stallCheck c i duty w =
      if 2 ≤ (w.position - a.position).natAbs then .armed { since := w.clock, position := w.position }
      else if c.stallWindow ≤ (w.clock - a.since).toNat ∧ w.dir = .inward then .stalled
      else .armed a := by
  simp only [stallCheck, if_pos h, ha]

end Stall

/-! ### A driving winch -/

/-- The winch record after the steps of a driving winch that neither trips nor stalls nor meets a stop. -/
def drivenWnc (i : Nat) (arm : Option StallArm) (s : State) : Wnc :=
  let cap := foldCap s.wnc.cap i s.pba.pub.grant.winch
  { s.wnc with
    cap := cap, stall := arm
    duty := capOutput cap (slewDuty s.wnc.duty (dutyTarget s.cfg.wnc.approach s.wnc)) }

/-- The duty slewed, before the cap. -/
abbrev slewedDuty (s : State) : Int := slewDuty s.wnc.duty (dutyTarget s.cfg.wnc.approach s.wnc)

theorem winchDrive_trips (h : s.cfg.wnc.tripLevel < i) : winchDrive i s = winchTrip s := if_pos h

/-- Below the trip level the stall detector decides. -/
theorem winchDrive_untripped (h : i ≤ s.cfg.wnc.tripLevel) :
    winchDrive i (winchFoldback i s) =
      match stallCheck s.cfg.wnc i (slewedDuty s) s.wnc with
      | .stalled => winchStalls (winchFoldback i s)
      | .armed a => limitCheck (s.withWnc (drivenWnc i (some a) s))
      | .disarmed => limitCheck (s.withWnc (drivenWnc i none s)) :=
  (if_neg (by exact not_lt.2 h)).trans rfl

theorem winchDrive_stalls (h : i ≤ s.cfg.wnc.tripLevel) (hs : stallCheck s.cfg.wnc i (slewedDuty s) s.wnc = .stalled) :
    winchDrive i (winchFoldback i s) = winchStalls (winchFoldback i s) := by
  rw [winchDrive_untripped h, hs]

theorem winchDrive_armed {a : StallArm} (h : i ≤ s.cfg.wnc.tripLevel)
    (hs : stallCheck s.cfg.wnc i (slewedDuty s) s.wnc = .armed a) :
    winchDrive i (winchFoldback i s) = limitCheck (s.withWnc (drivenWnc i (some a) s)) := by
  rw [winchDrive_untripped h, hs]

theorem winchDrive_disarmed (h : i ≤ s.cfg.wnc.tripLevel)
    (hs : stallCheck s.cfg.wnc i (slewedDuty s) s.wnc = .disarmed) :
    winchDrive i (winchFoldback i s) = limitCheck (s.withWnc (drivenWnc i none s)) := by
  rw [winchDrive_untripped h, hs]

theorem limitCheck_drivenWnc (arm : Option StallArm) (h : s.wnc.clearOfStops s.cfg.wnc) :
    limitCheck (s.withWnc (drivenWnc i arm s)) = s.withWnc (drivenWnc i arm s) :=
  limitCheck_clear (s := s.withWnc (drivenWnc i arm s)) (clearOfStops_slewed _ s.cfg.wnc.approach arm h)

/-! ### WINCH_STALL -/

theorem winchStallDue_iff (hread : s.wnc.grantUnread = false) :
    winchStallDue current s = true ↔
      s.wnc.state.driving = true ∧ min current 65000 ≤ s.cfg.wnc.tripLevel ∧
        stallCheck s.cfg.wnc (min current 65000) (slewedDuty s) s.wnc = .stalled := by
  simp only [winchStallDue, grantRead_of_read hread, Bool.and_eq_true, decide_eq_true_iff, and_assoc]
  rfl

end WinchUpdate

end Sys2Proof.Machine

namespace Sys2Proof.Machine

/-! ## The winch update of a read grant -/

section ReadGrant

variable {s : State} {current : Nat} {a : StallArm}

/-- A winch that stands, its grant read. -/
theorem winchUpdate_still (hread : s.wnc.grantUnread = false) (h : s.wnc.state.driving = false) :
    winchUpdate current s =
      { s with wnc := { s.wnc with cap := foldCap s.wnc.cap (min current 65000) s.pba.pub.grant.winch, duty := 0 } } := by
  rw [winchUpdate_eq, grantRead_of_read hread, afterRead_still h]
  rfl

theorem winchUpdate_drives (hread : s.wnc.grantUnread = false) (h : s.wnc.state.driving = true) :
    winchUpdate current s = winchDrive (min current 65000) (winchFoldback (min current 65000) s) := by
  rw [winchUpdate_eq, grantRead_of_read hread, afterRead_drives h]

variable (hread : s.wnc.grantUnread = false) (h : s.wnc.state.driving = true)
include hread h

theorem winchUpdate_trips (htrip : s.cfg.wnc.tripLevel < min current 65000) :
    winchUpdate current s = winchTrip (winchFoldback (min current 65000) s) := by
  rw [winchUpdate_drives hread h, winchDrive_trips (by exact htrip)]

variable (htrip : min current 65000 ≤ s.cfg.wnc.tripLevel)
include htrip

/-- Clear of the stops, with the detector not armed. -/
theorem winchUpdate_disarmed (hclear : s.wnc.clearOfStops s.cfg.wnc)
    (hs : stallCheck s.cfg.wnc (min current 65000) (slewedDuty s) s.wnc = .disarmed) :
    winchUpdate current s = s.withWnc (drivenWnc (min current 65000) none s) := by
  rw [winchUpdate_drives hread h, winchDrive_disarmed htrip hs, limitCheck_drivenWnc _ hclear]

/-- Clear of the stops, with the detector armed. -/
theorem winchUpdate_armed (hclear : s.wnc.clearOfStops s.cfg.wnc)
    (hs : stallCheck s.cfg.wnc (min current 65000) (slewedDuty s) s.wnc = .armed a) :
    winchUpdate current s = s.withWnc (drivenWnc (min current 65000) (some a) s) := by
  rw [winchUpdate_drives hread h, winchDrive_armed htrip hs, limitCheck_drivenWnc _ hclear]

theorem winchUpdate_stalls (hs : stallCheck s.cfg.wnc (min current 65000) (slewedDuty s) s.wnc = .stalled) :
    winchUpdate current s = winchStalls (winchFoldback (min current 65000) s) := by
  rw [winchUpdate_drives hread h, winchDrive_stalls htrip hs]

end ReadGrant

/-! ## The grant read -/

section GrantRead

variable {s : State} {i : Nat}

/-- The part after its grant has been read. -/
def grantSeen (s : State) : State := s.withWnc { s.wnc with grantUnread := false }

/-- A grant read suspends, holds, or releases. -/
theorem grantRead_unread (h : s.wnc.grantUnread = true) :
    grantRead i s =
      if budgetAdds i s then
        if s.wnc.state.driving then (grantSeen s).withWnc (suspendOp { noReasons with budget := true } (grantSeen s).wnc)
        else (grantSeen s).withWnc { (grantSeen s).wnc with reasons := { s.wnc.reasons with budget := true } }
      else if budgetRemoves s then dropReason { s.wnc.reasons with budget := false } (grantSeen s)
      else grantSeen s := if_pos h

theorem budgetAdds_iff :
    budgetAdds i s = true ↔
      (s.bmn.pub.stage = .shed ∧ s.wnc.hasOp = true) ∨
        (s.wnc.state.driving = true ∧ s.pba.pub.starved = true ∧ s.pba.pub.grant.winch < i) := by
  simp [budgetAdds, and_assoc]

theorem budgetRemoves_iff :
    budgetRemoves s = true ↔
      s.wnc.reasons.budget = true ∧ 2 * s.cfg.wnc.minimum ≤ s.pba.pub.grant.winch ∧
        (s.bmn.pub.stage = .normal ∨ s.bmn.pub.stage = .warn ∨ s.bmn.pub.stage = .limit) := by
  have hcode : s.bmn.pub.stage.code ≤ 2 ↔ s.bmn.pub.stage = .normal ∨ s.bmn.pub.stage = .warn ∨ s.bmn.pub.stage = .limit := by
    cases s.bmn.pub.stage <;> simp [Stage.code]
  simp only [budgetRemoves, Bool.and_eq_true, decide_eq_true_iff, hcode, and_assoc]

theorem hasOp_of_driving (h : s.wnc.state.driving = true) : s.wnc.hasOp = true := by simp [Wnc.hasOp, h]

theorem hasOp_of_suspended (h : s.wnc.state = .suspended) : s.wnc.hasOp = true := by simp [Wnc.hasOp, h]

theorem driving_of_suspended (h : s.wnc.state = .suspended) : s.wnc.state.driving = false := by simp [h, WinchState.driving]

theorem driving_of_standing (h : s.wnc.state = .braked ∨ s.wnc.state = .free ∨ s.wnc.state = .stalled) :
    s.wnc.state.driving = false := by
  rcases h with h | h | h <;> simp [h, WinchState.driving]

theorem hasOp_of_standing (h : s.wnc.state = .braked ∨ s.wnc.state = .free ∨ s.wnc.state = .stalled) : s.wnc.hasOp = false := by
  rcases h with h | h | h <;> simp [Wnc.hasOp, h, WinchState.driving]

/-- Without BUDGET another reason is left. -/
theorem isEmpty_without_budget {r : Reasons} (h : r.host = true ∨ r.hold = true) :
    ({ r with budget := false } : Reasons).isEmpty = false := by
  rcases h with h | h <;> simp [Reasons.isEmpty, h]

/-- BUDGET was the last reason. -/
theorem without_budget_eq {r : Reasons} (h : r = { host := false, hold := false, budget := true }) :
    { r with budget := false } = noReasons := by
  rw [h]
  rfl

/-- A driving winch is suspended for BUDGET. -/
theorem grantRead_suspends (h : s.wnc.grantUnread = true) (hd : s.wnc.state.driving = true) (hadds : budgetAdds i s = true) :
    grantRead i s = (grantSeen s).withWnc (suspendOp { noReasons with budget := true } (grantSeen s).wnc) := by
  rw [grantRead_unread h, if_pos hadds, if_pos hd]

/-- A winch that already waits takes BUDGET as one more reason. -/
theorem grantRead_adds (h : s.wnc.grantUnread = true) (hd : s.wnc.state.driving = false) (hadds : budgetAdds i s = true) :
    grantRead i s = (grantSeen s).withWnc { (grantSeen s).wnc with reasons := { s.wnc.reasons with budget := true } } := by
  rw [grantRead_unread h, if_pos hadds, if_neg (by simp [hd])]

theorem grantRead_drops (h : s.wnc.grantUnread = true) (hadds : ¬budgetAdds i s = true) (hremoves : budgetRemoves s = true) :
    grantRead i s = dropReason { s.wnc.reasons with budget := false } (grantSeen s) := by
  rw [grantRead_unread h, if_neg hadds, if_pos hremoves]

theorem grantRead_leaves (h : s.wnc.grantUnread = true) (hadds : ¬budgetAdds i s = true) (hremoves : ¬budgetRemoves s = true) :
    grantRead i s = grantSeen s := by
  rw [grantRead_unread h, if_neg hadds, if_neg hremoves]

/-- A grant read that leaves a still winch, whose cap alone follows. -/
theorem winchUpdate_of_still {current : Nat} {t : State} (hgrant : grantRead (min current 65000) s = t)
    (h : t.wnc.state.driving = false) :
    winchUpdate current s =
      { t with wnc := { t.wnc with cap := foldCap t.wnc.cap (min current 65000) t.pba.pub.grant.winch, duty := 0 } } := by
  rw [winchUpdate_eq, hgrant, afterRead_still h]
  rfl

/-- A grant read that leaves a winch with its grant read: the update goes on from there. -/
theorem winchUpdate_of_seen {current : Nat} {t : State} (hgrant : grantRead (min current 65000) s = t)
    (h : t.wnc.grantUnread = false) : winchUpdate current s = winchUpdate current t := by
  rw [winchUpdate_eq, winchUpdate_eq, hgrant, grantRead_of_read h]

end GrantRead

/-- Settles O41: the update clear of the stops by trip and stall detector, the update at a stop by its limit check, and the grant read. -/
theorem winchUpdateDrivesTheDrum : Obligations.WinchUpdateDrivesTheDrum := by
  refine ⟨fun current s hr hread hclear => ?clear, fun current s hr hread hv hd htrip hweak => ?stops, fun current s hr hread => ?grant⟩
  case clear =>
    intro i w driving grant cap r zone speed goal duty capped pushing moved late runs report
    have hduty : slewedDuty s = duty := by
      rw [slewedDuty, slewDuty_eq, dutyTarget_eq]
    rw [exec_winchUpdate current hr]
    have hpushes : pushes s.cfg.wnc i (slewedDuty s) ↔ pushing := by rw [hduty]
    have hdriven (arm : Option StallArm) : Host.Outcome.next (s.withWnc (drivenWnc i arm s)) = runs arm := by
      simp only [drivenWnc, ← hduty, runs, capped]
      rfl
    have harms {arm : StallArm} (hd : driving) (htrip : i ≤ s.cfg.wnc.tripLevel)
        (hs : stallCheck s.cfg.wnc i (slewedDuty s) s.wnc = .armed arm) :
        Host.Outcome.next (winchUpdate current s) = runs (some arm) :=
      (congrArg _ (winchUpdate_armed hread ((driving_iff _).2 hd) htrip hclear hs)).trans (hdriven _)
    refine ⟨fun hd => ?_, fun hd htrip => ?_, fun hd htrip => ⟨fun hpush => ?_, fun hpush ha => ?_, fun a ha hpush hmoved => ?_,
      fun a ha hpush hmoved hlate => ?_, fun a ha hpush hmoved hlate hdir => ?_⟩⟩
    · rw [winchUpdate_still hread (Bool.eq_false_iff.2 fun h => hd ((driving_iff _).1 h))]
      rfl
    · rw [winchUpdate_trips hread ((driving_iff _).2 hd) htrip, winchTrip_eq (by exact (driving_iff _).2 hd)]
      rfl
    · rw [winchUpdate_disarmed hread ((driving_iff _).2 hd) htrip hclear (stallCheck_disarmed (mt hpushes.1 hpush))]
      exact hdriven none
    · exact harms hd htrip (stallCheck_arms (hpushes.2 hpush) ha)
    · exact harms hd htrip ((stallCheck_armed (hpushes.2 hpush) ha).trans (if_pos hmoved))
    · have hs : stallCheck s.cfg.wnc i (slewedDuty s) s.wnc = .armed a := by
        rw [stallCheck_armed (hpushes.2 hpush) ha, if_neg hmoved, if_neg]
        rintro ⟨hwindow, hin⟩
        rcases hlate with hlate | hout
        · exact hlate hwindow
        · cases hin.symm.trans hout
      refine ⟨harms hd htrip hs, (exec_of_event rfl s).trans (congrArg _ (whenDue_not ?_))⟩
      rw [Bool.eq_false_iff, ne_eq, winchStallDue_iff hread]
      rintro ⟨-, -, hstalled⟩
      cases hs.symm.trans hstalled
    · have hs : stallCheck s.cfg.wnc i (slewedDuty s) s.wnc = .stalled := by
        rw [stallCheck_armed (hpushes.2 hpush) ha, if_neg hmoved, if_pos ⟨hlate, hdir⟩]
      have hdrive := (driving_iff _).2 hd
      refine ⟨?_, (exec_of_event rfl s).trans (congrArg _ (whenDue_due hr ((winchStallDue_iff hread).2 ⟨hdrive, htrip, hs⟩)))⟩
      rw [winchUpdate_stalls hread hdrive htrip hs, winchStalls_eq (by exact hdrive)]
      rfl
  case stops =>
    intro i w grant cap duty stopped old
    have hupdate : winchUpdate current s = limitCheck (s.withWnc (drivenWnc i none s)) := by
      rw [winchUpdate_drives hread hd, winchDrive_disarmed htrip (stallCheck_disarmed fun hpush => absurd hweak (not_le.2 hpush.2))]
    have hflag : (s.withWnc (drivenWnc i none s)).wnc.valid.toNat = 1 := congrArg Bool.toNat hv
    rw [exec_winchUpdate current hr, hupdate]
    refine ⟨fun hstop => ?_, fun hold => ?_, fun hstop hold => ?_⟩
    · rw [limitCheck_stops (s := s.withWnc (drivenWnc i none s)) hv hd hstop, endOp_driving _ _ (by exact hd), hflag]
      rfl
    · rw [limitCheck_oldDuty (s := s.withWnc (drivenWnc i none s)) hv hd hold]
      rfl
    · rw [limitCheck_same (s := s.withWnc (drivenWnc i none s)) (.inr (.inr ⟨hstop, hold⟩))]
      rfl
  case grant =>
    intro i w grant cap driving shed
    rw [exec_winchUpdate current hr]
    have hnotAdds (hst : s.wnc.state = .suspended) (hshed : ¬shed) : ¬budgetAdds i s = true := by
      rw [budgetAdds_iff]
      rintro (⟨h, -⟩ | ⟨h, -⟩)
      · exact hshed h
      · simp [driving_of_suspended hst] at h
    have hnotShed (hstage : s.bmn.pub.stage = .normal ∨ s.bmn.pub.stage = .warn ∨ s.bmn.pub.stage = .limit) : ¬shed := by
      rintro (h : s.bmn.pub.stage = .shed)
      simp [h] at hstage
    refine ⟨fun hst hreasons => ?still, fun hd hshed hpaid hreasons => ?goesOn, fun hd hadds => ?suspends, fun hst hshed => ?adds,
      fun hst hbudget hgrant hstage hother => ?waits, fun k hst hop hreasons hgrant hstage => ?restores,
      fun hst hshed hkeep => ?keeps⟩
    case still =>
      have hd : s.wnc.state.driving = false := driving_of_standing hst
      have hop : s.wnc.hasOp = false := hasOp_of_standing hst
      have hadds : ¬budgetAdds i s = true := by simp [budgetAdds_iff, hd, hop]
      have hbudget : s.wnc.reasons.budget = false := congrArg Reasons.budget hreasons
      have hremoves : ¬budgetRemoves s = true := by simp [budgetRemoves_iff, hbudget]
      rw [winchUpdate_of_still (grantRead_leaves hread hadds hremoves) (by exact hd)]
      rfl
    case goesOn =>
      have hadds : ¬budgetAdds i s = true := by
        rw [budgetAdds_iff]
        rintro (⟨h, -⟩ | ⟨-, hstarved, hless⟩)
        · exact hshed h
        · rcases hpaid with h | h
          · simp [h] at hstarved
          · exact absurd h (not_le.2 hless)
      have hbudget : s.wnc.reasons.budget = false := congrArg Reasons.budget hreasons
      have hremoves : ¬budgetRemoves s = true := by simp [budgetRemoves_iff, hbudget]
      rw [winchUpdate_of_seen (grantRead_leaves hread hadds hremoves) rfl]
      exact (exec_winchUpdate current (s := grantSeen s) hr).symm
    case suspends =>
      have hdrive := (driving_iff _).2 hd
      have hbudget : budgetAdds i s = true :=
        budgetAdds_iff.2 (hadds.imp (fun h => ⟨h, hasOp_of_driving hdrive⟩) (fun h => ⟨hdrive, h⟩))
      rw [winchUpdate_of_still (grantRead_suspends hread hdrive hbudget) rfl]
      rfl
    case adds =>
      have hbudget : budgetAdds i s = true := budgetAdds_iff.2 (.inl ⟨hshed, hasOp_of_suspended hst⟩)
      have hd := driving_of_suspended hst
      rw [winchUpdate_of_still (grantRead_adds hread hd hbudget) (by exact hd)]
      rfl
    case waits =>
      have hgrantRead := grantRead_drops hread (hnotAdds hst (hnotShed hstage)) (budgetRemoves_iff.2 ⟨hbudget, hgrant, hstage⟩)
      rw [dropReason_other (.inr (isEmpty_without_budget hother))] at hgrantRead
      rw [winchUpdate_of_still hgrantRead (by exact driving_of_suspended hst)]
      rfl
    case restores =>
      intro reached stopped ended
      have hlast := without_budget_eq (r := s.wnc.reasons) hreasons
      have hbudget : s.wnc.reasons.budget = true := congrArg Reasons.budget hreasons
      have hgrantRead := grantRead_drops hread (hnotAdds hst (hnotShed hstage)) (budgetRemoves_iff.2 ⟨hbudget, hgrant, hstage⟩)
      rw [hlast, dropReason_last (s := grantSeen s) hst] at hgrantRead
      refine ⟨fun hreached => ?_, fun hreached hstop => ?_, fun hreached hstop => ?_⟩
      · rw [restoreOp_reached (s := freed (grantSeen s)) hop hreached, endOp_restored] at hgrantRead
        rw [winchUpdate_of_still hgrantRead rfl]
        rfl
      · rw [restoreOp_limit (s := freed (grantSeen s)) hop hreached hstop, endOp_restored] at hgrantRead
        rw [winchUpdate_of_still hgrantRead rfl]
        rfl
      · rw [restoreOp_runs (s := freed (grantSeen s)) hop hreached hstop] at hgrantRead
        rw [winchUpdate_of_seen hgrantRead rfl]
        exact (exec_winchUpdate current (s := restored k (freed (grantSeen s))) hr).symm
    case keeps =>
      have hremoves : ¬budgetRemoves s = true := by
        rw [budgetRemoves_iff]
        rintro ⟨hbudget, hgrant, -⟩
        rcases hkeep with h | h
        · cases hbudget.symm.trans h
        · exact absurd hgrant (not_le.2 h)
      rw [winchUpdate_of_still (grantRead_leaves hread (hnotAdds hst hshed) hremoves) (by exact driving_of_suspended hst)]
      rfl

end Sys2Proof.Machine

namespace Sys2Proof.Machine

/-! ## The encoder -/

section Encoder

variable {s : State} {e x : EncoderPins}

/-- The pair that follows in the sequence (0,0), (1,0), (1,1), (0,1). -/
def nextPins (x : EncoderPins) : EncoderPins :=
  if x = { a := false, b := false } then { a := true, b := false }
  else if x = { a := true, b := false } then { a := true, b := true }
  else if x = { a := true, b := true } then { a := false, b := true }
  else { a := false, b := false }

theorem encPhase_same (e x : EncoderPins) : encPhase e = encPhase x ↔ e = x := by
  obtain ⟨_ | _, _ | _⟩ := e <;> obtain ⟨_ | _, _ | _⟩ := x <;> decide

theorem encPhase_forward (e x : EncoderPins) : encPhase e = (encPhase x + 1) % 4 ↔ e = nextPins x := by
  obtain ⟨_ | _, _ | _⟩ := e <;> obtain ⟨_ | _, _ | _⟩ := x <;> decide

theorem encPhase_backward (e x : EncoderPins) : encPhase e = (encPhase x + 3) % 4 ↔ x = nextPins e := by
  obtain ⟨_ | _, _ | _⟩ := e <;> obtain ⟨_ | _, _ | _⟩ := x <;> decide

theorem nextPins_ne (x : EncoderPins) : nextPins x ≠ x := by obtain ⟨_ | _, _ | _⟩ := x <;> decide

theorem nextPins_not_back (h : x = nextPins e) : e ≠ nextPins x := by
  subst h
  obtain ⟨_ | _, _ | _⟩ := e <;> decide

/-- One step forward changes one line alone. -/
theorem nextPins_line (x : EncoderPins) : (nextPins x).a = x.a ∨ (nextPins x).b = x.b := by
  obtain ⟨_ | _, _ | _⟩ := x <;> decide

/-- The part with this encoder pair sampled. -/
def sampled (e : EncoderPins) (s : State) : State := s.withWnc { s.wnc with enc := e }

theorem encoderChange_eq (e : EncoderPins) (s : State) :
    encoderChange e s =
      if e = s.wnc.enc then s
      else if e = nextPins s.wnc.enc then encoderStep 1 (sampled e s)
      else if s.wnc.enc = nextPins e then encoderStep (-1) (sampled e s)
      else encoderError (sampled e s) := by
  simp only [encoderChange, encPhase_same, encPhase_forward, encPhase_backward, sampled]

theorem encoderChange_same (h : e = s.wnc.enc) : encoderChange e s = s := by rw [encoderChange_eq, if_pos h]

theorem encoderChange_forward (h : e = nextPins s.wnc.enc) : encoderChange e s = encoderStep 1 (sampled e s) := by
  rw [encoderChange_eq, if_neg (by rw [h]; exact nextPins_ne _), if_pos h]

theorem encoderChange_backward (h : s.wnc.enc = nextPins e) : encoderChange e s = encoderStep (-1) (sampled e s) := by
  have hne : e ≠ s.wnc.enc := by
    rw [h]
    exact (nextPins_ne e).symm
  rw [encoderChange_eq, if_neg hne, if_neg (nextPins_not_back h), if_pos h]

/-- Both lines changed at once. -/
theorem encoderChange_error (ha : e.a ≠ s.wnc.enc.a) (hb : e.b ≠ s.wnc.enc.b) : encoderChange e s = encoderError (sampled e s) := by
  rw [encoderChange_eq, if_neg, if_neg, if_neg]
  · intro h
    have hline := nextPins_line e
    rw [← h] at hline
    exact hline.elim (fun h' => ha h'.symm) (fun h' => hb h'.symm)
  · intro h
    have hline := nextPins_line s.wnc.enc
    rw [← h] at hline
    exact hline.elim ha hb
  · intro h
    exact ha (congrArg EncoderPins.a h)

/-- A step of the sequence counts ±1. -/
theorem encoderChange_step (h : e = nextPins s.wnc.enc ∨ s.wnc.enc = nextPins e) :
    encoderChange e s = encoderStep (if e = nextPins s.wnc.enc then 1 else -1) (sampled e s) := by
  rcases h with h | h
  · rw [if_pos h, encoderChange_forward h]
  · rw [if_neg (nextPins_not_back h), encoderChange_backward h]

/-- The part with a count added. -/
def counted (d : Int) (s : State) : State :=
  s.withWnc { s.wnc with windowSum := s.wnc.windowSum + d, position := s.wnc.position + d }

theorem encoderStep_within {d : Int} (h : -2000000 ≤ s.wnc.position + d ∧ s.wnc.position + d ≤ 2000000) :
    encoderStep d s = countChecks (counted d s) := by
  have hwithin : ¬(2000000 < s.wnc.position + d ∨ s.wnc.position + d < -2000000) := by omega
  exact if_neg hwithin

/-- A count past the end of the range leaves the position at the end, invalid. -/
theorem encoderStep_past {d : Int} (h : 2000000 < s.wnc.position + d ∨ s.wnc.position + d < -2000000)
    (hend : clampInt (-2000000) 2000000 (s.wnc.position + d) = s.wnc.position) :
    encoderStep d s = countChecks (loseValidity (s.withWnc { s.wnc with windowSum := s.wnc.windowSum + d })) := by
  have hpast : encoderStep d s = countChecks (loseValidity (s.withWnc { s.wnc with
    windowSum := s.wnc.windowSum + d, position := clampInt (-2000000) 2000000 (s.wnc.position + d) })) := if_pos h
  rw [hpast, hend]

/-! ### The checks of a count -/

/-- A running pull is at its target or past it. -/
def Wnc.arrives (w : Wnc) : Prop :=
  w.state = .pull ∧ ((w.dir = .inward ∧ w.position ≤ w.target) ∨ (w.dir = .outward ∧ w.target ≤ w.position))

theorem countChecks_arrives (h : s.wnc.arrives) : countChecks s = endOp .reached .braked s := by
  obtain ⟨hpull, hreached⟩ := h
  exact if_pos (by simpa [hpull] using (pullReached_iff _).2 hreached)

theorem countChecks_limit (h : ¬s.wnc.arrives) : countChecks s = limitCheck s := by
  refine if_neg ?_
  rw [Bool.and_eq_true, decide_eq_true_iff, pullReached_iff]
  exact h

/-- A pull whose position becomes invalid ends FAULT. -/
theorem loseValidity_pull (hop : s.wnc.hasOp = true) (hpull : s.wnc.op = some .pull) :
    loseValidity s =
      { s with
        wnc := { s.wnc with
          valid := false, state := .braked, duty := 0, op := none, reasons := noReasons, stall := none, last := .fault }
        lif := posted
          { type := 0xE3
            fields := [.u8 8, .i32 (positionMm s), .u8 0] ++
              reasonFields (if s.wnc.state = .suspended then s.wnc.reasons else noReasons) } s.lif } := by
  have hfault : loseValidity s = endOp .fault .braked (s.withWnc { s.wnc with valid := false }) := by
    refine if_pos ?_
    rw [Bool.and_eq_true, decide_eq_true_iff]
    exact ⟨hop, hpull⟩
  rw [hfault, endOp_eq]
  rfl

theorem loseValidity_other (h : s.wnc.hasOp = false ∨ s.wnc.op ≠ some .pull) :
    loseValidity s = s.withWnc { s.wnc with valid := false } := by
  refine if_neg ?_
  rw [Bool.and_eq_true, decide_eq_true_iff]
  rintro ⟨hop, hpull⟩
  rcases h with h | h
  · cases h.symm.trans hop
  · exact h hpull

/-- A winch without a valid position that does not pull has nothing to check. -/
theorem countChecks_invalid (hpull : s.wnc.state ≠ .pull) (hv : s.wnc.valid = false) : countChecks s = s := by
  rw [countChecks_limit fun h => hpull h.1, limitCheck_same (.inl hv)]

end Encoder

/-- Settles O42: the pair before decides the count; within the range the checks follow, past its end and at an error the position becomes
invalid. -/
theorem encoderCountsTheLine : Obligations.EncoderCountsTheLine := by
  unfold Obligations.EncoderCountsTheLine
  intro next
  have hexec {e : EncoderPins} {s t : State} (hr : s.power = .running) (ht : encoderChange e s = t) :
      exec (.encoderCount e) s = .next t := by
    rw [← ht]
    exact congrArg Host.Outcome.next (whenRunning_runs hr)
  refine ⟨fun e s hr => ?steps, fun e s hr => ?ends, fun s hr => ?window⟩
  case steps =>
    intro w d stepped reached cnt stopped old
    have hstep (h : stepped) : encoderChange e s = countChecks (counted d (sampled e s)) := by
      obtain ⟨hpins, hrange⟩ := h
      exact (encoderChange_step hpins).trans (encoderStep_within (s := sampled e s) hrange)
    have hlimit (h : stepped) (hreached : ¬reached) : encoderChange e s = limitCheck (counted d (sampled e s)) :=
      (hstep h).trans (countChecks_limit hreached)
    refine ⟨fun h => hexec hr (encoderChange_same h), fun h hreached hnone => hexec hr ((hlimit h hreached).trans ?same),
      fun h hreached hv hd hold => hexec hr ((hlimit h hreached).trans ?old),
      fun h hreached => hexec hr ((hstep h).trans ?reached),
      fun h hreached hv hd hstop => hexec hr ((hlimit h hreached).trans ?stopped),
      fun ha hb hop => hexec hr ((encoderChange_error ha hb).trans ?error),
      fun ha hb hop hpull => hexec hr ((encoderChange_error ha hb).trans ?fault)⟩
    case same =>
      refine limitCheck_same (s := counted d (sampled e s)) ?_
      rcases hnone with hst | hv | hclear
      · refine .inr (.inl ?_)
        rcases hst with hst | hst | hst | hst <;> exact (congrArg WinchState.driving hst).trans rfl
      · exact .inl hv
      · exact .inr (.inr hclear)
    case old =>
      rw [limitCheck_oldDuty (s := counted d (sampled e s)) hv hd hold]
      rfl
    case reached =>
      have hdriving : (counted d (sampled e s)).wnc.state.driving = true := (congrArg WinchState.driving hreached.1).trans rfl
      rw [countChecks_arrives (s := counted d (sampled e s)) hreached, endOp_driving _ _ hdriving]
      rfl
    case stopped =>
      have hflag : (counted d (sampled e s)).wnc.valid.toNat = 1 := congrArg Bool.toNat hv
      rw [limitCheck_stops (s := counted d (sampled e s)) hv hd hstop, endOp_driving _ _ (by exact hd), hflag]
      rfl
    case error =>
      rw [encoderError, loseValidity_other (by exact hop), countUp_255]
      rfl
    case fault =>
      rw [encoderError, loseValidity_pull (by exact hop) (by exact hpull), countUp_255]
      rfl
  case ends =>
    intro w forward backward cnt hend
    have hpast : encoderChange e s =
        countChecks (loseValidity ((sampled e s).withWnc { (sampled e s).wnc with
          windowSum := w.windowSum + (if forward then 1 else -1) })) := by
      rcases hend with ⟨hfwd, hpos⟩ | ⟨hback, hpos⟩
      · have hpos' : (sampled e s).wnc.position = 2000000 := hpos
        rw [if_pos hfwd, encoderChange_forward hfwd, encoderStep_past]
        · rfl
        · omega
        · rw [hpos']
          rfl
      · have hpos' : (sampled e s).wnc.position = -2000000 := hpos
        have hnot : ¬forward := nextPins_not_back hback
        rw [if_neg hnot, encoderChange_backward hback, encoderStep_past]
        · rfl
        · omega
        · rw [hpos']
          rfl
    refine ⟨fun hpull hop => hexec hr (hpast.trans ?_), fun hop hpull => hexec hr (hpast.trans ?_)⟩
    · rw [loseValidity_other (by exact hop), countChecks_invalid (by exact hpull) rfl]
      rfl
    · rw [loseValidity_pull (by exact hop) (by exact hpull), countChecks_braked rfl]
      rfl
  case window =>
    refine ⟨fun h => ?_, fun h => ?_⟩
    · exact (exec_of_event rfl s).trans (congrArg _ (whenDue_due hr (by simpa [windowDue] using h)))
    · exact (exec_of_event rfl s).trans (congrArg _ (whenDue_not (by simpa [windowDue] using h)))

end Sys2Proof.Machine

namespace Sys2Proof.Machine

/-! ## STEER_MODE -/

section SteerMode

variable {s : State} {m : SteerMode}

theorem steerModeOf_code (m : SteerMode) : steerModeOf m.code = some m := by cases m <;> rfl

theorem steerModeOf_none {n : Nat} (h : 4 ≤ n) : steerModeOf n = none := by
  obtain ⟨k, rfl⟩ := Nat.exists_eq_add_of_le' h
  rfl

/-- The hold record as a taken STEER_MODE leaves it: in HOLD its mode-change flag is set. -/
theorem noteModeChange_eq (s : State) :
    noteModeChange s =
      s.withCsc (if s.csc.chassis = .hold then { s.csc with hold := s.csc.hold.map fun h => { h with modeChange := true } }
        else s.csc) := by
  unfold noteModeChange
  split
  · next h hhold =>
    split <;> simp [hhold]
  · next hnone =>
    have hsame : { s.csc with hold := s.csc.hold.map fun h => { h with modeChange := true } } = s.csc := by
      rw [hnone]
      exact congrArg (fun x => { s.csc with hold := x }) hnone.symm
    rw [hsame, ite_self]
    rfl

theorem startedBlend_eq (b : Blend) (left : SteerMode) (angle : Int) :
    startedBlend b left angle =
      if b.active then { b with fromKind := .frozen, frozen := angle, elapsedUs := 0 }
      else { b with fromKind := .mode, fromMode := left, elapsedUs := 0, active := true } := by
  unfold startedBlend
  split
  · next h => rw [← h]
  · rfl

theorem startedBlend_active (b : Blend) (left : SteerMode) (angle : Int) : (startedBlend b left angle).active = true := by
  unfold startedBlend
  split <;> rfl

/-- In RUN and HOLD a new mode with a blend length starts a blend on each axle. -/
theorem changeMode_blends (hc : s.csc.chassis = .run ∨ s.csc.chassis = .hold) (hb : s.cfg.smx.blendMs ≠ 0) :
    changeMode m s =
      noteModeChange (s.withSmx { s.smx with
        target := m
        frontBlend := startedBlend s.smx.frontBlend s.smx.target s.smx.frontAngle
        rearBlend := startedBlend s.smx.rearBlend s.smx.target s.smx.rearAngle }) := by
  refine if_pos ?_
  rcases hc with hc | hc <;> simp [hc, hb]

/-- Otherwise it is in force at once. -/
theorem changeMode_atOnce (h : (s.csc.chassis ≠ .run ∧ s.csc.chassis ≠ .hold) ∨ s.cfg.smx.blendMs = 0) :
    changeMode m s =
      noteModeChange (s.withSmx { s.smx with
        target := m, frontBlend := stoppedBlend s.smx.frontBlend, rearBlend := stoppedBlend s.smx.rearBlend }) := by
  refine if_neg ?_
  rcases h with ⟨hrun, hhold⟩ | h
  · simp [hrun, hhold]
  · simp [h]

variable {b : Byte}

theorem steerModeOwner_badValue (h : 4 ≤ b.toNat) (s : State) : steerModeOwner [b] s = (s, steerModeReply .badValue s) := by
  have hnone : steerModeOf (u8At [b] 0) = none := steerModeOf_none h
  simp only [steerModeOwner, hnone]

theorem steerModeOwner_same (h : b.toNat = s.smx.target.code) : steerModeOwner [b] s = (s, steerModeReply .ok s) := by
  have hmode : steerModeOf (u8At [b] 0) = some s.smx.target := (congrArg steerModeOf h).trans (steerModeOf_code _)
  simp only [steerModeOwner, hmode, if_true]

theorem steerModeOwner_changes (h : m.code = b.toNat) (hne : m ≠ s.smx.target) :
    steerModeOwner [b] s = (changeMode m s, steerModeReply .ok (changeMode m s)) := by
  have hmode : steerModeOf (u8At [b] 0) = some m := (congrArg steerModeOf h.symm).trans (steerModeOf_code _)
  simp only [steerModeOwner, hmode, if_neg hne]

end SteerMode

/-- Settles O20: an unknown code, the mode in force, and a new mode with and without a blend. -/
theorem steerModeStartsTheBlends : Obligations.SteerModeStartsTheBlends := by
  intro b s htakes
  have hexec {t u : State} {fields : List Field} (howner : steerModeOwner [b] (popIntake s) = (t, fields))
      (hu : putReply { type := 0x08 + 0x80#8, fields := fields } t = u) : exec (.steerMode [b]) s = .next u :=
    exec_of_owner (i := .steerMode [b]) rfl htakes rfl howner hu
  refine ⟨fun h => hexec (steerModeOwner_badValue h _) rfl, fun h => hexec (steerModeOwner_same h) rfl,
    fun m hm hne => ⟨fun hc hb => hexec (steerModeOwner_changes hm hne) ?blends,
      fun h => hexec (steerModeOwner_changes hm hne) ?atOnce⟩⟩
  case blends =>
    rw [changeMode_blends (s := popIntake s) hc hb, noteModeChange_eq, steerModeReply]
    simp only [withCsc_smx, withSmx_smx, startedBlend_active]
    simp only [startedBlend_eq]
    rfl
  case atOnce =>
    rw [changeMode_atOnce (s := popIntake s) h, noteModeChange_eq]
    rfl

/-! ## Curve loading -/

section CurveLoading

variable {s : State} {id : CurveId} {n : Nat}

theorem curveIdOf_none (h : 3 ≤ n) : curveIdOf n = none := by
  obtain ⟨k, rfl⟩ := Nat.exists_eq_add_of_le' h
  rfl

@[simp] theorem load_setLoad (m : Smx) (id : CurveId) (l : CurveLoad) : (m.setLoad id l).load id = l := by cases id <;> rfl

theorem storeRunning_iff : storeRunning s = true ↔ s.pst.writing ≠ none := by simp [storeRunning, Option.isSome_iff_ne_none]

/-! ### CURVE_BEGIN -/

section Begin

variable {b : Byte}

theorem curveBeginOwner_opens (hid : curveIdOf b.toNat = some id) (hidle : s.pst.writing = none)
    (hpending : (s.smx.load id).state ≠ .pending) :
    curveBeginOwner [b] s =
      (s.withSmx (s.smx.setLoad id { state := .opened, pointer := 0, shadow := activeTable s.cfg id }),
        [rc .ok, .u8 b.toNat, .unsized .curveBeginPointer 0]) := by
  have hcode : curveIdOf (u8At [b] 0) = some id := hid
  simp only [curveBeginOwner, storeRunning_of_idle hidle, hcode, if_neg hpending]
  rfl

theorem curveBeginOwner_busy (hid : curveIdOf b.toNat = some id)
    (h : s.pst.writing ≠ none ∨ (s.smx.load id).state = .pending) :
    curveBeginOwner [b] s = (s, [rc .busy, .u8 b.toNat, .unsized .curveBeginPointer (s.smx.load id).pointer]) := by
  have hcode : curveIdOf (u8At [b] 0) = some id := hid
  have hrefusal : curveBeginRefusal .busy [b] s =
      (s, [rc .busy, .u8 b.toNat, .unsized .curveBeginPointer (s.smx.load id).pointer]) := by
    simp only [curveBeginRefusal, hcode]
    rfl
  rw [← hrefusal]
  by_cases hstore : storeRunning s = true
  · exact if_pos hstore
  · have hpending : (s.smx.load id).state = .pending := h.resolve_left fun hw => hstore (storeRunning_iff.2 hw)
    simp only [curveBeginOwner, if_neg hstore, hcode, if_pos hpending]

theorem curveBeginOwner_noTable (h : 3 ≤ b.toNat) :
    curveBeginOwner [b] s =
      (s.useFree 1, [rc (if s.pst.writing = none then .badValue else .busy), .u8 b.toNat,
        .unsized .curveBeginPointer (s.free 0)]) := by
  have hcode : curveIdOf (u8At [b] 0) = none := curveIdOf_none h
  by_cases hidle : s.pst.writing = none
  · simp only [curveBeginOwner, storeRunning_of_idle hidle, hcode, curveBeginRefusal, if_pos hidle]
    rfl
  · simp only [curveBeginOwner, storeRunning_of_writing hidle, hcode, curveBeginRefusal, if_neg hidle]
    rfl

end Begin

/-- The two codes of a request that names nothing: BUSY while a store runs. -/
theorem rc_busy_or (c : Prop) [Decidable c] (r : ResultCode) :
    rc (if c then r else .busy) = .u8 (if c then r.code else 2) := by split <;> rfl

end CurveLoading

/-- Settles O21. -/
theorem curveBeginOpensTheLoad : Obligations.CurveBeginOpensTheLoad := by
  intro b s htakes
  have hexec {t u : State} {fields : List Field} (howner : curveBeginOwner [b] (popIntake s) = (t, fields))
      (hu : putReply { type := 0x09 + 0x80#8, fields := fields } t = u) : exec (.curveBegin [b]) s = .next u :=
    exec_of_owner (i := .curveBegin [b]) rfl htakes rfl howner hu
  refine ⟨fun id hid => ⟨fun hidle hpending => hexec (curveBeginOwner_opens hid hidle hpending) rfl,
    fun h => hexec (curveBeginOwner_busy hid h) rfl⟩, fun h => hexec (curveBeginOwner_noTable h) ?_⟩
  rw [rc_busy_or]
  rfl

end Sys2Proof.Machine

namespace Sys2Proof.Machine

/-! ## CURVE_DATA -/

section CurveData

variable {s : State} {id : CurveId} {b : Byte} {vs : List Byte}

theorem writeCurve_writes {v : Int} {rest : List Int} {l : CurveLoad} (h : l.pointer < 17) :
    writeCurve (v :: rest) l =
      writeCurve rest { l with shadow := l.shadow.set l.pointer (clampInt (-1000) 1000 v), pointer := l.pointer + 1 } := by
  rw [writeCurve, dif_pos h]

theorem writeCurve_full {ws : List Int} {l : CurveLoad} (h : 17 ≤ l.pointer) : writeCurve ws l = l := by
  cases ws with
  | nil => rfl
  | cons v rest => rw [writeCurve, dif_neg (not_lt.2 h)]

theorem writeCurve_state (ws : List Int) (l : CurveLoad) : (writeCurve ws l).state = l.state := by
  induction ws generalizing l with
  | nil => rfl
  | cons v rest ih =>
    by_cases h : l.pointer < 17
    · rw [writeCurve_writes h, ih]
    · rw [writeCurve_full (not_lt.1 h)]

theorem writeCurve_pointer (ws : List Int) (l : CurveLoad) (h : l.pointer ≤ 17) :
    (writeCurve ws l).pointer = min 17 (l.pointer + ws.length) := by
  induction ws generalizing l with
  | nil =>
    rw [writeCurve, List.length_nil]
    omega
  | cons v rest ih =>
    rw [List.length_cons]
    by_cases hlt : l.pointer < 17
    · rw [writeCurve_writes hlt, ih _ (by exact hlt)]
      dsimp only
      omega
    · rw [writeCurve_full (not_lt.1 hlt)]
      omega

/-- Entries before the pointer are not written. -/
theorem writeCurve_before (ws : List Int) (l : CurveLoad) (j : Fin 17) (h : j.val < l.pointer) :
    (writeCurve ws l).shadow[j] = l.shadow[j] := by
  induction ws generalizing l with
  | nil => rfl
  | cons v rest ih =>
    by_cases hlt : l.pointer < 17
    · rw [writeCurve_writes hlt, ih _ (by exact Nat.lt_succ_of_lt h)]
      exact Vector.getElem_set_ne hlt j.isLt (by omega)
    · rw [writeCurve_full (not_lt.1 hlt)]

/-- From the pointer on the entries take the values in order, clamped. -/
theorem writeCurve_written (ws : List Int) (l : CurveLoad) (j : Fin 17) (hfrom : l.pointer ≤ j.val)
    (hto : j.val < l.pointer + ws.length) :
    (writeCurve ws l).shadow[j] = clampInt (-1000) 1000 (ws.getD (j.val - l.pointer) 0) := by
  induction ws generalizing l with
  | nil => simp at hto; omega
  | cons v rest ih =>
    have hlt : l.pointer < 17 := by omega
    rw [writeCurve_writes hlt]
    by_cases hhere : j.val = l.pointer
    · rw [writeCurve_before _ _ j (by exact Nat.lt_succ_of_le hhere.le)]
      have hget : (v :: rest).getD (j.val - l.pointer) 0 = v := by rw [hhere, Nat.sub_self]; rfl
      rw [hget]
      simp [hhere]
    · have hnext : l.pointer + 1 ≤ j.val := by omega
      rw [List.length_cons] at hto
      have hget : (v :: rest).getD (j.val - l.pointer) 0 = rest.getD (j.val - (l.pointer + 1)) 0 := by
        obtain ⟨d, hd⟩ := Nat.exists_eq_add_of_le hnext
        have h1 : j.val - l.pointer = d + 1 := by omega
        have h2 : j.val - (l.pointer + 1) = d := by omega
        rw [h1, h2]
        rfl
      rw [ih _ (by exact hnext) (by dsimp only; omega), hget]

/-- Entries past the values are not written. -/
theorem writeCurve_after (ws : List Int) (l : CurveLoad) (j : Fin 17) (h : l.pointer + ws.length ≤ j.val) :
    (writeCurve ws l).shadow[j] = l.shadow[j] := by
  induction ws generalizing l with
  | nil => rfl
  | cons v rest ih =>
    rw [List.length_cons] at h
    have hlt : l.pointer < 17 := by omega
    rw [writeCurve_writes hlt, ih _ (by dsimp only; omega)]
    exact Vector.getElem_set_ne hlt j.isLt (by omega)

theorem curveDataCode_code (ws : List Int) (l : CurveLoad) :
    (curveDataCode ws l).code =
      if 17 < l.pointer + ws.length then 8 else if ∀ v ∈ ws, -1000 ≤ v ∧ v ≤ 1000 then 0 else 1 := by
  have hall : (ws.all fun v => decide (clampInt (-1000) 1000 v = v)) = true ↔ ∀ v ∈ ws, -1000 ≤ v ∧ v ≤ 1000 := by
    rw [List.all_eq_true]
    refine forall₂_congr fun v _ => ?_
    rw [decide_eq_true_iff, clampInt]
    omega
  unfold curveDataCode
  split
  · rfl
  · by_cases h : (ws.all fun v => decide (clampInt (-1000) 1000 v = v)) = true
    · rw [if_pos h, if_pos (hall.1 h)]
      rfl
    · rw [if_neg h, if_neg (mt hall.2 h)]
      rfl

theorem curveDataOwner_writes (hid : curveIdOf b.toNat = some id) (hidle : s.pst.writing = none)
    (hopen : (s.smx.load id).state = .opened) :
    curveDataOwner (b :: vs) s =
      (s.withSmx (s.smx.setLoad id (writeCurve (i16List vs) (s.smx.load id))),
        [rc (curveDataCode (i16List vs) (s.smx.load id)),
          .unsized .curveDataCount (((writeCurve (i16List vs) (s.smx.load id)).pointer : Int) - (s.smx.load id).pointer),
          .unsized .curveDataPointer (writeCurve (i16List vs) (s.smx.load id)).pointer]) := by
  have hcode : curveIdOf (u8At (b :: vs) 0) = some id := hid
  simp only [curveDataOwner, storeRunning_of_idle hidle, hcode, if_pos hopen]
  rfl

theorem curveDataOwner_refuses (hid : curveIdOf b.toNat = some id)
    (h : s.pst.writing ≠ none ∨ (s.smx.load id).state ≠ .opened) :
    curveDataOwner (b :: vs) s =
      (s, [rc (if s.pst.writing = none then .wrongState else .busy), .unsized .curveDataCount 0,
        .unsized .curveDataPointer (s.smx.load id).pointer]) := by
  have hcode : curveIdOf (u8At (b :: vs) 0) = some id := hid
  by_cases hidle : s.pst.writing = none
  · have hopen : (s.smx.load id).state ≠ .opened := h.resolve_left fun hw => hw hidle
    simp only [curveDataOwner, storeRunning_of_idle hidle, hcode, if_neg hopen, curveDataRefusal, if_pos hidle]
    rfl
  · simp only [curveDataOwner, storeRunning_of_writing hidle, curveDataRefusal, hcode, if_neg hidle]
    rfl

theorem curveDataOwner_noTable (h : 3 ≤ b.toNat) :
    curveDataOwner (b :: vs) s =
      (s.useFree 1, [rc (if s.pst.writing = none then .badValue else .busy), .unsized .curveDataCount 0,
        .unsized .curveDataPointer (s.free 0)]) := by
  have hcode : curveIdOf (u8At (b :: vs) 0) = none := curveIdOf_none h
  by_cases hidle : s.pst.writing = none
  · simp only [curveDataOwner, storeRunning_of_idle hidle, hcode, curveDataRefusal, if_pos hidle]
    rfl
  · simp only [curveDataOwner, storeRunning_of_writing hidle, hcode, curveDataRefusal, if_neg hidle]
    rfl

end CurveData

/-- Settles O22: the writes by induction over the values, and the refusals. -/
theorem curveDataFillsTheShadow : Obligations.CurveDataFillsTheShadow := by
  have hexec {b : Byte} {vs : List Byte} {s t u : State} {fields : List Field} (htakes : Takes 0x0A (b :: vs) s)
      (hlen : lengthAllowed 0x0A (vs.length + 1) = true) (howner : curveDataOwner (b :: vs) (popIntake s) = (t, fields))
      (hu : putReply { type := 0x0A + 0x80#8, fields := fields } t = u) : exec (.curveData (b :: vs)) s = .next u :=
    exec_of_owner (i := .curveData (b :: vs)) rfl htakes hlen howner hu
  refine ⟨fun id b vs s htakes hid hlen => ⟨fun hidle hopen hptr => ?writes, fun h => ?refuses⟩, fun b vs s htakes h hlen => ?noTable⟩
  case writes =>
    have hlast := writeCurve_pointer (i16List vs) (s.smx.load id) hptr
    refine ⟨_, hexec htakes hlen (curveDataOwner_writes (s := popIntake s) hid hidle hopen) rfl, ?_⟩
    simp only [putReply, popIntake, withLif_smx, withSmx_smx, load_setLoad]
    refine ⟨?_, (writeCurve_state _ _).trans hopen, hlast, fun j hfrom hto => ?_, fun j hj => ?_⟩
    · rw [rc, curveDataCode_code]
      rfl
    · exact writeCurve_written _ _ j hfrom (by omega)
    · by_cases hbefore : j.val < (s.smx.load id).pointer
      · exact writeCurve_before _ _ j hbefore
      · exact writeCurve_after _ _ j (by omega)
  case refuses =>
    refine hexec htakes hlen (curveDataOwner_refuses (s := popIntake s) hid h) ?_
    rw [rc_busy_or]
    rfl
  case noTable =>
    refine hexec htakes hlen (curveDataOwner_noTable (s := popIntake s) h) ?_
    rw [rc_busy_or]
    rfl

/-! ## CURVE_COMMIT -/

section Commit

variable {s : State} {id : CurveId} {t : CurveTable}

theorem curveAt_of_lt {k : Nat} (h : k < 17) : curveAt t k = t[k] := by simp [curveAt, h]

theorem commitCheck_centre (h : t[8] ≠ 0) : commitCheck t = (1, 8) := if_pos (by rwa [curveAt_of_lt])

/-- With the centre at 0 the order decides. -/
theorem commitCheck_order (h : t[8] = 0) :
    commitCheck t = match orderFault t with
      | some i => (2, i)
      | none => (0, 0) :=
  (if_neg (by rw [curveAt_of_lt (by omega)]; exact not_not.2 h)).trans rfl

theorem orderFault_none (h : ∀ i : Fin 16, t[i.val] ≤ t[i.val + 1]) : orderFault t = none := by
  rw [orderFault, Option.map_eq_none_iff, List.find?_range_eq_none]
  intro i hi
  have hle := h ⟨i, hi⟩
  rw [Bool.not_eq_true', decide_eq_false_iff_not, curveAt_of_lt (by omega), curveAt_of_lt (by omega)]
  exact not_lt.2 hle

/-- The lowest entry below the one before it. -/
theorem orderFault_first (i : Fin 16) (h : t[i.val + 1] < t[i.val]) (hfirst : ∀ j : Fin 16, j < i → t[j.val] ≤ t[j.val + 1]) :
    orderFault t = some (i.val + 1) := by
  have hfind : (List.range 16).find? (fun i => decide (curveAt t (i + 1) < curveAt t i)) = some i.val := by
    rw [List.find?_range_eq_some]
    refine ⟨?_, List.mem_range.2 i.isLt, fun j hj => ?_⟩
    · rw [decide_eq_true_iff, curveAt_of_lt (by omega), curveAt_of_lt (by omega)]
      exact h
    · have hle := hfirst ⟨j, by omega⟩ hj
      rw [Bool.not_eq_true', decide_eq_false_iff_not, curveAt_of_lt (by omega), curveAt_of_lt (by omega)]
      exact not_lt.2 hle
  rw [orderFault, hfind]
  rfl

variable {b : Byte}

theorem curveCommitOwner_opened (hid : curveIdOf b.toNat = some id) (hidle : s.pst.writing = none)
    (hopen : (s.smx.load id).state = .opened) :
    curveCommitOwner [b] s =
      if (commitCheck (s.smx.load id).shadow).1 = 0 then
        (s.withSmx (s.smx.setLoad id { s.smx.load id with state := .pending }), [rc .ok, .u8 0, .u8 0])
      else (s, [rc .badValue, .u8 (commitCheck (s.smx.load id).shadow).1, .u8 (commitCheck (s.smx.load id).shadow).2]) := by
  have hcode : curveIdOf (u8At [b] 0) = some id := hid
  simp only [curveCommitOwner, storeRunning_of_idle hidle, hcode, if_pos hopen]
  rfl

theorem curveCommitOwner_refuses (hid : curveIdOf b.toNat = some id)
    (h : s.pst.writing ≠ none ∨ (s.smx.load id).state ≠ .opened) :
    curveCommitOwner [b] s = curveCommitRefusal (if s.pst.writing = none then .wrongState else .busy) s := by
  have hcode : curveIdOf (u8At [b] 0) = some id := hid
  by_cases hidle : s.pst.writing = none
  · have hopen : (s.smx.load id).state ≠ .opened := h.resolve_left fun hw => hw hidle
    simp only [curveCommitOwner, storeRunning_of_idle hidle, hcode, if_neg hopen, if_pos hidle]
    rfl
  · simp only [curveCommitOwner, storeRunning_of_writing hidle, if_neg hidle, if_true]

theorem curveCommitOwner_noTable (h : 3 ≤ b.toNat) :
    curveCommitOwner [b] s = curveCommitRefusal (if s.pst.writing = none then .badValue else .busy) s := by
  have hcode : curveIdOf (u8At [b] 0) = none := curveIdOf_none h
  by_cases hidle : s.pst.writing = none
  · simp only [curveCommitOwner, storeRunning_of_idle hidle, hcode, if_pos hidle]
    rfl
  · simp only [curveCommitOwner, storeRunning_of_writing hidle, if_neg hidle, if_true]

/-! ### A table comes into force -/

/-- The part with a PENDING table in force and its load closed. -/
theorem curveChangeover_pending (h : (s.smx.load id).state = .pending) :
    curveChangeover id s =
      (s.withCfg (setActiveTable s.cfg id (s.smx.load id).shadow)).withSmx
        (s.smx.setLoad id { state := .closed, pointer := 0, shadow := (s.smx.load id).shadow }) := if_pos h

theorem curveChangeover_other (h : (s.smx.load id).state ≠ .pending) : curveChangeover id s = s := if_neg h

/-- A changeover leaves nothing to change over. -/
theorem curveChangeover_idem (id : CurveId) (s : State) : curveChangeover id (curveChangeover id s) = curveChangeover id s := by
  by_cases h : (s.smx.load id).state = .pending
  · apply curveChangeover_other
    rw [curveChangeover_pending h, withSmx_smx, load_setLoad]
    exact LoadState.noConfusion
  · rw [curveChangeover_other h, curveChangeover_other h]

end Commit

end Sys2Proof.Machine

namespace Sys2Proof.Machine

/-! ## The frame start -/

section FrameStart

variable {s : State} {ch : ServoCh}

@[simp] theorem servoChan_setChan_same (g : Spg) (ch : ServoCh) (c : ServoChan) : (g.setChan ch c).chan ch = c := by cases ch <;> rfl

theorem servoChan_setChan_other {ch ch' : ServoCh} (g : Spg) (c : ServoChan) (h : ch' ≠ ch) :
    (g.setChan ch c).chan ch' = g.chan ch' := by
  cases ch <;> cases ch' <;> simp_all [Spg.setChan, Spg.chan]

@[simp] theorem servoSetChan_twice (g : Spg) (ch : ServoCh) (c c' : ServoChan) : (g.setChan ch c).setChan ch c' = g.setChan ch c' := by
  cases ch <;> rfl

@[simp] theorem servoSetChan_self (g : Spg) (ch : ServoCh) : g.setChan ch (g.chan ch) = g := by cases ch <;> rfl

@[simp] theorem servoSetChan_shift (g : Spg) (ch : ServoCh) (c : ServoChan) : (g.setChan ch c).shift = g.shift := by cases ch <;> rfl

theorem setServo_self (ch : ServoCh) (s : State) : setServo ch (s.spg.chan ch) s = s := by
  rw [setServo, servoSetChan_self]
  rfl

/-- Steps 0 and 1 of a frame start: the period comes into force, then a waiting set. -/
def setup (ch : ServoCh) (s : State) : State := endpointChangeover ch (latchPeriod ch s)

theorem setup_plain (h : (s.spg.chan ch).waiting = none) :
    setup ch s = setServo ch { s.spg.chan ch with periodMs := s.cfg.spg.period ch } s := by
  simp only [setup, endpointChangeover, latchPeriod, setServo, withSpg_spg, servoChan_setChan_same, h]

/-- A waiting set comes into force and the pulse is clamped into its range. -/
theorem setup_changes {e : Endpoints} (h : (s.spg.chan ch).waiting = some e) :
    setup ch s =
      setServo ch { s.spg.chan ch with
          periodMs := s.cfg.spg.period ch, waiting := none, pOut := clampInt e.lo e.hi (s.spg.chan ch).pOut }
        (s.withCfg { s.cfg with spg := s.cfg.spg.setEnds ch e }) := by
  simp only [setup, endpointChangeover, latchPeriod, setServo, withSpg_spg, servoChan_setChan_same, h, withCfg_spg,
    servoSetChan_twice]
  rfl

/-- The configuration's part of a waiting set. -/
def endsInForce (ch : ServoCh) (s : State) : SpgCfg :=
  match (s.spg.chan ch).waiting with
  | some e => s.cfg.spg.setEnds ch e
  | none => s.cfg.spg

/-- The channel's record after steps 0 and 1. -/
def readyChan (ch : ServoCh) (s : State) : ServoChan := (setup ch s).spg.chan ch

theorem setup_eq (ch : ServoCh) (s : State) :
    setup ch s =
      { s with cfg := { s.cfg with spg := endsInForce ch s }, spg := s.spg.setChan ch (readyChan ch s) } := by
  cases h : (s.spg.chan ch).waiting with
  | none =>
    have hends : endsInForce ch s = s.cfg.spg := by rw [endsInForce, h]
    rw [readyChan, setup_plain h, setServo, withSpg_spg, servoChan_setChan_same, hends]
    rfl
  | some e =>
    have hends : endsInForce ch s = s.cfg.spg.setEnds ch e := by rw [endsInForce, h]
    rw [readyChan, setup_changes h, setServo, withSpg_spg, servoChan_setChan_same, hends]
    rfl

theorem readyChan_plain (h : (s.spg.chan ch).waiting = none) :
    readyChan ch s = { s.spg.chan ch with periodMs := s.cfg.spg.period ch } := by
  rw [readyChan, setup_plain h, setServo, withSpg_spg, servoChan_setChan_same]

theorem readyChan_changes {e : Endpoints} (h : (s.spg.chan ch).waiting = some e) :
    readyChan ch s = { s.spg.chan ch with
      periodMs := s.cfg.spg.period ch, waiting := none, pOut := clampInt e.lo e.hi (s.spg.chan ch).pOut } := by
  rw [readyChan, setup_changes h, setServo, withSpg_spg, servoChan_setChan_same]

theorem readyChan_period (ch : ServoCh) (s : State) : (readyChan ch s).periodMs = s.cfg.spg.period ch := by
  cases h : (s.spg.chan ch).waiting with
  | none => rw [readyChan_plain h]
  | some e => rw [readyChan_changes h]

/-- The record as step 3 leaves it: slewed in RUN and FAILSAFE. -/
def slewedChan (ch : ServoCh) (s : State) : ServoChan :=
  match s.csc.chassis with
  | .run | .failsafe =>
    { s.spg.chan ch with
      pOut := slewToward (s.spg.chan ch).pOut (targetPulse ch s) (effectiveSlew (s.cfg.spg.slew ch) s.pba.pub.servoFactor)
      effSlew := effectiveSlew (s.cfg.spg.slew ch) s.pba.pub.servoFactor }
  | .standby | .hold | .cutoff => s.spg.chan ch

theorem slewStep_eq (ch : ServoCh) (s : State) : slewStep ch s = setServo ch (slewedChan ch s) s := by
  cases h : s.csc.chassis <;> simp only [slewStep, slewedChan, h, setServo_self]

theorem slewedChan_moves (hc : s.csc.chassis = .run ∨ s.csc.chassis = .failsafe) :
    slewedChan ch s =
      { s.spg.chan ch with
        pOut := slewToward (s.spg.chan ch).pOut (targetPulse ch s) (effectiveSlew (s.cfg.spg.slew ch) s.pba.pub.servoFactor)
        effSlew := effectiveSlew (s.cfg.spg.slew ch) s.pba.pub.servoFactor } := by
  rcases hc with hc | hc <;> simp only [slewedChan, hc]

theorem slewedChan_rests (hc : s.csc.chassis = .standby ∨ s.csc.chassis = .hold ∨ s.csc.chassis = .cutoff) :
    slewedChan ch s = s.spg.chan ch := by
  rcases hc with hc | hc | hc <;> simp only [slewedChan, hc]

/-- A record as step 5 leaves it: a pulse in RUN, HOLD and FAILSAFE. -/
def emittedChan (chassis : Chassis) (c : ServoChan) : ServoChan :=
  match chassis with
  | .run | .hold | .failsafe =>
    { c with acc := (emission c.pOut c.acc).2, lastWidth := (emission c.pOut c.acc).1, lineWidth := (emission c.pOut c.acc).1 }
  | .standby | .cutoff => { c with lineWidth := 0 }

theorem emitPulse_eq (ch : ServoCh) (s : State) : emitPulse ch s = setServo ch (emittedChan s.csc.chassis (s.spg.chan ch)) s := by
  cases h : s.csc.chassis <;> simp only [emitPulse, emittedChan, h]

theorem emittedChan_emits {chassis : Chassis} (c : ServoChan) (hc : chassis = .run ∨ chassis = .hold ∨ chassis = .failsafe) :
    emittedChan chassis c =
      { c with acc := (emission c.pOut c.acc).2, lastWidth := (emission c.pOut c.acc).1, lineWidth := (emission c.pOut c.acc).1 } := by
  rcases hc with rfl | rfl | rfl <;> rfl

theorem emittedChan_silent {chassis : Chassis} (c : ServoChan) (hc : chassis = .standby ∨ chassis = .cutoff) :
    emittedChan chassis c = { c with lineWidth := 0 } := by
  rcases hc with rfl | rfl <;> rfl

@[simp] theorem emittedChan_keeps (chassis : Chassis) (c : ServoChan) :
    (emittedChan chassis c).periodMs = c.periodMs ∧ (emittedChan chassis c).waiting = c.waiting ∧
      (emittedChan chassis c).pOut = c.pOut ∧ (emittedChan chassis c).effSlew = c.effSlew := by
  cases chassis <;> exact ⟨rfl, rfl, rfl, rfl⟩

@[simp] theorem slewedChan_keeps (ch : ServoCh) (s : State) :
    (slewedChan ch s).periodMs = (s.spg.chan ch).periodMs ∧ (slewedChan ch s).waiting = (s.spg.chan ch).waiting ∧
      (slewedChan ch s).acc = (s.spg.chan ch).acc ∧ (slewedChan ch s).lastWidth = (s.spg.chan ch).lastWidth := by
  unfold slewedChan
  split <;> exact ⟨rfl, rfl, rfl, rfl⟩

/-! ### The frame start of an axle's servo -/

section Axle

variable {axle : Axle}

/-- The part when the mixer of an axle has made its computation. -/
def mixed (axle : Axle) (s : State) : State := smxFrame axle (s.cfg.spg.period (axleServo axle)) (setup (axleServo axle) s)

theorem channelWork_axle (axle : Axle) (s : State) :
    channelWork (axleServo axle) (setup (axleServo axle) s) = mixed axle s := by
  have hperiod : ((setup (axleServo axle) s).spg.chan (axleServo axle)).periodMs = s.cfg.spg.period (axleServo axle) :=
    readyChan_period (axleServo axle) s
  rw [mixed, ← hperiod]
  cases axle <;> rfl

theorem mixed_spg (axle : Axle) (s : State) :
    (mixed axle s).spg = s.spg.setChan (axleServo axle) (readyChan (axleServo axle) s) := by
  rw [mixed, (smxFrame_keeps _ _ _).2.2.2.2.2.1, setup_eq]

end Axle

end FrameStart

end Sys2Proof.Machine

namespace Sys2Proof.Machine

section Axle

variable {s : State} {axle : Axle} {ch : ServoCh} {id : CurveId}

theorem exec_servoFrameStart (ch : ServoCh) (hpower : s.power = .running) :
    exec (.servoFrameStart ch) s = .next (frameStart ch s) := congrArg Host.Outcome.next (whenRunning_runs hpower)

/-- The record of an axle's servo as its frame start leaves it. -/
def axleChan (axle : Axle) (s : State) : ServoChan := emittedChan s.csc.chassis (slewedChan (axleServo axle) (mixed axle s))

/-- The frame start of an axle's servo: setup and mixer, then the servo's record. -/
theorem frameStart_axle (axle : Axle) (s : State) :
    frameStart (axleServo axle) s = (mixed axle s).withSpg (s.spg.setChan (axleServo axle) (axleChan axle s)) := by
  have hsteer : axleServo axle ≠ .sh := by cases axle <;> exact ServoCh.noConfusion
  have hwork : channelWork (axleServo axle) (endpointChangeover (axleServo axle) (latchPeriod (axleServo axle) s)) = mixed axle s :=
    channelWork_axle axle s
  have hchassis : (mixed axle s).csc = s.csc := by
    rw [mixed, (smxFrame_keeps _ _ _).2.2.2.2.1, setup_eq]
  simp only [frameStart, hwork, if_neg hsteer, slewStep_eq, emitPulse_eq, setServo, withSpg_spg, withSpg_csc,
    servoChan_setChan_same, servoSetChan_twice, mixed_spg, axleChan, hchassis]
  rfl

/-- The set-up of a frame start and the changeover of a curve do not meet. -/
theorem curveChangeover_setup (id : CurveId) (ch : ServoCh) (s : State) :
    curveChangeover id (setup ch s) = setup ch (curveChangeover id s) := by
  cases hw : (s.spg.chan ch).waiting with
  | none =>
    rw [setup_plain hw]
    by_cases hp : (s.smx.load id).state = .pending
    · rw [curveChangeover_pending (s := s) hp]
      exact (curveChangeover_pending (by exact hp)).trans (Eq.trans (by cases id <;> rfl) (setup_plain (by exact hw)).symm)
    · rw [curveChangeover_other (s := s) hp, setup_plain hw]
      exact curveChangeover_other hp
  | some e =>
    rw [setup_changes hw]
    by_cases hp : (s.smx.load id).state = .pending
    · rw [curveChangeover_pending (s := s) hp]
      exact (curveChangeover_pending (by exact hp)).trans (Eq.trans (by cases id <;> rfl) (setup_changes (by exact hw)).symm)
    · rw [curveChangeover_other (s := s) hp, setup_changes hw]
      exact curveChangeover_other hp

/-- A frame start with the axle's table changed over beforehand is the same frame start. -/
theorem frameStart_curveChangeover (axle : Axle) (s : State) :
    frameStart (axleServo axle) (curveChangeover (axleCurve axle) s) = frameStart (axleServo axle) s := by
  have hspg : (curveChangeover (axleCurve axle) s).spg = s.spg := by simp
  have hcsc : (curveChangeover (axleCurve axle) s).csc = s.csc := by simp
  have hmixed : mixed axle (curveChangeover (axleCurve axle) s) = mixed axle s := by
    rw [mixed, mixed, smxFrame, smxFrame, curveChangeover_setup, curveChangeover_setup, curveChangeover_idem,
      (curveChangeover_cfg_keeps _ _).2.1]
  rw [frameStart_axle, frameStart_axle, axleChan, axleChan, hmixed, hspg, hcsc]

theorem driveUpdate_curveChangeover (dch : DriveCh) (current : Nat) (s : State) :
    driveUpdate dch current (curveChangeover .throttle s) = driveUpdate dch current s := by
  simp only [driveUpdate, curveChangeover_idem]

/-- The mixer keeps the loads of the tables. -/
theorem smxCompute_load (axle : Axle) (periodMs : Nat) (id : CurveId) (s : State) :
    (smxCompute axle periodMs s).smx.load id = s.smx.load id := by
  unfold smxCompute smxRun
  dsimp only
  repeat' split
  all_goals cases axle <;> cases id <;> rfl

/-- A PENDING table is in force and its load closed after the frame start of its axle. -/
theorem frameStart_pending (h : (s.smx.load (axleCurve axle)).state = .pending) :
    activeTable (frameStart (axleServo axle) s).cfg (axleCurve axle) = (s.smx.load (axleCurve axle)).shadow ∧
      (frameStart (axleServo axle) s).smx.load (axleCurve axle) =
        { state := .closed, pointer := 0, shadow := (s.smx.load (axleCurve axle)).shadow } := by
  have hpending : ((setup (axleServo axle) s).smx.load (axleCurve axle)) = s.smx.load (axleCurve axle) := by rw [setup_eq]
  rw [frameStart_axle, withSpg_cfg, withSpg_smx, mixed, smxFrame, smxCompute_load, curveChangeover_pending (by rw [hpending, h]),
    hpending, (smxCompute_keeps _ _ _).2.2.2.2.1]
  exact ⟨by cases axle <;> rfl, load_setLoad ..⟩

/-- A PENDING throttle table is in force and its load closed after a drive update. -/
theorem driveUpdate_pending (dch : DriveCh) (current : Nat) (h : (s.smx.load .throttle).state = .pending) :
    (driveUpdate dch current s).cfg.drc.throttleTable = (s.smx.load .throttle).shadow ∧
      (driveUpdate dch current s).smx.load .throttle =
        { state := .closed, pointer := 0, shadow := (s.smx.load .throttle).shadow } := by
  have hsmx : (driveUpdate dch current s).smx = (curveChangeover .throttle s).smx := by simp [driveUpdate]
  rw [driveUpdate_cfg, hsmx, curveChangeover_pending h]
  exact ⟨rfl, rfl⟩

end Axle

/-- Settles O23: the commit check's three outcomes, the refusals, and the changeover, which leaves nothing to change over. -/
theorem curveCommitChecksTheTable : Obligations.CurveCommitChecksTheTable := by
  have hexec {b : Byte} {s t u : State} {fields : List Field} (htakes : Takes 0x0B [b] s)
      (howner : curveCommitOwner [b] (popIntake s) = (t, fields))
      (hu : putReply { type := 0x0B + 0x80#8, fields := fields } t = u) : exec (.curveCommit [b]) s = .next u :=
    exec_of_owner (i := .curveCommit [b]) rfl htakes rfl howner hu
  refine ⟨fun id b s htakes hid => ⟨fun hidle hopen => ⟨fun hcentre hrising => ?accepts, fun hcentre => ?centre,
      fun i hcentre hfalls hfirst => ?order⟩, fun h => ?refuses⟩, fun b s htakes h => ?noTable,
    fun axle s hpower hpending => ⟨_, exec_servoFrameStart _ hpower, frameStart_pending hpending⟩,
    fun s hpower hpending => ?front, fun s hpower hpending => ?rear, fun ch current s hpower hpending => ?throttle,
    fun ch current s hpower hpending =>
      ⟨_, congrArg Host.Outcome.next (whenRunning_runs hpower), driveUpdate_pending ch current hpending⟩⟩
  case accepts =>
    have hcheck : commitCheck (s.smx.load id).shadow = (0, 0) := by
      rw [commitCheck_order hcentre, orderFault_none hrising]
    exact hexec htakes ((curveCommitOwner_opened (s := popIntake s) hid hidle hopen).trans (if_pos (congrArg Prod.fst hcheck))) rfl
  case centre =>
    have hcheck : commitCheck (s.smx.load id).shadow = (1, 8) := commitCheck_centre hcentre
    have howner := curveCommitOwner_opened (s := popIntake s) hid hidle hopen
    simp only [popIntake, withLif_smx, hcheck] at howner
    exact hexec htakes howner rfl
  case order =>
    have hcheck : commitCheck (s.smx.load id).shadow = (2, i.val + 1) := by
      rw [commitCheck_order hcentre, orderFault_first i hfalls hfirst]
    have howner := curveCommitOwner_opened (s := popIntake s) hid hidle hopen
    simp only [popIntake, withLif_smx, hcheck] at howner
    exact hexec htakes howner rfl
  case refuses =>
    refine hexec htakes (curveCommitOwner_refuses (s := popIntake s) hid h) ?_
    rw [rc_busy_or]
    rfl
  case noTable =>
    refine hexec htakes (curveCommitOwner_noTable (s := popIntake s) h) ?_
    rw [rc_busy_or]
    rfl
  case front =>
    refine (exec_servoFrameStart .fs hpower).trans (Eq.trans ?_ (exec_servoFrameStart .fs (by exact hpower)).symm)
    exact congrArg Host.Outcome.next ((frameStart_curveChangeover .front s).symm.trans
      (congrArg (frameStart .fs) (curveChangeover_pending hpending)))
  case rear =>
    refine (exec_servoFrameStart .rs hpower).trans (Eq.trans ?_ (exec_servoFrameStart .rs (by exact hpower)).symm)
    exact congrArg Host.Outcome.next ((frameStart_curveChangeover .rear s).symm.trans
      (congrArg (frameStart .rs) (curveChangeover_pending hpending)))
  case throttle =>
    refine (congrArg Host.Outcome.next (whenRunning_runs hpower)).trans
      (Eq.trans ?_ (congrArg Host.Outcome.next (whenRunning_runs (by exact hpower))).symm)
    exact congrArg Host.Outcome.next ((driveUpdate_curveChangeover ch current s).symm.trans
      (congrArg (driveUpdate ch current) (curveChangeover_pending hpending)))

end Sys2Proof.Machine

namespace Sys2Proof.Machine

section Frames

variable {s : State} {axle : Axle} {ch : ServoCh}

/-! ### What a frame start leaves of its own channel -/

/-- A pulse and its carry, and the width on the line. -/
theorem emittedChan_carry {chassis : Chassis} {c : ServoChan} (hc : chassis = .run ∨ chassis = .hold ∨ chassis = .failsafe)
    (hacc : 0 ≤ c.acc) (hacc8 : c.acc < 8) (hpulse : 0 ≤ c.pOut) :
    8 * (emittedChan chassis c).lineWidth + (emittedChan chassis c).acc = c.pOut + c.acc ∧ 0 ≤ (emittedChan chassis c).acc ∧
      (emittedChan chassis c).acc < 8 ∧ (emittedChan chassis c).lastWidth = (emittedChan chassis c).lineWidth := by
  obtain ⟨hsum, hlow, hhigh⟩ := emission_eq hpulse hacc hacc8
  rw [emittedChan_emits c hc]
  exact ⟨hsum, hlow, hhigh, rfl⟩

theorem servoLine_running (hpower : s.power = .running) (ch : ServoCh) : servoLine s ch = (s.spg.chan ch).lineWidth :=
  if_pos (decide_eq_true hpower)

theorem mixed_keeps (axle : Axle) (s : State) :
    (mixed axle s).csc = s.csc ∧ (mixed axle s).pba = s.pba ∧ (mixed axle s).cfg.spg = endsInForce (axleServo axle) s := by
  rw [mixed, setup_eq]
  exact ⟨by simp, by simp, by simp [smxFrame]⟩

theorem endsInForce_slew (ch ch' : ServoCh) (s : State) : (endsInForce ch s).slew ch' = s.cfg.spg.slew ch' := by
  unfold endsInForce
  split
  · cases ch <;> cases ch' <;> rfl
  · rfl

theorem endsInForce_plain (h : (s.spg.chan ch).waiting = none) : endsInForce ch s = s.cfg.spg := by rw [endsInForce, h]

theorem endsInForce_ends {e : Endpoints} (h : (s.spg.chan ch).waiting = some e) : (endsInForce ch s).ends ch = e := by
  rw [endsInForce, h]
  cases ch <;> rfl

theorem targetPulse_axle (axle : Axle) (s : State) :
    targetPulse (axleServo axle) s = anglePulse (s.cfg.spg.ends (axleServo axle)) (s.smx.angle axle) := by cases axle <;> rfl

/-- In RUN and FAILSAFE an axle's servo is slewed toward its angle's pulse. -/
theorem axleChan_moves (hc : s.csc.chassis = .run ∨ s.csc.chassis = .failsafe) :
    axleChan axle s = emittedChan s.csc.chassis
      { readyChan (axleServo axle) s with
        pOut := slewToward (readyChan (axleServo axle) s).pOut
          (anglePulse ((endsInForce (axleServo axle) s).ends (axleServo axle)) ((mixed axle s).smx.angle axle))
          (effectiveSlew (s.cfg.spg.slew (axleServo axle)) s.pba.pub.servoFactor)
        effSlew := effectiveSlew (s.cfg.spg.slew (axleServo axle)) s.pba.pub.servoFactor } := by
  obtain ⟨hcsc, hpba, hcfg⟩ := mixed_keeps axle s
  rw [axleChan, slewedChan_moves (by rwa [hcsc]), targetPulse_axle, mixed_spg, servoChan_setChan_same, hpba, hcfg, endsInForce_slew]

/-- In the other states it stands. -/
theorem axleChan_rests (hc : s.csc.chassis = .standby ∨ s.csc.chassis = .hold ∨ s.csc.chassis = .cutoff) :
    axleChan axle s = emittedChan s.csc.chassis (readyChan (axleServo axle) s) := by
  rw [axleChan, slewedChan_rests (by rwa [(mixed_keeps axle s).1]), mixed_spg, servoChan_setChan_same]

/-- Where the mixer rests the angle stands. -/
theorem mixed_angle_rests (hc : s.csc.chassis = .standby ∨ s.csc.chassis = .hold ∨ s.csc.chassis = .cutoff) :
    (mixed axle s).smx.angle axle = s.smx.angle axle := by
  have hangle (t : State) : (curveChangeover (axleCurve axle) t).smx.angle axle = t.smx.angle axle := by
    unfold curveChangeover
    split
    · cases axle <;> rfl
    · rfl
  have hrests (t : State) (ht : t.csc = s.csc) (periodMs : Nat) : smxCompute axle periodMs t = t := by
    rcases hc with hc | hc | hc <;> simp only [smxCompute, ht, hc]
  rw [mixed, smxFrame, hrests _ (by simp [setup_eq]), hangle, setup_eq]

theorem frameStart_axle_chan (axle : Axle) (s : State) :
    (frameStart (axleServo axle) s).spg.chan (axleServo axle) = axleChan axle s := by
  rw [frameStart_axle, withSpg_spg, servoChan_setChan_same]

/-! ### The frame start of the shift servo -/

theorem frameStart_sh (s : State) : frameStart .sh s = emitPulse .sh (settleEntry (slewStep .sh (shiftStep (setup .sh s)))) := rfl

@[simp] theorem setShift_chan (x : Shift) (s : State) (ch : ServoCh) : (setShift x s).spg.chan ch = s.spg.chan ch := by
  cases ch <;> rfl

@[simp] theorem endShift_chan (r : ShiftResult) (g : Gear) (s : State) (ch : ServoCh) :
    (endShift r g s).spg.chan ch = s.spg.chan ch := by
  rw [endShift_eq]
  cases ch <;> rfl

/-- The steps of the shift write no servo record. -/
@[simp] theorem shiftStep_chan (s : State) (ch : ServoCh) : (shiftStep s).spg.chan ch = s.spg.chan ch := by
  unfold shiftStep completeShift abandonShift
  dsimp only
  repeat' split
  all_goals simp

@[simp] theorem settleEntry_chan (s : State) (ch : ServoCh) : (settleEntry s).spg.chan ch = s.spg.chan ch := by
  unfold settleEntry completeShift
  dsimp only
  repeat' split
  all_goals simp

/-- The frame start of the shift servo writes SPG, its endpoints that come into force and a report, and no more. -/
theorem frameStart_sh_keeps (s : State) :
    (frameStart .sh s).smx = s.smx ∧ (frameStart .sh s).cfg = { s.cfg with spg := endsInForce .sh s } := by
  rw [frameStart_sh]
  exact ⟨by simp [setup_eq], by simp [setup_eq]⟩

/-- The record of the shift servo as its frame start leaves it. -/
def selectorChan (s : State) : ServoChan := emittedChan s.csc.chassis (slewedChan .sh (shiftStep (setup .sh s)))

theorem frameStart_sh_chan (s : State) (ch : ServoCh) :
    (frameStart .sh s).spg.chan ch = (s.spg.setChan .sh (selectorChan s)).chan ch := by
  have hchassis : (settleEntry (slewStep .sh (shiftStep (setup .sh s)))).csc = s.csc := by simp [setup_eq]
  have hsh : (settleEntry (slewStep .sh (shiftStep (setup .sh s)))).spg.chan .sh = slewedChan .sh (shiftStep (setup .sh s)) := by
    rw [settleEntry_chan, slewStep_eq, setServo, withSpg_spg, servoChan_setChan_same]
  rw [frameStart_sh, emitPulse_eq, hchassis, hsh, setServo, withSpg_spg, selectorChan]
  by_cases hch : ch = .sh
  · rw [hch, servoChan_setChan_same, servoChan_setChan_same]
  · rw [servoChan_setChan_other _ _ hch, servoChan_setChan_other _ _ hch, settleEntry_chan, slewStep_eq, setServo, withSpg_spg,
      servoChan_setChan_other _ _ hch, shiftStep_chan, setup_eq, servoChan_setChan_other _ _ hch]

/-- In RUN and FAILSAFE the selector is slewed toward the held gear's endpoint. -/
theorem selectorChan_moves (hc : s.csc.chassis = .run ∨ s.csc.chassis = .failsafe) :
    selectorChan s = emittedChan s.csc.chassis
      { readyChan .sh s with
        pOut := slewToward (readyChan .sh s).pOut
          (gearEndpoint ((endsInForce .sh s).ends .sh) (shiftStep (setup .sh s)).spg.shift.held)
          (effectiveSlew (s.cfg.spg.slew .sh) s.pba.pub.servoFactor)
        effSlew := effectiveSlew (s.cfg.spg.slew .sh) s.pba.pub.servoFactor } := by
  have hcsc : (shiftStep (setup .sh s)).csc = s.csc := by simp [setup_eq]
  have hpba : (shiftStep (setup .sh s)).pba = s.pba := by simp [setup_eq]
  have hcfg : (shiftStep (setup .sh s)).cfg.spg = endsInForce .sh s := by simp [setup_eq]
  rw [selectorChan, slewedChan_moves (by rwa [hcsc]), shiftStep_chan, hpba, targetPulse, hcfg, endsInForce_slew]
  rfl

theorem shiftStep_rests (hc : s.csc.chassis = .standby ∨ s.csc.chassis = .hold ∨ s.csc.chassis = .cutoff) : shiftStep s = s := by
  rcases hc with hc | hc | hc <;> simp only [shiftStep, hc]

theorem settleEntry_rests (hc : s.csc.chassis = .standby ∨ s.csc.chassis = .hold ∨ s.csc.chassis = .cutoff) : settleEntry s = s := by
  rcases hc with hc | hc | hc <;> simp only [settleEntry, hc]

/-- In the other states the frame start of the shift servo emits or stays silent, and no more. -/
theorem frameStart_sh_rests (hc : s.csc.chassis = .standby ∨ s.csc.chassis = .hold ∨ s.csc.chassis = .cutoff) :
    frameStart .sh s = setServo .sh (emittedChan s.csc.chassis (readyChan .sh s)) (setup .sh s) := by
  have hcsc : (setup .sh s).csc = s.csc := by simp [setup_eq]
  have hslew : slewStep .sh (setup .sh s) = setup .sh s := by
    rw [slewStep_eq, slewedChan_rests (by rwa [hcsc]), setServo_self]
  rw [frameStart_sh, shiftStep_rests (by rwa [hcsc]), hslew, settleEntry_rests (by rwa [hcsc]), emitPulse_eq, hcsc]
  rfl

theorem selectorChan_rests (hc : s.csc.chassis = .standby ∨ s.csc.chassis = .hold ∨ s.csc.chassis = .cutoff) :
    selectorChan s = emittedChan s.csc.chassis (readyChan .sh s) := by
  have hcsc : (setup .sh s).csc = s.csc := by simp [setup_eq]
  rw [selectorChan, shiftStep_rests (by rwa [hcsc]), slewedChan_rests (by rwa [hcsc])]
  rfl

/-! ### Frames in HOLD -/

/-- In HOLD a frame start emits the pulse that stands. -/
theorem frameStart_hold (hhold : s.csc.chassis = .hold) :
    (frameStart ch s).spg.chan ch = emittedChan .hold (readyChan ch s) := by
  have hc : s.csc.chassis = .standby ∨ s.csc.chassis = .hold ∨ s.csc.chassis = .cutoff := .inr (.inl hhold)
  have haxle (axle : Axle) :
      (frameStart (axleServo axle) s).spg.chan (axleServo axle) = emittedChan .hold (readyChan (axleServo axle) s) := by
    rw [frameStart_axle_chan, axleChan_rests hc, hhold]
  cases ch with
  | fs => exact haxle .front
  | rs => exact haxle .rear
  | sh => rw [frameStart_sh_chan, servoChan_setChan_same, selectorChan_rests hc, hhold]

/-- A servo in HOLD with a pulse and a carry in their ranges. -/
def Parked (ch : ServoCh) (pulse : Int) (s : State) : Prop :=
  s.power = .running ∧ s.csc.chassis = .hold ∧ (s.spg.chan ch).waiting = none ∧ 0 ≤ (s.spg.chan ch).acc ∧ (s.spg.chan ch).acc < 8 ∧
    (s.spg.chan ch).pOut = pulse

/-- One frame of a parked servo. -/
theorem Parked.frame {pulse : Int} (hpulse : 0 ≤ pulse) (h : Parked ch pulse s) :
    exec (.servoFrameStart ch) s = .next (frameStart ch s) ∧ Parked ch pulse (frameStart ch s) ∧
      8 * servoLine (frameStart ch s) ch + ((frameStart ch s).spg.chan ch).acc = pulse + (s.spg.chan ch).acc := by
  obtain ⟨hpower, hhold, hwaiting, hlow, hhigh, hout⟩ := h
  have hpower' : (frameStart ch s).power = .running := (frameStart_keeps ch s).1.trans hpower
  have hhold' : (frameStart ch s).csc.chassis = .hold := by rw [(frameStart_keeps ch s).2.2.2.2.1, hhold]
  obtain ⟨-, hwait, hpOut, -⟩ := emittedChan_keeps .hold (readyChan ch s)
  have hready := readyChan_plain hwaiting
  have hcarry := emittedChan_carry (chassis := .hold) (c := readyChan ch s) (.inr (.inl rfl)) (by rw [hready]; exact hlow)
    (by rw [hready]; exact hhigh) (by rw [hready]; exact hout.symm ▸ hpulse)
  rw [servoLine_running hpower', Parked, frameStart_hold hhold, hwait, hpOut]
  obtain ⟨hsum, hlow', hhigh', -⟩ := hcarry
  rw [hready] at hsum hlow' hhigh' ⊢
  exact ⟨exec_servoFrameStart ch hpower, ⟨hpower', hhold', hwaiting, hlow', hhigh', hout⟩, by rw [hsum, ← hout]⟩

/-- The width of a frame is the pulse in whole microseconds, or one more where a fraction is carried. -/
theorem width_cases {width acc acc' pulse : Int} (hsum : 8 * width + acc' = pulse + acc) (hlow : 0 ≤ acc) (hhigh : acc < 8)
    (hlow' : 0 ≤ acc') (hhigh' : acc' < 8) : width = pulse / 8 ∨ (width = pulse / 8 + 1 ∧ ¬8 ∣ pulse) := by omega

/-- Frames of a parked servo: the widths and the last carry make up the pulses and the first carry. -/
theorem Parked.frames {pulse : Int} (hpulse : 0 ≤ pulse) (n : Nat) (s : State) (h : Parked ch pulse s) :
    ∃ t, frameStarts ch n s = .next t ∧ Parked ch pulse t ∧
      8 * (emittedWidths ch n s).sum + (t.spg.chan ch).acc = n * pulse + (s.spg.chan ch).acc ∧ (emittedWidths ch n s).length = n ∧
      ∀ w ∈ emittedWidths ch n s, w = pulse / 8 ∨ (w = pulse / 8 + 1 ∧ ¬8 ∣ pulse) := by
  induction n generalizing s with
  | zero => exact ⟨s, rfl, h, by simp [emittedWidths], rfl, by simp [emittedWidths]⟩
  | succ n ih =>
    obtain ⟨hexec, hparked, hsum⟩ := h.frame hpulse
    obtain ⟨t, hstarts, hlast, hsums, hlength, hmem⟩ := ih _ hparked
    obtain ⟨-, -, -, hlow, hhigh, -⟩ := h
    obtain ⟨-, -, -, hlow', hhigh', -⟩ := hparked
    have hwidths : emittedWidths ch (n + 1) s = servoLine (frameStart ch s) ch :: emittedWidths ch n (frameStart ch s) := by
      rw [emittedWidths, hexec]
    refine ⟨t, by rw [frameStarts, hexec]; exact hstarts, hlast, ?_, by rw [hwidths, List.length_cons, hlength], fun w hw => ?_⟩
    · rw [hwidths, List.sum_cons]
      push_cast
      linarith
    · rw [hwidths, List.mem_cons] at hw
      rcases hw with rfl | hw
      · exact width_cases hsum hlow hhigh hlow' hhigh'
      · exact hmem w hw

end Frames

/-- Settles O27: eight frames of a parked servo, whose carries lie below 8. -/
theorem eightPulsesCarryTheWholePulse : Obligations.EightPulsesCarryTheWholePulse := by
  intro ch s hpower hhold hwaiting hlow hhigh hpulse
  obtain ⟨t, hstarts, ⟨-, -, -, hlow', hhigh', hout⟩, hsum, hlength, hwidths⟩ :=
    Parked.frames hpulse 8 s ⟨hpower, hhold, hwaiting, hlow, hhigh, rfl⟩
  exact ⟨by omega, hlength, hwidths, t, hstarts, by omega, hout⟩

/-- Settles O26: the slew as its two cases, then the shift servo and the axles' servos with their carry. -/
theorem steeringServoSlewsAndEmits : Obligations.SteeringServoSlewsAndEmits := by
  refine ⟨fun x goal e => ?slew, fun e => ⟨rfl, rfl⟩, fun s hpower hwaiting => ?selector, fun axle s hpower hwaiting => ?steering⟩
  case slew =>
    have habs : (goal - x).natAbs ≤ e ↔ goal - x ≤ e ∧ x - goal ≤ e := by omega
    simp only [slewToward, habs]
  case selector =>
    have hplain : (s.spg.chan .sh).waiting = none := hwaiting
    have hready := readyChan_plain hplain
    have hpower' : (frameStart .sh s).power = .running := (frameStart_keeps .sh s).1.trans hpower
    have hsh : (frameStart .sh s).spg.sh = selectorChan s := frameStart_sh_chan s .sh
    obtain ⟨hsmx, hcfg⟩ := frameStart_sh_keeps s
    obtain ⟨hperiod, hwait, hpOut, heff⟩ := emittedChan_keeps s.csc.chassis (slewedChan .sh (shiftStep (setup .sh s)))
    obtain ⟨hperiod', hwait', hacc, hlast⟩ := slewedChan_keeps .sh (shiftStep (setup .sh s))
    have hbefore : (shiftStep (setup .sh s)).spg.chan .sh = { s.spg.sh with periodMs := s.cfg.spg.shPeriod } :=
      (shiftStep_chan _ _).trans hready
    rw [hbefore] at hperiod' hwait' hacc hlast
    refine ⟨_, exec_servoFrameStart .sh hpower, fun hc => ?_, fun hc hlow hhigh hpulse => ?_, fun hc => ?_,
      (congrArg ServoChan.periodMs hsh).trans (hperiod.trans hperiod'), (congrArg ServoChan.waiting hsh).trans (hwait.trans (hwait'.trans hwaiting)),
      frameStart_sh_chan s .fs, frameStart_sh_chan s .rs, hsmx, hcfg.trans (by rw [endsInForce_plain hplain])⟩
    · rw [hsh, selectorChan_moves hc, (emittedChan_keeps _ _).2.2.2]
      rfl
    · rw [hsh, selectorChan, hpOut] at hpulse
      rw [servoLine_running hpower', Spg.chan, hsh, selectorChan, hpOut]
      obtain ⟨hsum, hlow', hhigh', hwidth⟩ := emittedChan_carry hc (by rwa [hacc]) (by rwa [hacc]) hpulse
      exact ⟨hsum.trans (by rw [hacc]), hlow', hhigh', hwidth, rfl⟩
    · have hrests : frameStart .sh s = setServo .sh { readyChan .sh s with lineWidth := 0 } (setup .sh s) := by
        rw [frameStart_sh_rests (hc.imp_right .inr), emittedChan_silent _ hc]
      rw [servoLine_running hpower', hrests, setup_plain hplain, hready]
      exact ⟨rfl, rfl, rfl, rfl, rfl, rfl⟩
  case steering =>
    have hready := readyChan_plain hwaiting
    have hpower' : (frameStart (axleServo axle) s).power = .running := (frameStart_keeps (axleServo axle) s).1.trans hpower
    have hchan : (frameStart (axleServo axle) s).spg.chan (axleServo axle) = axleChan axle s := frameStart_axle_chan axle s
    obtain ⟨hperiod, -, hpOut, -⟩ := emittedChan_keeps s.csc.chassis (slewedChan (axleServo axle) (mixed axle s))
    obtain ⟨hperiod', -, hacc, hlast⟩ := slewedChan_keeps (axleServo axle) (mixed axle s)
    rw [mixed_spg, servoChan_setChan_same, hready] at hperiod' hacc hlast
    have hsmx : (frameStart (axleServo axle) s).smx = (mixed axle s).smx := by rw [frameStart_axle, withSpg_smx]
    have hspg : (frameStart (axleServo axle) s).spg = s.spg.setChan (axleServo axle) (axleChan axle s) := by
      rw [frameStart_axle, withSpg_spg]
    refine ⟨_, exec_servoFrameStart _ hpower, fun hc => ?_, fun hc => ?_, fun hc hlow hhigh hpulse => ?_, fun hc => ?_,
      (congrArg ServoChan.periodMs hchan).trans (hperiod.trans hperiod'),
      fun ch hch => by rw [hspg, servoChan_setChan_other _ _ hch], by rw [hspg, servoSetChan_shift]⟩
    · obtain ⟨-, -, hpOut', heff'⟩ := emittedChan_keeps s.csc.chassis { readyChan (axleServo axle) s with
        pOut := slewToward (readyChan (axleServo axle) s).pOut
          (anglePulse ((endsInForce (axleServo axle) s).ends (axleServo axle)) ((mixed axle s).smx.angle axle))
          (effectiveSlew (s.cfg.spg.slew (axleServo axle)) s.pba.pub.servoFactor)
        effSlew := effectiveSlew (s.cfg.spg.slew (axleServo axle)) s.pba.pub.servoFactor }
      rw [hchan, axleChan_moves hc, hpOut', heff', hsmx, endsInForce_plain hwaiting, hready]
      exact ⟨rfl, rfl⟩
    · rw [hchan, axleChan_rests hc, (emittedChan_keeps _ _).2.2.1, hready, hsmx]
      exact ⟨rfl, mixed_angle_rests hc⟩
    · rw [hchan, axleChan, hpOut] at hpulse
      rw [servoLine_running hpower', hchan, axleChan, hpOut]
      obtain ⟨hsum, hlow', hhigh', hwidth⟩ := emittedChan_carry hc (by rwa [hacc]) (by rwa [hacc]) hpulse
      exact ⟨hsum.trans (by rw [hacc]), hlow', hhigh', hwidth, rfl⟩
    · rw [servoLine_running hpower', hchan, axleChan, emittedChan_silent _ hc]
      exact ⟨rfl, hacc, hlast⟩

end Sys2Proof.Machine

namespace Sys2Proof.Machine

/-! ## The angle of an axle -/

section Angle

/-- A share of a value lies between 0 and the value. -/
theorem tdiv_share {x r m : Int} (hr : 0 ≤ r) (hrm : r ≤ m) (hm : 0 < m) :
    min 0 x ≤ Int.tdiv (x * r) m ∧ Int.tdiv (x * r) m ≤ max 0 x := by
  have hnonneg {y : Int} (hy : 0 ≤ y) : 0 ≤ Int.tdiv (y * r) m ∧ Int.tdiv (y * r) m ≤ y := by
    rw [Int.tdiv_eq_ediv_of_nonneg (Int.mul_nonneg hy hr)]
    exact ⟨Int.ediv_nonneg (Int.mul_nonneg hy hr) hm.le,
      Int.ediv_le_of_le_mul hm (Int.mul_le_mul_of_nonneg_left hrm hy)⟩
  rcases Int.le_total 0 x with hx | hx
  · obtain ⟨hlow, hhigh⟩ := hnonneg hx
    omega
  · obtain ⟨hlow, hhigh⟩ := hnonneg (Int.neg_nonneg_of_nonpos hx)
    rw [Int.neg_mul, Int.neg_tdiv] at hlow hhigh
    omega

/-- What is added to one value of a share of its distance to another lies between the two. -/
theorem share_mem {x y r m lo hi : Int} (hx : lo ≤ x ∧ x ≤ hi) (hy : lo ≤ y ∧ y ≤ hi) (hr : 0 ≤ r) (hrm : r ≤ m) (hm : 0 < m) :
    lo ≤ x + Int.tdiv ((y - x) * r) m ∧ x + Int.tdiv ((y - x) * r) m ≤ hi := by
  obtain ⟨hlow, hhigh⟩ := tdiv_share (x := y - x) hr hrm hm
  omega

theorem interpolate_segment (t : CurveTable) {k r : Nat} (hk : k < 16) (hr : r < 125 ∨ (k = 15 ∧ r = 125)) :
    interpolate t (-1000 + 125 * (k : Int) + r) = t[k] + Int.tdiv ((t[k + 1] - t[k]) * r) 125 := by
  have hu : -1000 + 125 * (k : Int) + r + 1000 = ((125 * k + r : Nat) : Int) := by omega
  have hk' : min (Int.tdiv ((125 * k + r : Nat) : Int) 125).toNat 15 = k := by
    rw [Int.tdiv_eq_ediv_of_nonneg (by omega)]
    omega
  have hrest : (((125 * k + r : Nat) : Int) - 125 * (k : Int)) = r := by omega
  simp only [interpolate, hu, hk', hrest, curveAt_of_lt (t := t) (show k < 17 by omega),
    curveAt_of_lt (t := t) (show k + 1 < 17 by omega)]

theorem interpolate_entry (t : CurveTable) (i : Fin 17) : interpolate t (-1000 + 125 * (i.val : Int)) = t[i] := by
  by_cases hi : i.val < 16
  · have h := interpolate_segment t (r := 0) hi (.inl (by omega))
    simpa using h
  · have hlast : i = 16 := by omega
    have h := interpolate_segment t (k := 15) (r := 125) (by omega) (.inr ⟨rfl, rfl⟩)
    have hcancel (x : Int) : Int.tdiv (x * ((125 : Nat) : Int)) 125 = x := Int.mul_tdiv_cancel _ (by decide)
    rw [hcancel] at h
    rw [hlast]
    exact h.trans (by simp)

/-- A table with entries within 1000 has its values within 1000. -/
theorem interpolate_mem {t : CurveTable} {v : Int} (ht : ∀ i : Fin 17, -1000 ≤ t[i] ∧ t[i] ≤ 1000) (hv : -1000 ≤ v ∧ v ≤ 1000) :
    -1000 ≤ interpolate t v ∧ interpolate t v ≤ 1000 := by
  obtain ⟨k, r, hk, hr, rfl⟩ : ∃ k r : Nat, k < 16 ∧ (r < 125 ∨ (k = 15 ∧ r = 125)) ∧ v = -1000 + 125 * (k : Int) + r :=
    ⟨min ((v + 1000).toNat / 125) 15, (v + 1000).toNat - 125 * min ((v + 1000).toNat / 125) 15, by omega, by omega, by omega⟩
  rw [interpolate_segment t hk hr]
  exact share_mem (ht ⟨k, by omega⟩) (ht ⟨k + 1, by omega⟩) (by omega) (by omega) (by omega)

theorem modeAngle_mem {cfg : SmxCfg} {v : Int}
    (ht : ∀ i : Fin 17, (-1000 ≤ cfg.frontTable[i] ∧ cfg.frontTable[i] ≤ 1000) ∧ (-1000 ≤ cfg.rearTable[i] ∧ cfg.rearTable[i] ≤ 1000))
    (hv : -1000 ≤ v ∧ v ≤ 1000) (axle : Axle) (m : SteerMode) :
    -1000 ≤ modeAngle cfg axle m v ∧ modeAngle cfg axle m v ≤ 1000 := by
  have hfront := interpolate_mem (fun i => (ht i).1) hv
  have hrear := interpolate_mem (fun i => (ht i).2) hv
  have hscaled : -1000 ≤ scaledRear cfg v ∧ scaledRear cfg v ≤ 1000 := by
    unfold scaledRear clampInt
    omega
  cases axle <;> cases m <;> simp only [modeAngle] <;> omega

theorem blendWeight_le (elapsedUs blendMs : Nat) : blendWeight elapsedUs blendMs ≤ 256 := by
  unfold blendWeight
  split <;> omega

/-- At weight 256 a blend is the new mode. -/
theorem blendAngle_full (cfg : SmxCfg) (axle : Axle) (target : SteerMode) (b : Blend) (v : Int) :
    blendAngle cfg axle target b v 256 = modeAngle cfg axle target v := by
  have hcancel (x : Int) : Int.tdiv (x * ((256 : Nat) : Int)) 256 = x := Int.mul_tdiv_cancel _ (by decide)
  simp only [blendAngle, hcancel]
  omega

theorem blendAngle_mem {cfg : SmxCfg} {v : Int} {b : Blend}
    (ht : ∀ i : Fin 17, (-1000 ≤ cfg.frontTable[i] ∧ cfg.frontTable[i] ≤ 1000) ∧ (-1000 ≤ cfg.rearTable[i] ∧ cfg.rearTable[i] ≤ 1000))
    (hv : -1000 ≤ v ∧ v ≤ 1000) (hb : -1000 ≤ b.frozen ∧ b.frozen ≤ 1000) (axle : Axle) (target : SteerMode) {w : Nat} (hw : w ≤ 256) :
    -1000 ≤ blendAngle cfg axle target b v w ∧ blendAngle cfg axle target b v w ≤ 1000 := by
  have horigin : -1000 ≤ (match b.fromKind with | .mode => modeAngle cfg axle b.fromMode v | .frozen => b.frozen) ∧
      (match b.fromKind with | .mode => modeAngle cfg axle b.fromMode v | .frozen => b.frozen) ≤ 1000 := by
    split
    · exact modeAngle_mem ht hv axle _
    · exact hb
  exact share_mem horigin (modeAngle_mem ht hv axle target) (by omega) (by omega) (by omega)

end Angle

section MixerFrame

variable {s : State} {axle : Axle}

@[simp] theorem angle_setAngle (m : Smx) (axle : Axle) (a : Int) : (m.setAngle axle a).angle axle = a := by cases axle <;> rfl

theorem smxCompute_smx (axle : Axle) (periodMs : Nat) (s : State) :
    smxCompute axle periodMs s = s.withSmx (smxCompute axle periodMs s).smx := by
  unfold smxCompute smxRun
  dsimp only
  repeat' split
  all_goals rfl

/-- The mixer's record after the frame start of an axle whose table does not wait. -/
theorem mixed_plain (h : (s.smx.load (axleCurve axle)).state ≠ .pending) :
    mixed axle s = smxCompute axle (s.cfg.spg.period (axleServo axle)) (setup (axleServo axle) s) := by
  have hload : ((setup (axleServo axle) s).smx.load (axleCurve axle)).state ≠ .pending := by rwa [setup_eq]
  rw [mixed, smxFrame, curveChangeover_other hload]

theorem smxCompute_run (hrun : s.csc.chassis = .run) (periodMs : Nat) : smxCompute axle periodMs s = smxRun axle periodMs s := by
  rw [smxCompute, hrun]

theorem smxRun_steady (h : (s.smx.blend axle).active = false) (periodMs : Nat) :
    smxRun axle periodMs s =
      s.withSmx (s.smx.setAngle axle (modeAngle s.cfg.smx axle s.smx.target (steerValue s.csc.setpoint))) := by
  simp only [smxRun, h, Bool.false_eq_true, if_false]

/-- An active blend moves on by one frame period; at weight 256 it is over. -/
theorem smxRun_blends (h : (s.smx.blend axle).active = true) (periodMs : Nat) :
    smxRun axle periodMs s = s.withSmx
      ((s.smx.setBlend axle { s.smx.blend axle with
          elapsedUs := blendElapsed (s.smx.blend axle) periodMs, active := decide (nextWeight axle periodMs s ≠ 256) }).setAngle axle
        (blendAngle s.cfg.smx axle s.smx.target (s.smx.blend axle) (steerValue s.csc.setpoint) (nextWeight axle periodMs s))) := by
  simp only [smxRun, h, if_true]

theorem smxRun_blends_on {periodMs : Nat} (h : (s.smx.blend axle).active = true) (hw : nextWeight axle periodMs s ≠ 256) :
    smxRun axle periodMs s = s.withSmx
      ((s.smx.setBlend axle { s.smx.blend axle with elapsedUs := blendElapsed (s.smx.blend axle) periodMs }).setAngle axle
        (blendAngle s.cfg.smx axle s.smx.target (s.smx.blend axle) (steerValue s.csc.setpoint) (nextWeight axle periodMs s))) := by
  rw [smxRun_blends h, decide_eq_true hw, ← h]

theorem smxRun_blends_over {periodMs : Nat} (h : (s.smx.blend axle).active = true) (hw : nextWeight axle periodMs s = 256) :
    smxRun axle periodMs s = s.withSmx
      ((s.smx.setBlend axle { s.smx.blend axle with
          elapsedUs := blendElapsed (s.smx.blend axle) periodMs, active := false }).setAngle axle
        (modeAngle s.cfg.smx axle s.smx.target (steerValue s.csc.setpoint))) := by
  rw [smxRun_blends h, decide_eq_false (not_not_intro hw), hw, blendAngle_full]

theorem blendEndDue_iff : blendEndDue axle s = true ↔ s.csc.chassis = .run ∧ (s.smx.blend axle).active = true ∧
    nextWeight axle (s.cfg.spg.period (axleServo axle)) s = 256 := by
  simp only [blendEndDue, Bool.and_eq_true, decide_eq_true_iff, and_assoc]

/-- The frame start of an axle writes the mixer, the servo's record and the endpoints that come into force. -/
theorem frameStart_axle_plain (h : (s.smx.load (axleCurve axle)).state ≠ .pending) :
    frameStart (axleServo axle) s =
      { s with
        smx := (mixed axle s).smx
        spg := s.spg.setChan (axleServo axle) (axleChan axle s)
        cfg := { s.cfg with spg := endsInForce (axleServo axle) s } } := by
  rw [frameStart_axle, mixed_plain h, smxCompute_smx, setup_eq]
  rfl

/-- From tables, a steer value and a blend within 1000 the mixer leaves an angle within 1000. -/
theorem smxCompute_angle_mem
    (ht : ∀ i : Fin 17, (-1000 ≤ s.cfg.smx.frontTable[i] ∧ s.cfg.smx.frontTable[i] ≤ 1000) ∧
      (-1000 ≤ s.cfg.smx.rearTable[i] ∧ s.cfg.smx.rearTable[i] ≤ 1000))
    (hv : -1000 ≤ s.csc.setpoint.steer ∧ s.csc.setpoint.steer ≤ 1000)
    (hb : -1000 ≤ (s.smx.blend axle).frozen ∧ (s.smx.blend axle).frozen ≤ 1000)
    (ha : -1000 ≤ s.smx.angle axle ∧ s.smx.angle axle ≤ 1000) (periodMs : Nat) :
    -1000 ≤ (smxCompute axle periodMs s).smx.angle axle ∧ (smxCompute axle periodMs s).smx.angle axle ≤ 1000 := by
  have hsteer : -1000 ≤ steerValue s.csc.setpoint ∧ steerValue s.csc.setpoint ≤ 1000 := by
    unfold steerValue
    split <;> omega
  cases hc : s.csc.chassis with
  | standby | hold | cutoff => simpa only [smxCompute, hc] using ha
  | failsafe =>
    cases hf : s.cfg.smx.failsafeSteer with
    | holdAngle => simpa only [smxCompute, hc, hf] using ha
    | center =>
      simp only [smxCompute, hc, hf, withSmx_smx, angle_setAngle]
      exact modeAngle_mem ht (by omega) axle _
  | run =>
    rw [smxCompute_run hc]
    cases hactive : (s.smx.blend axle).active with
    | false =>
      rw [smxRun_steady hactive, withSmx_smx, angle_setAngle]
      exact modeAngle_mem ht hsteer axle _
    | true =>
      rw [smxRun_blends hactive, withSmx_smx, angle_setAngle]
      exact blendAngle_mem ht hsteer hb axle _ (blendWeight_le _ _)

end MixerFrame

/-- Settles O24: the table's values, then the frame start by chassis state. -/
theorem axleFrameMixesTheAngle : Obligations.AxleFrameMixesTheAngle := by
  refine ⟨fun cfg v => ⟨rfl, rfl, rfl, rfl, rfl, rfl, rfl, rfl⟩,
    fun t k r hr => interpolate_segment t k.isLt (hr.imp_right fun h => ⟨by omega, h.2⟩), interpolate_entry,
    fun axle s hpower hload => ?_⟩
  have hframe := frameStart_axle_plain hload
  have hsmx : (frameStart (axleServo axle) s).smx = (smxCompute axle (s.cfg.spg.period (axleServo axle)) (setup (axleServo axle) s)).smx := by
    rw [hframe, mixed_plain hload]
  rw [setup_eq] at hsmx
  refine ⟨_, exec_servoFrameStart _ hpower, fun hrun hsteady => ?steady, fun hrun hactive hw => ?blends,
    fun hrun hactive hw => ⟨?ends, ?due⟩, fun h => ?notDue, fun hc hf => ?center, fun hc hf => ?holdAngle, fun hc => ?rests,
    fun ht hv hb ha => ?bounded, ?frame⟩
  case steady =>
    rw [hsmx, smxCompute_run (by exact hrun), smxRun_steady (by exact hsteady)]
    rfl
  case blends =>
    rw [hsmx, smxCompute_run (by exact hrun), smxRun_blends_on (by exact hactive) (by exact hw)]
    rfl
  case ends =>
    rw [hsmx, smxCompute_run (by exact hrun), smxRun_blends_over (by exact hactive) (by exact hw)]
    rfl
  case due => exact congrArg Host.Outcome.next (whenDue_due hpower (blendEndDue_iff.2 ⟨hrun, hactive, hw⟩))
  case notDue =>
    have hnot : ¬blendEndDue axle s = true := fun hdue => by
      obtain ⟨hrun, hactive, hw⟩ := blendEndDue_iff.1 hdue
      rcases h with h | h | h
      · exact h hrun
      · exact Bool.noConfusion (h.symm.trans hactive)
      · exact h hw
    exact congrArg Host.Outcome.next (whenDue_not (Bool.eq_false_iff.2 hnot))
  case center =>
    rw [hsmx]
    simp only [smxCompute, hc, hf]
    rfl
  case holdAngle =>
    rw [hsmx]
    simp only [smxCompute, hc, hf]
  case rests =>
    rw [hsmx]
    rcases hc with hc | hc | hc <;> simp only [smxCompute, hc]
  case bounded =>
    rw [hsmx]
    exact smxCompute_angle_mem (s := { s with
      cfg := { s.cfg with spg := endsInForce (axleServo axle) s }
      spg := s.spg.setChan (axleServo axle) (readyChan (axleServo axle) s) }) ht hv hb ha _
  case frame =>
    rw [hframe]
    cases axle <;> rfl

end Sys2Proof.Machine

namespace Sys2Proof.Machine

section Endpoints

variable {s : State} {ch : ServoCh} {p : Payload}

/-! ### SERVO_ENDS -/

theorem servoCode_of_servoChOf {n : Nat} (h : servoChOf n = some ch) : servoCode ch = n := by
  unfold servoChOf at h
  split at h <;> cases h <;> rfl

theorem servoChOf_none {n : Nat} (h : 3 ≤ n) : servoChOf n = none := by
  unfold servoChOf
  split
  case h_4 => rfl
  all_goals omega

/-- The order check: the centre strictly between the ends, or the ends of SH apart. -/
theorem endsOrdered_iff (ch : ServoCh) (e : Endpoints) :
    endsOrdered ch e = true ↔ (if ch = .sh then e.left ≠ e.right
      else (e.left < e.center ∧ e.center < e.right) ∨ (e.right < e.center ∧ e.center < e.left)) := by
  cases ch <;> simp [endsOrdered]

theorem endsClamped_iff (ch : ServoCh) (p : Payload) :
    endsClamped ch p = false ↔ (clampInt 4000 20000 (u16At p 1) = u16At p 1 ∧ clampInt 4000 20000 (u16At p 5) = u16At p 5 ∧
      (ch = .sh ∨ clampInt 4000 20000 (u16At p 3) = u16At p 3)) := by
  by_cases hch : ch = .sh <;> simp [endsClamped, hch, and_assoc]

theorem endsClamped_code (ch : ServoCh) (p : Payload) :
    rc (if endsClamped ch p then .clamped else .ok) =
      .u8 (if clampInt 4000 20000 (u16At p 1) = u16At p 1 ∧ clampInt 4000 20000 (u16At p 5) = u16At p 5 ∧
        (ch = .sh ∨ clampInt 4000 20000 (u16At p 3) = u16At p 3) then 0 else 1) := by
  split
  · next h => rw [if_neg fun hexact => Bool.noConfusion (((endsClamped_iff ch p).2 hexact).symm.trans h)]; rfl
  · next h => rw [if_pos ((endsClamped_iff ch p).1 (Bool.eq_false_iff.2 h))]; rfl

/-- An endpoint set that SERVO_ENDS accepts on a channel. -/
def EndsAccepted (ch : ServoCh) (e : Endpoints) (s : State) : Prop :=
  endsOrdered ch e = true ∧ endsFit (s.spg.chan ch).periodMs e = true

theorem servoEndsOwner_accepts (hch : servoChOf (u8At p 0) = some ch) (hidle : s.pst.writing = none)
    (h : EndsAccepted ch (askedEnds ch p) s) :
    servoEndsOwner p s =
      (setServo ch { s.spg.chan ch with waiting := some (askedEnds ch p) } s,
        [rc (if endsClamped ch p then .clamped else .ok), .u8 (u8At p 0), .u16 (askedEnds ch p).left.toNat,
          .u16 (askedEnds ch p).center.toNat, .u16 (askedEnds ch p).right.toNat]) := by
  obtain ⟨hordered, hfit⟩ := h
  simp only [servoEndsOwner, hch, storeRunning_of_idle hidle, hordered, hfit, Bool.and_self, if_true, Bool.false_eq_true, if_false,
    servoEndsReply, lastEnds, setServo, withSpg_spg, servoChan_setChan_same, Option.getD_some, servoCode_of_servoChOf hch]

theorem servoEndsOwner_refuses (hch : servoChOf (u8At p 0) = some ch) (hidle : s.pst.writing = none)
    (h : ¬EndsAccepted ch (askedEnds ch p) s) : servoEndsOwner p s = (s, servoEndsReply .badValue ch s) := by
  have hnot : ¬(endsOrdered ch (askedEnds ch p) && endsFit (s.spg.chan ch).periodMs (askedEnds ch p)) = true := by
    rwa [Bool.and_eq_true]
  simp only [servoEndsOwner, hch, storeRunning_of_idle hidle, if_neg hnot, Bool.false_eq_true, if_false]

theorem servoEndsOwner_busy (hch : servoChOf (u8At p 0) = some ch) (hbusy : s.pst.writing ≠ none) :
    servoEndsOwner p s = (s, servoEndsReply .busy ch s) := by
  simp only [servoEndsOwner, hch, storeRunning_of_writing hbusy, if_true]

theorem servoEndsOwner_noChannel (h : 3 ≤ u8At p 0) :
    servoEndsOwner p s = servoEndsNoChannel (if s.pst.writing = none then .badValue else .busy) p s := by
  by_cases hidle : s.pst.writing = none
  · simp only [servoEndsOwner, servoChOf_none h, storeRunning_of_idle hidle, if_pos hidle]
    rfl
  · simp only [servoEndsOwner, servoChOf_none h, storeRunning_of_writing hidle, if_neg hidle, if_true]

/-! ### A set comes into force -/

/-- In RUN and FAILSAFE a channel is slewed toward the pulse of its axle's angle, or the endpoint of a gear. -/
theorem frameStart_moves (hc : s.csc.chassis = .run ∨ s.csc.chassis = .failsafe) (ch : ServoCh) :
    ∃ goal,
      (frameStart ch s).spg.chan ch = emittedChan s.csc.chassis
        { readyChan ch s with
          pOut := slewToward (readyChan ch s).pOut goal (effectiveSlew (s.cfg.spg.slew ch) s.pba.pub.servoFactor)
          effSlew := effectiveSlew (s.cfg.spg.slew ch) s.pba.pub.servoFactor } ∧
      ((∃ axle, ch = axleServo axle ∧ goal = anglePulse ((endsInForce ch s).ends ch) ((frameStart ch s).smx.angle axle)) ∨
        (ch = .sh ∧ ∃ g, goal = gearEndpoint ((endsInForce ch s).ends ch) g)) := by
  have haxle (axle : Axle) : (frameStart (axleServo axle) s).smx = (mixed axle s).smx := by rw [frameStart_axle, withSpg_smx]
  cases ch with
  | fs => exact ⟨_, (frameStart_axle_chan .front s).trans (axleChan_moves hc), .inl ⟨.front, rfl, by rw [← haxle]; rfl⟩⟩
  | rs => exact ⟨_, (frameStart_axle_chan .rear s).trans (axleChan_moves hc), .inl ⟨.rear, rfl, by rw [← haxle]; rfl⟩⟩
  | sh => exact ⟨_, (frameStart_sh_chan s .sh).trans (selectorChan_moves hc), .inr ⟨rfl, _, rfl⟩⟩

theorem frameStart_rests (hc : s.csc.chassis = .standby ∨ s.csc.chassis = .hold ∨ s.csc.chassis = .cutoff) (ch : ServoCh) :
    (frameStart ch s).spg.chan ch = emittedChan s.csc.chassis (readyChan ch s) := by
  cases ch with
  | fs => exact (frameStart_axle_chan .front s).trans (axleChan_rests hc)
  | rs => exact (frameStart_axle_chan .rear s).trans (axleChan_rests hc)
  | sh => exact (frameStart_sh_chan s .sh).trans (selectorChan_rests hc)

/-- A frame start leaves no set waiting. -/
theorem frameStart_waiting (ch : ServoCh) (s : State) : ((frameStart ch s).spg.chan ch).waiting = none := by
  have hready : (readyChan ch s).waiting = none := by
    cases h : (s.spg.chan ch).waiting with
    | none => rw [readyChan_plain h, h]
    | some e => rw [readyChan_changes h]
  cases hc : s.csc.chassis with
  | run | failsafe =>
    obtain ⟨goal, hchan, -⟩ := frameStart_moves (s := s) (by simp [hc]) ch
    rw [hchan, (emittedChan_keeps _ _).2.1]
    exact hready
  | standby | hold | cutoff => rw [frameStart_rests (s := s) (by simp [hc]), (emittedChan_keeps _ _).2.1, hready]

theorem frameStart_cfg_spg (ch : ServoCh) (s : State) : (frameStart ch s).cfg.spg = endsInForce ch s := by
  have haxle (axle : Axle) : (frameStart (axleServo axle) s).cfg.spg = endsInForce (axleServo axle) s := by
    rw [frameStart_axle, withSpg_cfg, (mixed_keeps axle s).2.2]
  cases ch with
  | fs => exact haxle .front
  | rs => exact haxle .rear
  | sh => rw [(frameStart_sh_keeps s).2]

/-- From an angle within 1000 the pulse lies within the ends. -/
theorem anglePulse_mem {e : Endpoints} {a : Int}
    (he : (e.left < e.center ∧ e.center < e.right) ∨ (e.right < e.center ∧ e.center < e.left)) (ha : -1000 ≤ a ∧ a ≤ 1000) :
    min e.left e.right ≤ anglePulse e a ∧ anglePulse e a ≤ max e.left e.right := by
  unfold anglePulse
  split
  · obtain ⟨hlow, hhigh⟩ := tdiv_share (x := e.right - e.center) (r := a) (m := 1000) (by omega) (by omega) (by omega)
    omega
  · obtain ⟨hlow, hhigh⟩ := tdiv_share (x := e.center - e.left) (r := -a) (m := 1000) (by omega) (by omega) (by omega)
    rw [Int.mul_neg, Int.neg_tdiv] at hlow hhigh
    omega

/-- A pulse slewed from within a range toward a goal within it stays within it. -/
theorem slewToward_mem {x goal lo hi : Int} (step : Nat) (hx : lo ≤ x ∧ x ≤ hi) (hgoal : lo ≤ goal ∧ goal ≤ hi) :
    lo ≤ slewToward x goal step ∧ slewToward x goal step ≤ hi := by
  rw [slewToward_eq]
  omega

theorem gearEndpoint_mem (e : Endpoints) (g : Gear) :
    min e.left e.right ≤ gearEndpoint e g ∧ gearEndpoint e g ≤ max e.left e.right := by
  have hend : gearEndpoint e g = e.left ∨ gearEndpoint e g = e.right := by cases g <;> simp [gearEndpoint]
  omega

end Endpoints

/-- Settles O25: the request's outcomes, and the frame start at which a set comes into force. -/
theorem servoEndpointsAreAccepted : Obligations.ServoEndpointsAreAccepted := by
  have hexec {p : Payload} {s t u : State} {fields : List Field} (htakes : Takes 0x10 p s) (hlen : p.length = 7)
      (howner : servoEndsOwner p (popIntake s) = (t, fields))
      (hu : putReply { type := 0x10 + 0x80#8, fields := fields } t = u) : exec (.servoEnds p) s = .next u :=
    exec_of_owner (i := .servoEnds p) rfl htakes (by rw [hlen]; rfl) howner hu
  refine ⟨fun p ch s htakes hlen hch => ?request, fun p s htakes hlen h => ?noChannel, fun ch e s hpower hwaiting => ?force⟩
  case request =>
    have hgood : EndsAccepted ch (askedEnds ch p) s ↔ _ ∧ _ :=
      and_congr (endsOrdered_iff ch (askedEnds ch p)) (decide_eq_true_iff (p := _))
    have hcode := servoCode_of_servoChOf hch
    refine ⟨fun hidle h => ?_, fun hidle h => ?_, fun hbusy => ?_⟩
    · refine hexec htakes hlen (servoEndsOwner_accepts (s := popIntake s) hch hidle (hgood.2 h)) ?_
      rw [endsClamped_code]
      rfl
    · refine hexec htakes hlen (servoEndsOwner_refuses (s := popIntake s) hch hidle (mt hgood.1 h)) ?_
      rw [servoEndsReply, hcode]
      rfl
    · refine hexec htakes hlen (servoEndsOwner_busy (s := popIntake s) hch hbusy) ?_
      rw [servoEndsReply, hcode]
      rfl
  case noChannel =>
    refine hexec htakes hlen (servoEndsOwner_noChannel (s := popIntake s) h) ?_
    rw [rc_busy_or]
    rfl
  case force =>
    have hends := endsInForce_ends hwaiting
    have hready := readyChan_changes hwaiting
    refine ⟨_, exec_servoFrameStart ch hpower, by rw [frameStart_cfg_spg, hends], frameStart_waiting ch s, fun hc => ?_,
      fun hc hgoal => ?_⟩
    · rw [frameStart_rests hc, (emittedChan_keeps _ _).2.2.1, hready]
      rfl
    · obtain ⟨goal, hchan, hof⟩ := frameStart_moves hc ch
      rw [hends] at hof
      rw [hchan, (emittedChan_keeps _ _).2.2.1, hready]
      have hclamped : min e.left e.right ≤ clampInt e.lo e.hi (s.spg.chan ch).pOut ∧
          clampInt e.lo e.hi (s.spg.chan ch).pOut ≤ max e.left e.right := by
        unfold clampInt Endpoints.lo Endpoints.hi
        omega
      refine slewToward_mem _ hclamped ?_
      rcases hof with ⟨axle, rfl, rfl⟩ | ⟨-, g, rfl⟩
      · rcases hgoal with hsh | ⟨hordered, hangle⟩
        · cases axle <;> cases hsh
        · exact anglePulse_mem hordered (hangle axle rfl)
      · exact gearEndpoint_mem e g

end Sys2Proof.Machine

namespace Sys2Proof.Machine

section ShiftFrame

variable {s : State} {g : Gear} {x : Shift}

/-! ### The shift record at a frame start of the shift servo -/

theorem shiftStep_movesOff (hrun : s.csc.chassis = .run) (heasing : s.spg.shift.phase = .easing) (heased : outputsEased s = true) :
    shiftStep s = setShift { s.spg.shift with phase := .moving } s := by
  simp only [shiftStep, hrun, heasing, heased, if_true]

theorem shiftStep_waits (hrun : s.csc.chassis = .run) (heasing : s.spg.shift.phase = .easing) (heased : outputsEased s = false)
    (hwait : nextWait s < s.cfg.spg.shiftWait) : shiftStep s = setShift { s.spg.shift with waitMs := nextWait s } s := by
  simp only [shiftStep, hrun, heasing, heased, Bool.false_eq_true, if_false, if_neg (not_le.2 hwait)]

theorem shiftStep_abandons (hrun : s.csc.chassis = .run) (heasing : s.spg.shift.phase = .easing) (heased : outputsEased s = false)
    (hwait : s.cfg.spg.shiftWait ≤ nextWait s) :
    shiftStep s = abandonShift (setShift { s.spg.shift with waitMs := nextWait s } s) := by
  simp only [shiftStep, hrun, heasing, heased, Bool.false_eq_true, if_false, if_pos hwait]

theorem shiftStep_settles (hc : s.csc.chassis = .run ∨ s.csc.chassis = .failsafe) (hsettling : s.spg.shift.phase = .settling)
    (hsettle : nextSettle s < s.cfg.spg.shiftSettle) :
    shiftStep s = setShift { s.spg.shift with settleMs := nextSettle s } s := by
  rcases hc with hc | hc <;> simp only [shiftStep, hc, hsettling, if_neg (not_le.2 hsettle)]

theorem shiftStep_completes (hc : s.csc.chassis = .run ∨ s.csc.chassis = .failsafe) (hsettling : s.spg.shift.phase = .settling)
    (hsettle : s.cfg.spg.shiftSettle ≤ nextSettle s) :
    shiftStep s = completeShift (setShift { s.spg.shift with settleMs := nextSettle s } s) := by
  rcases hc with hc | hc <;> simp only [shiftStep, hc, hsettling, if_pos hsettle]

theorem shiftStep_passes (h : s.spg.shift.phase = .idle ∨ s.spg.shift.phase = .moving) : shiftStep s = s := by
  rcases h with h | h <;> cases hc : s.csc.chassis <;> simp only [shiftStep, h, hc]

theorem settleEntry_passes (h : s.spg.shift.phase ≠ .moving) : settleEntry s = s := by
  cases hp : s.spg.shift.phase <;> cases hc : s.csc.chassis <;> simp_all [settleEntry]

theorem settleEntry_short (h : s.spg.sh.pOut ≠ targetPulse .sh s) : settleEntry s = s := by
  unfold settleEntry
  simp only [if_neg h]
  split <;> rfl

theorem settleEntry_arrives (hc : s.csc.chassis = .run ∨ s.csc.chassis = .failsafe) (hmoving : s.spg.shift.phase = .moving)
    (harrived : s.spg.sh.pOut = targetPulse .sh s) :
    settleEntry s =
      if s.cfg.spg.shiftSettle = 0 then completeShift (setShift { s.spg.shift with phase := .settling, settleMs := 0 } s)
      else setShift { s.spg.shift with phase := .settling, settleMs := 0 } s := by
  rcases hc with hc | hc <;> simp only [settleEntry, hc, hmoving, if_pos harrived]

theorem frameStart_sh_shift (s : State) :
    (frameStart .sh s).spg.shift = (settleEntry (slewStep .sh (shiftStep (setup .sh s)))).spg.shift ∧
      (frameStart .sh s).lif = (settleEntry (slewStep .sh (shiftStep (setup .sh s)))).lif := by
  rw [frameStart_sh, emitPulse_eq]
  exact ⟨rfl, rfl⟩

/-- A shift that does not move at step 4 stands as its own step has left it. -/
theorem frameStart_sh_stands (h : (shiftStep (setup .sh s)).spg.shift.phase ≠ .moving) :
    (frameStart .sh s).spg.shift = (shiftStep (setup .sh s)).spg.shift ∧ (frameStart .sh s).lif = (shiftStep (setup .sh s)).lif := by
  obtain ⟨hshift, hlif⟩ := frameStart_sh_shift s
  have hslew := slewStep_eq .sh (shiftStep (setup .sh s))
  have hpasses : settleEntry (slewStep .sh (shiftStep (setup .sh s))) = slewStep .sh (shiftStep (setup .sh s)) :=
    settleEntry_passes (by rw [hslew]; exact h)
  rw [hshift, hlif, hpasses, hslew]
  exact ⟨rfl, rfl⟩

/-- The pulse of the selector, slewed toward the endpoint of the gear that the shift's own step leaves held. -/
theorem frameStart_sh_pulse (hc : s.csc.chassis = .run ∨ s.csc.chassis = .failsafe) (hplain : s.spg.sh.waiting = none) :
    (frameStart .sh s).spg.sh.pOut =
      slewToward s.spg.sh.pOut (gearEndpoint s.cfg.spg.shEnds (shiftStep (setup .sh s)).spg.shift.held)
        (effectiveSlew s.cfg.spg.shSlew s.pba.pub.servoFactor) := by
  have hplain' : (s.spg.chan .sh).waiting = none := hplain
  have hchan : (frameStart .sh s).spg.sh = selectorChan s := frameStart_sh_chan s .sh
  rw [hchan, selectorChan_moves hc, (emittedChan_keeps _ _).2.2.1, endsInForce_plain hplain', readyChan_plain hplain']
  rfl

/-- A MOVING shift at step 4: it slews on, settles, or completes where the settle time is 0. -/
theorem frameStart_sh_moving (hc : s.csc.chassis = .run ∨ s.csc.chassis = .failsafe) (hplain : s.spg.sh.waiting = none)
    (hx : (shiftStep (setup .sh s)).spg.shift = x) (hlif : (shiftStep (setup .sh s)).lif = s.lif) (hmoving : x.phase = .moving)
    (hpending : x.pending = some g) :
    let goal := gearEndpoint s.cfg.spg.shEnds g
    let arrived := slewToward s.spg.sh.pOut goal (effectiveSlew s.cfg.spg.shSlew s.pba.pub.servoFactor)
    (frameStart .sh s).spg.sh.pOut = arrived ∧
      (arrived ≠ goal → (frameStart .sh s).spg.shift = x ∧ (frameStart .sh s).lif = s.lif) ∧
      (arrived = goal → s.cfg.spg.shiftSettle ≠ 0 →
        (frameStart .sh s).spg.shift = { x with phase := .settling, settleMs := 0 } ∧ (frameStart .sh s).lif = s.lif) ∧
      (arrived = goal → s.cfg.spg.shiftSettle = 0 →
        (frameStart .sh s).spg.shift = { x with gear := g, pending := none, phase := .idle, waitMs := 0, settleMs := 0 } ∧
          (frameStart .sh s).lif = posted { type := 0xE2, fields := [.u8 0, .u8 g.code, .u8 g.code] } s.lif) := by
  intro goal arrived
  have hheld : x.held = g := by rw [Shift.held, hmoving, hpending]; rfl
  have hpulse := frameStart_sh_pulse hc hplain
  rw [hx, hheld] at hpulse
  obtain ⟨hshift, hlif'⟩ := frameStart_sh_shift s
  have hplain' : (s.spg.chan .sh).waiting = none := hplain
  have hcsc : (slewStep .sh (shiftStep (setup .sh s))).csc = s.csc := by simp [setup_eq]
  have hcfg : (slewStep .sh (shiftStep (setup .sh s))).cfg = s.cfg := by simp [setup_eq, endsInForce_plain hplain']
  have hslewed : (slewStep .sh (shiftStep (setup .sh s))).spg.shift = x := by rw [slewStep_eq]; exact hx
  have hslewedLif : (slewStep .sh (shiftStep (setup .sh s))).lif = s.lif := by rw [slewStep_eq]; exact hlif
  have hout : (slewStep .sh (shiftStep (setup .sh s))).spg.sh.pOut = arrived := by
    have hchan : (frameStart .sh s).spg.sh = selectorChan s := frameStart_sh_chan s .sh
    rw [hchan, selectorChan, (emittedChan_keeps _ _).2.2.1] at hpulse
    rw [slewStep_eq]
    exact hpulse
  have htarget : targetPulse .sh (slewStep .sh (shiftStep (setup .sh s))) = goal := by
    rw [targetPulse, hcfg, hslewed, hheld]
  rw [hshift, hlif']
  refine ⟨hpulse, fun hne => ?short, fun heq hsettle => ?settles, fun heq hsettle => ?completes⟩
  case short =>
    rw [settleEntry_short (by rwa [hout, htarget])]
    exact ⟨hslewed, hslewedLif⟩
  case settles =>
    rw [settleEntry_arrives (by rwa [hcsc]) (by rwa [hslewed]) (by rwa [hout, htarget]), hcfg, if_neg hsettle, hslewed]
    exact ⟨rfl, hslewedLif⟩
  case completes =>
    rw [settleEntry_arrives (by rwa [hcsc]) (by rwa [hslewed]) (by rwa [hout, htarget]), hcfg, if_pos hsettle, hslewed, completeShift,
      endShift_eq]
    have hends : ({ x with phase := ShiftPhase.settling, settleMs := 0 } : Shift).pending.getD
        ({ x with phase := ShiftPhase.settling, settleMs := 0 } : Shift).gear = g := congrArg (·.getD x.gear) hpending
    have hreport : shiftEndReport .done g x.pending = { type := 0xE2, fields := [.u8 0, .u8 g.code, .u8 g.code] } := by
      rw [hpending]
      rfl
    simp only [setShift, withSpg_spg, withSpg_lif, hslewedLif]
    exact ⟨by rw [hends], by rw [hends, hreport]⟩

/-! ### The two expiries -/

theorem nextWait_ready (hplain : s.spg.sh.waiting = none) :
    nextWait (setup .sh s) = min (s.spg.shift.waitMs + s.cfg.spg.shPeriod) 5020 := by
  have hplain' : (s.spg.chan .sh).waiting = none := hplain
  rw [setup_plain hplain']
  rfl

theorem nextSettle_ready (hplain : s.spg.sh.waiting = none) :
    nextSettle (setup .sh s) = min (s.spg.shift.settleMs + s.cfg.spg.shPeriod) 1020 := by
  have hplain' : (s.spg.chan .sh).waiting = none := hplain
  rw [setup_plain hplain']
  rfl

theorem shiftWaitDue_iff : shiftWaitDue s = true ↔ s.csc.chassis = .run ∧ s.spg.shift.phase = .easing ∧ outputsEased s = false ∧
    s.cfg.spg.shiftWait ≤ min (s.spg.shift.waitMs + s.cfg.spg.shPeriod) 5020 := by
  have hnext : nextWait (latchPeriod .sh s) = min (s.spg.shift.waitMs + s.cfg.spg.shPeriod) 5020 := rfl
  simp only [shiftWaitDue, hnext, Bool.and_eq_true, decide_eq_true_iff, Bool.not_eq_true', and_assoc]

theorem exec_shiftWaitExpiry (hpower : s.power = .running) (h : shiftWaitDue s = true) :
    exec .shiftWaitExpiry s = .next (frameStart .sh s) := congrArg Host.Outcome.next (whenDue_due hpower h)

theorem exec_shiftWaitExpiry_not
    (h : ¬(s.csc.chassis = .run ∧ s.spg.shift.phase = .easing ∧ outputsEased s = false ∧
      s.cfg.spg.shiftWait ≤ min (s.spg.shift.waitMs + s.cfg.spg.shPeriod) 5020)) :
    exec .shiftWaitExpiry s = .next s :=
  congrArg Host.Outcome.next (whenDue_not (Bool.eq_false_iff.2 (mt shiftWaitDue_iff.1 h)))

/-- The settle expiry is the frame start that brings a shift to IDLE other than by abandoning it. -/
theorem exec_shiftSettleExpiry (hpower : s.power = .running) (hshifts : s.spg.shift.phase ≠ .idle) (hwait : shiftWaitDue s = false)
    (h : (frameStart .sh s).spg.shift.phase = .idle) : exec .shiftSettleExpiry s = .next (frameStart .sh s) := by
  have hdue : shiftSettleDue s = true := by
    simp only [shiftSettleDue, decide_eq_true hshifts, hwait, decide_eq_true h, Bool.not_false, Bool.and_self]
  exact congrArg Host.Outcome.next (whenDue_due hpower hdue)

theorem exec_shiftSettleExpiry_not (h : s.spg.shift.phase = .idle ∨ (frameStart .sh s).spg.shift.phase ≠ .idle) :
    exec .shiftSettleExpiry s = .next s := by
  have hdue : shiftSettleDue s = false := by
    rcases h with h | h
    · simp [shiftSettleDue, h]
    · simp [shiftSettleDue, h]
  exact congrArg Host.Outcome.next (whenDue_not hdue)

end ShiftFrame

end Sys2Proof.Machine

namespace Sys2Proof.Machine

section ShiftFrame

variable {s : State} {g : Gear}

/-- What a frame start of the shift servo leaves alone while no endpoint set waits. -/
theorem frameStart_sh_frame (hplain : s.spg.sh.waiting = none) :
    (frameStart .sh s).csc = s.csc ∧ (frameStart .sh s).smx = s.smx ∧ (frameStart .sh s).drc = s.drc ∧
      (frameStart .sh s).wnc = s.wnc ∧ (frameStart .sh s).lcu = s.lcu ∧ (frameStart .sh s).cfg = s.cfg ∧
      (frameStart .sh s).spg.fs = s.spg.fs ∧ (frameStart .sh s).spg.rs = s.spg.rs := by
  have hplain' : (s.spg.chan .sh).waiting = none := hplain
  obtain ⟨-, -, -, -, hcsc, hdrc, hwnc, hlcu, -⟩ := frameStart_keeps .sh s
  obtain ⟨hsmx, hcfg⟩ := frameStart_sh_keeps s
  exact ⟨hcsc, hsmx, hdrc, hwnc, hlcu, hcfg.trans (by rw [endsInForce_plain hplain']), frameStart_sh_chan s .fs,
    frameStart_sh_chan s .rs⟩

theorem setup_sh_keeps (s : State) :
    (setup .sh s).csc = s.csc ∧ (setup .sh s).spg.shift = s.spg.shift ∧ (setup .sh s).drc = s.drc ∧ (setup .sh s).lif = s.lif ∧
      (setup .sh s).cfg.spg.shiftWait = s.cfg.spg.shiftWait ∧ (setup .sh s).cfg.spg.shiftSettle = s.cfg.spg.shiftSettle := by
  rw [setup_eq]
  refine ⟨rfl, servoSetChan_shift .., rfl, rfl, ?_, ?_⟩ <;> unfold endsInForce <;> split <;> rfl

theorem outputsEased_iff :
    outputsEased s = true ↔ s.drc.df.output.natAbs ≤ s.spg.shift.latched ∧ s.drc.dr.output.natAbs ≤ s.spg.shift.latched := by
  simp only [outputsEased, Bool.and_eq_true, decide_eq_true_iff]

/-- A shift record that the set-up leaves passes through the shift's own step where there is nothing to do. -/
theorem shiftStep_setup_passes (h : s.spg.shift.phase = .idle ∨ s.spg.shift.phase = .moving) :
    (shiftStep (setup .sh s)).spg.shift = s.spg.shift ∧ (shiftStep (setup .sh s)).lif = s.lif := by
  obtain ⟨-, hshift, -, hlif, -, -⟩ := setup_sh_keeps s
  rw [shiftStep_passes (by rwa [hshift])]
  exact ⟨hshift, hlif⟩

/-- With both outputs within the threshold an easing shift moves off. -/
theorem shiftStep_setup_movesOff (hrun : s.csc.chassis = .run) (heasing : s.spg.shift.phase = .easing) (heased : outputsEased s = true) :
    (shiftStep (setup .sh s)).spg.shift = { s.spg.shift with phase := .moving } ∧ (shiftStep (setup .sh s)).lif = s.lif := by
  obtain ⟨hcsc, hshift, hdrc, hlif, -, -⟩ := setup_sh_keeps s
  have heased' : outputsEased (setup .sh s) = true := by rwa [outputsEased, hshift, hdrc]
  rw [shiftStep_movesOff (by rwa [hcsc]) (by rwa [hshift]) heased', hshift]
  exact ⟨rfl, hlif⟩

/-- An easing shift that waits on, or is abandoned at its wait time. -/
theorem shiftStep_setup_easing (hrun : s.csc.chassis = .run) (heasing : s.spg.shift.phase = .easing) (heased : outputsEased s = false)
    (hplain : s.spg.sh.waiting = none) :
    let wait := min (s.spg.shift.waitMs + s.cfg.spg.shPeriod) 5020
    (wait < s.cfg.spg.shiftWait →
      (shiftStep (setup .sh s)).spg.shift = { s.spg.shift with waitMs := wait } ∧ (shiftStep (setup .sh s)).lif = s.lif) ∧
    (s.cfg.spg.shiftWait ≤ wait →
      (shiftStep (setup .sh s)).spg.shift = { s.spg.shift with pending := none, phase := .idle, waitMs := 0, settleMs := 0 } ∧
        (shiftStep (setup .sh s)).lif = posted (shiftEndReport .abandoned s.spg.shift.gear s.spg.shift.pending) s.lif) := by
  intro wait
  obtain ⟨hcsc, hshift, hdrc, hlif, hshiftWait, -⟩ := setup_sh_keeps s
  have heased' : outputsEased (setup .sh s) = false := by rwa [outputsEased, hshift, hdrc]
  have hnext : nextWait (setup .sh s) = wait := nextWait_ready hplain
  refine ⟨fun hlt => ?_, fun hle => ?_⟩
  · rw [shiftStep_waits (by rwa [hcsc]) (by rwa [hshift]) heased' (by rwa [hnext, hshiftWait]), hnext, hshift]
    exact ⟨rfl, hlif⟩
  · rw [shiftStep_abandons (by rwa [hcsc]) (by rwa [hshift]) heased' (by rwa [hnext, hshiftWait]), hshift, abandonShift, endShift_eq]
    exact ⟨rfl, by simp only [setShift, withSpg_spg, withSpg_lif, hlif]⟩

/-- A settling shift that settles on, or completes at its settle time. -/
theorem shiftStep_setup_settling (hc : s.csc.chassis = .run ∨ s.csc.chassis = .failsafe) (hsettling : s.spg.shift.phase = .settling)
    (hpending : s.spg.shift.pending = some g) (hplain : s.spg.sh.waiting = none) :
    let settle := min (s.spg.shift.settleMs + s.cfg.spg.shPeriod) 1020
    (settle < s.cfg.spg.shiftSettle →
      (shiftStep (setup .sh s)).spg.shift = { s.spg.shift with settleMs := settle } ∧ (shiftStep (setup .sh s)).lif = s.lif) ∧
    (s.cfg.spg.shiftSettle ≤ settle →
      (shiftStep (setup .sh s)).spg.shift =
          { s.spg.shift with gear := g, pending := none, phase := .idle, waitMs := 0, settleMs := 0 } ∧
        (shiftStep (setup .sh s)).lif = posted { type := 0xE2, fields := [.u8 0, .u8 g.code, .u8 g.code] } s.lif) := by
  intro settle
  obtain ⟨hcsc, hshift, -, hlif, -, hshiftSettle⟩ := setup_sh_keeps s
  have hnext : nextSettle (setup .sh s) = settle := nextSettle_ready hplain
  refine ⟨fun hlt => ?_, fun hle => ?_⟩
  · rw [shiftStep_settles (by rwa [hcsc]) (by rwa [hshift]) (by rwa [hnext, hshiftSettle]), hnext, hshift]
    exact ⟨rfl, hlif⟩
  · have hgear : ({ s.spg.shift with settleMs := settle } : Shift).pending.getD ({ s.spg.shift with settleMs := settle } : Shift).gear = g :=
      congrArg (·.getD s.spg.shift.gear) hpending
    have hreport : shiftEndReport .done g s.spg.shift.pending = { type := 0xE2, fields := [.u8 0, .u8 g.code, .u8 g.code] } := by
      rw [hpending]
      rfl
    rw [shiftStep_completes (by rwa [hcsc]) (by rwa [hshift]) (by rwa [hnext, hshiftSettle]), hnext, hshift, completeShift, endShift_eq]
    simp only [setShift, withSpg_spg, withSpg_lif, hlif]
    exact ⟨by rw [hgear], by rw [hgear, hreport]⟩

end ShiftFrame

/-- Settles O29: the refused GEAR, then the frame start of a MOVING and of an EASING shift. -/
theorem easingShiftMovesOrIsAbandoned : Obligations.EasingShiftMovesOrIsAbandoned := by
  refine ⟨fun b s htakes hvalue _ _ => exec_gear_of_owner htakes (gearOwner_badValue (gearOf_of_two_le hvalue)),
    fun g s hpower hc hmoving hpending hplain => ?moving, fun g s hpower hrun heasing hpending hplain => ?easing⟩
  case moving =>
    obtain ⟨hx, hlif⟩ := shiftStep_setup_passes (.inr hmoving)
    obtain ⟨hpulse, hshort, hsettles, hcompletes⟩ := frameStart_sh_moving hc hplain hx hlif hmoving hpending
    have hnotWait : shiftWaitDue s = false := Bool.eq_false_iff.2 fun hdue => by
      obtain ⟨-, heasing, -⟩ := shiftWaitDue_iff.1 hdue
      exact ShiftPhase.noConfusion (hmoving.symm.trans heasing)
    refine ⟨_, exec_servoFrameStart .sh hpower, hpulse, fun hne => ?_, fun heq hsettle => ?_, fun heq hsettle => ?_,
      frameStart_sh_frame hplain⟩
    · obtain ⟨hshift, hlif⟩ := hshort hne
      exact ⟨hshift, hlif, exec_shiftSettleExpiry_not (.inr (by rw [hshift, hmoving]; exact ShiftPhase.noConfusion))⟩
    · obtain ⟨hshift, hlif⟩ := hsettles heq hsettle
      exact ⟨hshift, hlif, exec_shiftSettleExpiry_not (.inr (by rw [hshift]; exact ShiftPhase.noConfusion))⟩
    · obtain ⟨hshift, hlif⟩ := hcompletes heq hsettle
      exact ⟨hshift, hlif,
        exec_shiftSettleExpiry hpower (by rw [hmoving]; exact ShiftPhase.noConfusion) hnotWait (by rw [hshift])⟩
  case easing =>
    refine ⟨_, exec_servoFrameStart .sh hpower, fun heased => ?_, fun heased => ?_, fun heased hwait => ?_, fun heased hwait => ?_,
      frameStart_sh_frame hplain⟩
    · have heased' : outputsEased s = false := Bool.eq_false_iff.2 (mt outputsEased_iff.1 heased)
      obtain ⟨hwaits, habandons⟩ := shiftStep_setup_easing hrun heasing heased' hplain
      have hheld : (shiftStep (setup .sh s)).spg.shift.held = s.spg.shift.gear := by
        rcases lt_or_ge (min (s.spg.shift.waitMs + s.cfg.spg.shPeriod) 5020) s.cfg.spg.shiftWait with hlt | hle
        · rw [(hwaits hlt).1, Shift.held, heasing]
        · rw [(habandons hle).1, Shift.held]
      have hpulse := frameStart_sh_pulse (.inl hrun) hplain
      rwa [hheld] at hpulse
    · have heased' : outputsEased s = true := outputsEased_iff.2 heased
      obtain ⟨hx, hlif⟩ := shiftStep_setup_movesOff hrun heasing heased'
      obtain ⟨hpulse, hshort, hsettles, hcompletes⟩ := frameStart_sh_moving (.inl hrun) hplain hx hlif rfl hpending
      have hnotWait : shiftWaitDue s = false := Bool.eq_false_iff.2 fun hdue => by
        obtain ⟨-, -, hnot, -⟩ := shiftWaitDue_iff.1 hdue
        exact Bool.noConfusion (heased'.symm.trans hnot)
      refine ⟨hpulse, congrArg Host.Outcome.next (whenDue_not hnotWait), hshort, hsettles, fun heq hsettle => ?_⟩
      obtain ⟨hshift, hlif⟩ := hcompletes heq hsettle
      exact ⟨hshift, hlif,
        exec_shiftSettleExpiry hpower (by rw [heasing]; exact ShiftPhase.noConfusion) hnotWait (by rw [hshift])⟩
    · have heased' : outputsEased s = false := Bool.eq_false_iff.2 (mt outputsEased_iff.1 heased)
      obtain ⟨hwaits, -⟩ := shiftStep_setup_easing hrun heasing heased' hplain
      obtain ⟨hx, hlif⟩ := hwaits hwait
      obtain ⟨hshift, hlif'⟩ := frameStart_sh_stands (s := s) (by rw [hx, heasing]; exact ShiftPhase.noConfusion)
      exact ⟨hshift.trans hx, hlif'.trans hlif,
        exec_shiftWaitExpiry_not fun hdue => absurd hdue.2.2.2 (not_le.2 hwait)⟩
    · have heased' : outputsEased s = false := Bool.eq_false_iff.2 (mt outputsEased_iff.1 heased)
      obtain ⟨-, habandons⟩ := shiftStep_setup_easing hrun heasing heased' hplain
      obtain ⟨hx, hlif⟩ := habandons hwait
      obtain ⟨hshift, hlif'⟩ := frameStart_sh_stands (s := s) (by rw [hx]; exact ShiftPhase.noConfusion)
      refine ⟨hshift.trans hx, hlif'.trans (hlif.trans ?_),
        exec_shiftWaitExpiry hpower (shiftWaitDue_iff.2 ⟨hrun, heasing, heased', hwait⟩)⟩
      rw [hpending]
      rfl

/-- Settles O30: a settling shift, an idle selector, and both in HOLD. -/
theorem settlingShiftCompletes : Obligations.SettlingShiftCompletes := by
  refine ⟨fun g s hpower hc hsettling hpending hplain => ?settling, fun s hpower hc hidle hplain => ?idle,
    fun s hpower hhold hplain => ?hold⟩
  case settling =>
    obtain ⟨hcsc, hsmx, hdrc, hwnc, -, hcfg, -⟩ := frameStart_sh_frame hplain
    obtain ⟨hon, hdone⟩ := shiftStep_setup_settling hc hsettling hpending hplain
    have hnotWait : shiftWaitDue s = false := Bool.eq_false_iff.2 fun hdue => by
      obtain ⟨-, heasing, -⟩ := shiftWaitDue_iff.1 hdue
      exact ShiftPhase.noConfusion (hsettling.symm.trans heasing)
    have hheld : (shiftStep (setup .sh s)).spg.shift.held = g := by
      rcases lt_or_ge (min (s.spg.shift.settleMs + s.cfg.spg.shPeriod) 1020) s.cfg.spg.shiftSettle with hlt | hle
      · rw [(hon hlt).1, Shift.held, hsettling, hpending]
        rfl
      · rw [(hdone hle).1]
        rfl
    have hpulse := frameStart_sh_pulse hc hplain
    rw [hheld] at hpulse
    refine ⟨_, exec_servoFrameStart .sh hpower, hpulse, fun hlt => ?_, fun hle => ?_, hcsc, hsmx, hdrc, hwnc, hcfg⟩
    · obtain ⟨hx, hlif⟩ := hon hlt
      obtain ⟨hshift, hlif'⟩ := frameStart_sh_stands (s := s) (by rw [hx, hsettling]; exact ShiftPhase.noConfusion)
      refine ⟨hshift.trans hx, hlif'.trans hlif, exec_shiftSettleExpiry_not (.inr ?_)⟩
      rw [hshift, hx, hsettling]
      exact ShiftPhase.noConfusion
    · obtain ⟨hx, hlif⟩ := hdone hle
      obtain ⟨hshift, hlif'⟩ := frameStart_sh_stands (s := s) (by rw [hx]; exact ShiftPhase.noConfusion)
      exact ⟨hshift.trans hx, hlif'.trans hlif,
        exec_shiftSettleExpiry hpower (by rw [hsettling]; exact ShiftPhase.noConfusion) hnotWait (by rw [hshift, hx])⟩
  case idle =>
    obtain ⟨hcsc, hsmx, hdrc, hwnc, -, hcfg, -⟩ := frameStart_sh_frame hplain
    obtain ⟨hx, hlif⟩ := shiftStep_setup_passes (.inl hidle)
    obtain ⟨hshift, hlif'⟩ := frameStart_sh_stands (s := s) (by rw [hx, hidle]; exact ShiftPhase.noConfusion)
    have hheld : s.spg.shift.held = s.spg.shift.gear := by rw [Shift.held, hidle]
    have hpulse := frameStart_sh_pulse hc hplain
    rw [hx, hheld] at hpulse
    exact ⟨_, exec_servoFrameStart .sh hpower, hshift.trans hx, hlif'.trans hlif, hpulse,
      exec_shiftWaitExpiry_not fun hdue => ShiftPhase.noConfusion (hidle.symm.trans hdue.2.1),
      exec_shiftSettleExpiry_not (.inl hidle), hcsc, hsmx, hdrc, hwnc, hcfg⟩
  case hold =>
    have hplain' : (s.spg.chan .sh).waiting = none := hplain
    have hrests := frameStart_sh_rests (s := s) (.inr (.inl hhold))
    rw [hhold, setup_plain hplain', readyChan_plain hplain'] at hrests
    refine ⟨_, exec_servoFrameStart .sh hpower, ?_⟩
    rw [hrests]
    exact ⟨rfl, rfl, rfl⟩

end Sys2Proof.Machine

namespace Sys2Proof.Machine

/-! ## The drive update -/

section DriveUpdate

variable {s u : State} {ch : DriveCh} {current : Nat} {c : DriveChan} {l : Lif}

theorem exec_driveUpdate (ch : DriveCh) (current : Nat) (hpower : s.power = .running) :
    exec (.driveUpdate ch current) s = .next (driveUpdate ch current s) := congrArg Host.Outcome.next (whenRunning_runs hpower)

@[simp] theorem driveSetChan_self (d : Drc) (ch : DriveCh) : d.setChan ch (d.chan ch) = d := by cases ch <;> rfl

@[simp] theorem driveSetChan_keeps (d : Drc) (ch : DriveCh) (c : DriveChan) :
    (d.setChan ch c).digInForce = d.digInForce ∧ (d.setChan ch c).digRequested = d.digRequested ∧ (d.setChan ch c).clock = d.clock := by
  cases ch <;> exact ⟨rfl, rfl, rfl⟩

/-- DRC once the requested dig mode is in force. -/
def digTaken (d : Drc) : Drc := { d with digInForce := d.digRequested }

/-- The part before the move of an update: the fault step has left a channel and LIF, and the cap has followed the grant. -/
def folded (ch : DriveCh) (current : Nat) (c : DriveChan) (l : Lif) (s : State) : State :=
  { s with
    drc := (digTaken s.drc).setChan ch { c with cap := foldCap c.cap current (driveGrant ch s) }
    lif := l }

@[simp] theorem folded_chan (ch : DriveCh) (current : Nat) (c : DriveChan) (l : Lif) (s : State) :
    (folded ch current c l s).drc.chan ch = { c with cap := foldCap c.cap current (driveGrant ch s) } := setChan_chan_same ..

@[simp] theorem folded_digInForce (ch : DriveCh) (current : Nat) (c : DriveChan) (l : Lif) (s : State) :
    (folded ch current c l s).drc.digInForce = s.drc.digRequested := (driveSetChan_keeps _ _ _).1

/-- An update in the terms of what its fault step and its move leave. -/
theorem driveUpdate_outcome {d : DriveChan} (hcurve : (s.smx.load .throttle).state ≠ .pending)
    (hfault : faultStep ch (min current 65000) (digIntoForce s) = { s with drc := (digTaken s.drc).setChan ch c, lif := l })
    (hmove : driveMove ch (folded ch (min current 65000) c l s) = d) :
    driveUpdate ch current s = { s with drc := (digTaken s.drc).setChan ch d.leaveUpdate, lif := l } := by
  have hfold : driveFoldback ch (min current 65000) { s with drc := (digTaken s.drc).setChan ch c, lif := l } =
      folded ch (min current 65000) c l s := by
    have hgrant : driveGrant ch { s with drc := (digTaken s.drc).setChan ch c, lif := l } = driveGrant ch s := by cases ch <;> rfl
    simp only [driveFoldback, setDrive, setChan_chan_same, setChan_setChan, hgrant]
    rfl
  simp only [driveUpdate, curveChangeover_not_pending hcurve, hfault, hfold, hmove, setDrive]
  simp only [folded, setChan_setChan]
  rfl

/-! ### The fault step -/

theorem faultStep_normal (hnormal : (s.drc.chan ch).fault = .normal) (htrip : current ≤ s.cfg.drc.tripLevel) :
    faultStep ch current (digIntoForce s) = { s with drc := (digTaken s.drc).setChan ch (s.drc.chan ch), lif := s.lif } := by
  have hchan : (digTaken s.drc).chan ch = s.drc.chan ch := by cases ch <;> rfl
  have htaken : ((digIntoForce s).drc.chan ch).fault = .normal := (congrArg DriveChan.fault hchan).trans hnormal
  have hsame : faultStep ch current (digIntoForce s) = digIntoForce s := faultStep_untripped htaken htrip
  rw [hsame, ← hchan, driveSetChan_self]
  rfl

/-- A NORMAL channel trips; where three trips are close it is latched and reported. -/
theorem faultStep_trips (hnormal : (s.drc.chan ch).fault = .normal) (htrip : s.cfg.drc.tripLevel < current) :
    faultStep ch current (digIntoForce s) =
      { s with
        drc := (digTaken s.drc).setChan ch (trippedChan s.drc.clock (s.drc.chan ch))
        lif := if tripsClose (pushTrip (s.drc.chan ch).history s.drc.clock) then
            posted (driveFaultReport ch (pushTrip (s.drc.chan ch).history s.drc.clock) current) s.lif
          else s.lif } := by
  have hchan : (digIntoForce s).drc.chan ch = s.drc.chan ch := by cases ch <;> rfl
  have hcond : (s.drc.chan ch).fault = .normal ∧ (digIntoForce s).cfg.drc.tripLevel < current := ⟨hnormal, htrip⟩
  simp only [faultStep, hchan, retriedChan_normal hnormal, if_pos hcond]
  by_cases hclose : tripsClose (pushTrip (s.drc.chan ch).history s.drc.clock) = true
  · have hlatched : (trippedChan (digIntoForce s).drc.clock (s.drc.chan ch)).fault = .latched := if_pos hclose
    rw [if_pos hlatched, postReport_eq, if_pos hclose]
    rfl
  · have hlatched : ¬(trippedChan (digIntoForce s).drc.clock (s.drc.chan ch)).fault = .latched := by
      rw [show (trippedChan (digIntoForce s).drc.clock (s.drc.chan ch)).fault = .tripped from if_neg hclose]
      exact FaultState.noConfusion
    rw [if_neg hlatched, if_neg hclose]
    rfl

/-- A faulted channel whose retry is not due waits. -/
theorem faultStep_waits (hfault : (s.drc.chan ch).fault ≠ .normal) (hdue : retryDue s.drc.clock (s.drc.chan ch) = false) :
    faultStep ch current (digIntoForce s) = { s with drc := (digTaken s.drc).setChan ch (s.drc.chan ch), lif := s.lif } := by
  have hchan : (digIntoForce s).drc.chan ch = s.drc.chan ch := by cases ch <;> rfl
  have hretried : retriedChan (digIntoForce s).drc.clock (s.drc.chan ch) = s.drc.chan ch := by
    rw [retriedChan]
    exact if_neg (Bool.eq_false_iff.1 hdue)
  simp only [faultStep, hchan, hretried, hfault, false_and, if_false]
  rfl

/-! ### The move -/

theorem driveMove_faulted (h : (u.drc.chan ch).fault ≠ .normal) :
    driveMove ch u = { u.drc.chan ch with target := 0, output := 0, brake := 0, assist := false } := by
  rw [driveMove, if_pos h]
  rfl

theorem driveMove_coasts (h : (u.drc.chan ch).fault = .normal) (hc : u.csc.chassis = .standby ∨ u.csc.chassis = .cutoff) :
    driveMove ch u = { u.drc.chan ch with target := 0, output := 0, brake := 0, assist := false } := by
  rcases hc with hc | hc <;> simp only [driveMove, h, hc, ne_eq, not_true, if_false] <;> rfl

theorem driveMove_hold (h : (u.drc.chan ch).fault = .normal) (hc : u.csc.chassis = .hold) :
    driveMove ch u = { u.drc.chan ch with target := 0, output := 0, brake := 1000, assist := false } := by
  simp only [driveMove, h, hc, ne_eq, not_true, if_false]
  rfl

theorem driveMove_run_locked (h : (u.drc.chan ch).fault = .normal) (hc : u.csc.chassis = .run)
    (hdig : digLocks u.drc.digInForce ch = true) :
    driveMove ch u = { u.drc.chan ch with target := 0, output := 0, brake := 1000, assist := assistApplies u } := by
  simp only [driveMove, h, hc, ne_eq, not_true, if_false, driveToward, hdig, if_true]
  rfl

theorem driveMove_run (h : (u.drc.chan ch).fault = .normal) (hc : u.csc.chassis = .run) (hdig : digLocks u.drc.digInForce ch = false) :
    driveMove ch u =
      let target := easeTarget u.spg.shift (runTarget ch u)
      let output := capOutput (u.drc.chan ch).cap (slewOutput u.cfg.drc.aUp u.cfg.drc.aDown (u.drc.chan ch).output target)
      { u.drc.chan ch with
        target := target, output := output, brake := restBrake u.cfg.drc.drag target output, assist := assistApplies u } := by
  simp only [driveMove, h, hc, ne_eq, not_true, if_false, driveToward, hdig, Bool.false_eq_true]

theorem driveMove_failsafe_locked (h : (u.drc.chan ch).fault = .normal) (hc : u.csc.chassis = .failsafe)
    (hdig : digLocks u.drc.digInForce ch = true) :
    driveMove ch u = { u.drc.chan ch with target := 0, output := 0, brake := 1000, assist := false } := by
  simp only [driveMove, h, hc, ne_eq, not_true, if_false, driveToward, hdig, if_true]
  rfl

/-- No ease moves a target of 0. -/
theorem easeTarget_zero (x : Shift) : easeTarget x 0 = 0 := by
  unfold easeTarget clampInt
  split <;> omega

theorem driveMove_failsafe (h : (u.drc.chan ch).fault = .normal) (hc : u.csc.chassis = .failsafe)
    (hdig : digLocks u.drc.digInForce ch = false) :
    driveMove ch u =
      let output := capOutput (u.drc.chan ch).cap (slewOutput u.cfg.drc.aUp u.cfg.drc.aDown (u.drc.chan ch).output 0)
      { u.drc.chan ch with
        target := 0, output := output, brake := restBrake (failsafeStrength u.cfg.drc) 0 output, assist := false } := by
  simp only [driveMove, h, hc, ne_eq, not_true, if_false, driveToward, hdig, Bool.false_eq_true, easeTarget_zero]

end DriveUpdate

section Untripped

variable {s : State} {ch : DriveCh} {current : Nat} {d : DriveChan}

/-- The update of a NORMAL channel that does not trip, in the terms of its move. -/
theorem exec_driveUpdate_untripped (hpower : s.power = .running) (hcurve : (s.smx.load .throttle).state ≠ .pending)
    (hnormal : (s.drc.chan ch).fault = .normal) (htrip : min current 65000 ≤ s.cfg.drc.tripLevel)
    (hmove : driveMove ch (folded ch (min current 65000) (s.drc.chan ch) s.lif s) = d) :
    exec (.driveUpdate ch current) s = .next { s with drc := (digTaken s.drc).setChan ch d.leaveUpdate } :=
  (exec_driveUpdate ch current hpower).trans
    (congrArg Host.Outcome.next (driveUpdate_outcome hcurve (faultStep_normal hnormal htrip) hmove))

end Untripped

/-- Settles O31: the move of a NORMAL channel in RUN, free and locked. -/
theorem driveUpdateFollowsTheThrottle : Obligations.DriveUpdateFollowsTheThrottle := by
  intro ch current s hpower hrun hcurve hnormal htrip
  have hfolded : ((folded ch (min current 65000) (s.drc.chan ch) s.lif s).drc.chan ch).fault = .normal := by rw [folded_chan, hnormal]
  refine ⟨fun hdig => ?_, fun hdig => ?_⟩
  · have hmove := driveMove_run hfolded hrun (by rwa [folded_digInForce])
    rw [folded_chan] at hmove
    refine (exec_driveUpdate_untripped hpower hcurve hnormal htrip hmove).trans ?_
    cases ch <;> rfl
  · have hmove := driveMove_run_locked hfolded hrun (by rwa [folded_digInForce])
    rw [folded_chan] at hmove
    exact exec_driveUpdate_untripped hpower hcurve hnormal htrip hmove

/-- Settles O33: the move of a NORMAL channel in each of the other states. -/
theorem driveUpdateOutsideRun : Obligations.DriveUpdateOutsideRun := by
  intro ch current s hpower hcurve hnormal htrip
  have hfolded : ((folded ch (min current 65000) (s.drc.chan ch) s.lif s).drc.chan ch).fault = .normal := by rw [folded_chan, hnormal]
  have hexec {d : DriveChan} (hmove : driveMove ch (folded ch (min current 65000) (s.drc.chan ch) s.lif s) = d) :
      exec (.driveUpdate ch current) s = .next { s with drc := (digTaken s.drc).setChan ch d.leaveUpdate } :=
    exec_driveUpdate_untripped hpower hcurve hnormal htrip hmove
  refine ⟨fun hc => ?_, fun hc => ?_, fun hc hdig => ?_, fun hc hdig => ?_⟩
  · have hmove := driveMove_coasts hfolded hc
    rw [folded_chan] at hmove
    exact hexec hmove
  · have hmove := driveMove_hold hfolded hc
    rw [folded_chan] at hmove
    exact hexec hmove
  · have hmove := driveMove_failsafe hfolded hc (by rwa [folded_digInForce])
    have hbrake (strength : Nat) (output : Int) : restBrake strength 0 output = if output = 0 then strength else 0 := by
      simp only [restBrake, true_and]
    rw [folded_chan] at hmove
    simp only [hbrake] at hmove
    exact hexec hmove
  · have hmove := driveMove_failsafe_locked hfolded hc (by rwa [folded_digInForce])
    rw [folded_chan] at hmove
    exact hexec hmove

end Sys2Proof.Machine

namespace Sys2Proof.Machine

section Trips

variable {s : State} {ch : DriveCh} {current : Nat} {c : DriveChan} {l : Lif} {clock : Clock}

/-! ### Trips -/

theorem pushTrip_short {h : List Clock} (hlen : h.length < 2) (t : Clock) :
    pushTrip h t = h ++ [t] ∧ tripsClose (pushTrip h t) = false := by
  have hpush : pushTrip h t = h ++ [t] := if_neg (by omega)
  refine ⟨hpush, ?_⟩
  have hthree : ¬(h ++ [t]).length = 3 := by simp; omega
  rw [hpush, tripsClose, decide_eq_false hthree, Bool.false_and]

theorem pushTrip_full {h : List Clock} {t1 t2 : Clock} (hh : h = [t1, t2] ∨ ∃ t0, h = [t0, t1, t2]) (t : Clock) :
    pushTrip h t = [t1, t2, t] ∧ (tripsClose (pushTrip h t) = true ↔ (t - t1).toNat ≤ 5000) := by
  have hpush : pushTrip h t = [t1, t2, t] := by
    rcases hh with rfl | ⟨t0, rfl⟩ <;> rfl
  refine ⟨hpush, ?_⟩
  rw [hpush]
  exact decide_eq_true_iff

theorem trippedChan_tripped (h : tripsClose (pushTrip c.history clock) = false) :
    trippedChan clock c =
      { c with
        target := 0, output := 0, brake := 0, history := pushTrip c.history clock, tripCount := min (c.tripCount + 1) 255
        fault := .tripped, retry := some (clock + 500) } := by
  simp only [trippedChan, h, countUp]
  rfl

theorem trippedChan_latched (h : tripsClose (pushTrip c.history clock) = true) :
    trippedChan clock c =
      { c with
        target := 0, output := 0, brake := 0, history := pushTrip c.history clock, tripCount := min (c.tripCount + 1) 255
        fault := .latched, retry := none } := by
  simp only [trippedChan, h, countUp]
  rfl

theorem trippedChan_fault (clock : Clock) (c : DriveChan) : (trippedChan clock c).fault ≠ .normal := by
  unfold trippedChan
  dsimp only
  split <;> exact FaultState.noConfusion

/-- The update of a channel that its fault step leaves faulted: it coasts. -/
theorem driveUpdate_faulted (hcurve : (s.smx.load .throttle).state ≠ .pending)
    (hfault : faultStep ch (min current 65000) (digIntoForce s) = { s with drc := (digTaken s.drc).setChan ch c, lif := l })
    (hne : c.fault ≠ .normal) :
    driveUpdate ch current s =
      { s with
        drc := (digTaken s.drc).setChan ch { c with
          target := 0, output := 0, brake := 0, assist := false, lastTarget := 0, lastOutput := 0
          cap := foldCap c.cap (min current 65000) (driveGrant ch s) }
        lif := l } := by
  have hmove := driveMove_faulted (ch := ch) (u := folded ch (min current 65000) c l s) (by rwa [folded_chan])
  rw [folded_chan] at hmove
  exact driveUpdate_outcome hcurve hfault hmove

/-- The update of a NORMAL channel that trips. -/
theorem driveUpdate_trips (hcurve : (s.smx.load .throttle).state ≠ .pending) (hnormal : (s.drc.chan ch).fault = .normal)
    (htrip : s.cfg.drc.tripLevel < min current 65000) :
    driveUpdate ch current s =
      { s with
        drc := (digTaken s.drc).setChan ch { trippedChan s.drc.clock (s.drc.chan ch) with
          target := 0, output := 0, brake := 0, assist := false, lastTarget := 0, lastOutput := 0
          cap := foldCap (s.drc.chan ch).cap (min current 65000) (driveGrant ch s) }
        lif := if tripsClose (pushTrip (s.drc.chan ch).history s.drc.clock) then
            posted (driveFaultReport ch (pushTrip (s.drc.chan ch).history s.drc.clock) (min current 65000)) s.lif
          else s.lif } :=
  driveUpdate_faulted hcurve (faultStep_trips hnormal htrip) (trippedChan_fault _ _)

theorem exec_driveRetry_not (h : retryDue s.drc.clock (s.drc.chan ch) = false) : exec (.driveRetry ch current) s = .next s :=
  congrArg Host.Outcome.next (whenDue_not h)

theorem retryDue_not
    (h : c.fault = .latched ∨ (c.fault = .tripped ∧ ∀ t, c.retry = some t → 2147483648 ≤ (clock - t).toNat)) :
    retryDue clock c = false := by
  rcases h with h | ⟨-, hretry⟩
  · simp [retryDue, h]
  · cases ht : c.retry with
    | none => simp [retryDue, ht]
    | some t =>
      have hnot : clockReached clock t = false := decide_eq_false (not_lt.2 (hretry t ht))
      simp only [retryDue, ht, hnot, Bool.and_false]

/-! ### The retry -/

/-- The part with a channel's fault cleared and its history kept. -/
def clearedFault (ch : DriveCh) (s : State) : State :=
  { s with drc := s.drc.setChan ch { s.drc.chan ch with fault := .normal, retry := none } }

/-- The fault step clears a fault whose retry is due. -/
theorem faultStep_clearedFault (hdue : retryDue s.drc.clock (s.drc.chan ch) = true) (current : Nat) :
    faultStep ch current (clearedFault ch s) = faultStep ch current s := by
  have hclock : (clearedFault ch s).drc.clock = s.drc.clock := (driveSetChan_keeps _ _ _).2.2
  have hchan : (clearedFault ch s).drc.chan ch = { s.drc.chan ch with fault := .normal, retry := none } := setChan_chan_same ..
  have hretried : retriedChan s.drc.clock (s.drc.chan ch) = { s.drc.chan ch with fault := .normal, retry := none } := if_pos hdue
  have hset (c : DriveChan) : setDrive ch c (clearedFault ch s) = setDrive ch c s := by cases ch <;> rfl
  simp only [faultStep, hclock, hchan, hretried, hset, retriedChan_normal]
  rfl

theorem driveUpdate_clearedFault (hdue : retryDue s.drc.clock (s.drc.chan ch) = true) (current : Nat) :
    driveUpdate ch current (clearedFault ch s) = driveUpdate ch current s := by
  have hready : digIntoForce (curveChangeover .throttle (clearedFault ch s)) =
      clearedFault ch (digIntoForce (curveChangeover .throttle s)) := by
    by_cases hpending : (s.smx.load .throttle).state = .pending
    · rw [curveChangeover_pending (s := s) hpending, curveChangeover_pending (by exact hpending)]
      cases ch <;> rfl
    · rw [curveChangeover_other (s := s) hpending, curveChangeover_other (by exact hpending)]
      cases ch <;> rfl
  have hdrc : (curveChangeover .throttle s).drc = s.drc := by simp
  have hdue' : retryDue (digIntoForce (curveChangeover .throttle s)).drc.clock
      ((digIntoForce (curveChangeover .throttle s)).drc.chan ch) = true := by
    rw [digIntoForce, hdrc]
    cases ch <;> exact hdue
  simp only [driveUpdate, hready, faultStep_clearedFault hdue']

@[simp] theorem driveMove_keeps (ch : DriveCh) (u : State) :
    (driveMove ch u).cap = (u.drc.chan ch).cap ∧ (driveMove ch u).fault = (u.drc.chan ch).fault ∧
      (driveMove ch u).history = (u.drc.chan ch).history ∧ (driveMove ch u).retry = (u.drc.chan ch).retry ∧
      (driveMove ch u).tripCount = (u.drc.chan ch).tripCount := by
  unfold driveMove driveToward
  dsimp only
  repeat' split
  all_goals exact ⟨rfl, rfl, rfl, rfl, rfl⟩

/-- From rest the slew reaches the target within its rate. -/
theorem slewOutput_from_rest (up down : Nat) (t : Int) : slewOutput up down 0 t = max (-(up : Int)) (min up t) := by
  simp only [slewOutput, if_true]
  split <;> omega

/-- A NORMAL channel at rest that no dig mode locks, in RUN: the output rises from 0 toward the target. -/
theorem driveMove_run_from_rest {u : State} (h : (u.drc.chan ch).fault = .normal) (hc : u.csc.chassis = .run)
    (hdig : digLocks u.drc.digInForce ch = false) (hrest : (u.drc.chan ch).output = 0) :
    (driveMove ch u).output = max (-((u.drc.chan ch).cap : Int)) (min (u.drc.chan ch).cap
      (max (-(u.cfg.drc.aUp : Int)) (min u.cfg.drc.aUp (driveMove ch u).target))) ∧
    (driveMove ch u).brake = if (driveMove ch u).target = 0 then u.cfg.drc.drag else 0 := by
  rw [driveMove_run h hc hdig]
  simp only [hrest, slewOutput_from_rest, capOutput, clampInt, restBrake, true_and]
  by_cases htarget : easeTarget u.spg.shift (runTarget ch u) = 0
  · rw [if_pos htarget, if_pos ⟨htarget, by omega⟩]
  · rw [if_neg htarget, if_neg fun hboth => htarget hboth.1]

/-- The same in FAILSAFE: it stays at rest, under the failsafe brake. -/
theorem driveMove_failsafe_from_rest {u : State} (h : (u.drc.chan ch).fault = .normal) (hc : u.csc.chassis = .failsafe)
    (hdig : digLocks u.drc.digInForce ch = false) (hrest : (u.drc.chan ch).output = 0) :
    (driveMove ch u).target = 0 ∧ (driveMove ch u).output = 0 ∧
      (driveMove ch u).brake = if u.cfg.drc.failsafeBrake then 1000 else 0 := by
  have hzero : capOutput (u.drc.chan ch).cap (slewOutput u.cfg.drc.aUp u.cfg.drc.aDown 0 0) = 0 := by
    rw [slewOutput_from_rest, capOutput, clampInt]
    omega
  rw [driveMove_failsafe h hc hdig]
  simp only [hrest, hzero, restBrake, failsafeStrength, and_self, if_true]

/-- The changeover of the throttle table keeps the rest of the drive's parameters. -/
theorem curveChangeover_drcCfg (s : State) :
    ∃ t, (curveChangeover .throttle s).cfg.drc = { s.cfg.drc with throttleTable := t } := by
  unfold curveChangeover
  split
  · exact ⟨_, rfl⟩
  · exact ⟨_, rfl⟩

theorem curveChangeover_not_pending_after (id : CurveId) (s : State) :
    ((curveChangeover id s).smx.load id).state ≠ .pending := by
  by_cases h : (s.smx.load id).state = .pending
  · rw [curveChangeover_pending h, withSmx_smx, load_setLoad]
    exact LoadState.noConfusion
  · rwa [curveChangeover_other h]

end Trips

end Sys2Proof.Machine

namespace Sys2Proof.Machine

section Retry

variable {s : State} {ch : DriveCh} {current : Nat}

/-- The update of a NORMAL channel that does not trip leaves its move. -/
theorem driveUpdate_moves (hcurve : (s.smx.load .throttle).state ≠ .pending) (hnormal : (s.drc.chan ch).fault = .normal)
    (htrip : min current 65000 ≤ s.cfg.drc.tripLevel) :
    driveUpdate ch current s =
      { s with
        drc := (digTaken s.drc).setChan ch
          (driveMove ch (folded ch (min current 65000) (s.drc.chan ch) s.lif s)).leaveUpdate } :=
  driveUpdate_outcome hcurve (faultStep_normal hnormal htrip) rfl

/-- What the update of a NORMAL channel that does not trip leaves, by chassis state and dig lock. -/
theorem driveUpdate_moves_chan (hcurve : (s.smx.load .throttle).state ≠ .pending) (hnormal : (s.drc.chan ch).fault = .normal)
    (htrip : min current 65000 ≤ s.cfg.drc.tripLevel) :
    let cap := foldCap (s.drc.chan ch).cap (min current 65000) (driveGrant ch s)
    let locked := digLocks s.drc.digRequested ch
    let d := (driveUpdate ch current s).drc.chan ch
    d.cap = cap ∧ d.lastTarget = d.target ∧ d.lastOutput = d.output ∧ d.fault = .normal ∧ d.retry = (s.drc.chan ch).retry ∧
      d.history = (s.drc.chan ch).history ∧ d.tripCount = (s.drc.chan ch).tripCount ∧
      (s.csc.chassis = .standby ∨ s.csc.chassis = .cutoff → d.target = 0 ∧ d.output = 0 ∧ d.brake = 0) ∧
      (s.csc.chassis = .hold → d.target = 0 ∧ d.output = 0 ∧ d.brake = 1000) ∧
      (s.csc.chassis = .run ∨ s.csc.chassis = .failsafe → locked = true → d.target = 0 ∧ d.output = 0 ∧ d.brake = 1000) ∧
      (s.csc.chassis = .run → locked = false → (s.drc.chan ch).output = 0 →
        d.output = max (-(cap : Int)) (min cap (max (-(s.cfg.drc.aUp : Int)) (min s.cfg.drc.aUp d.target))) ∧
        d.brake = if d.target = 0 then s.cfg.drc.drag else 0) ∧
      (s.csc.chassis = .failsafe → locked = false → (s.drc.chan ch).output = 0 →
        d.target = 0 ∧ d.output = 0 ∧ d.brake = if s.cfg.drc.failsafeBrake then 1000 else 0) := by
  intro cap locked d
  have hfolded : (folded ch (min current 65000) (s.drc.chan ch) s.lif s).drc.chan ch = { s.drc.chan ch with cap := cap } := folded_chan ..
  have hfault : ((folded ch (min current 65000) (s.drc.chan ch) s.lif s).drc.chan ch).fault = .normal := by rw [hfolded, hnormal]
  have hdig : digLocks (folded ch (min current 65000) (s.drc.chan ch) s.lif s).drc.digInForce ch = locked := by rw [folded_digInForce]
  obtain ⟨hcap, hnormal', hhistory, hretry, hcount⟩ := driveMove_keeps ch (folded ch (min current 65000) (s.drc.chan ch) s.lif s)
  have hd : d = (driveMove ch (folded ch (min current 65000) (s.drc.chan ch) s.lif s)).leaveUpdate := by
    have hupdate := congrArg (fun t : State => t.drc.chan ch) (driveUpdate_moves (current := current) hcurve hnormal htrip)
    exact hupdate.trans (setChan_chan_same ..)
  rw [hd]
  refine ⟨by rw [DriveChan.leaveUpdate, hcap, hfolded], rfl, rfl, hnormal'.trans hfault, hretry.trans (by rw [hfolded]),
    hhistory.trans (by rw [hfolded]), hcount.trans (by rw [hfolded]), fun hc => ?_, fun hc => ?_, fun hc hlock => ?_,
    fun hc hlock hrest => ?_, fun hc hlock hrest => ?_⟩
  · rw [driveMove_coasts hfault hc]
    exact ⟨rfl, rfl, rfl⟩
  · rw [driveMove_hold hfault hc]
    exact ⟨rfl, rfl, rfl⟩
  · rcases hc with hc | hc
    · rw [driveMove_run_locked hfault hc (hdig.trans hlock)]
      exact ⟨rfl, rfl, rfl⟩
    · rw [driveMove_failsafe_locked hfault hc (hdig.trans hlock)]
      exact ⟨rfl, rfl, rfl⟩
  · have hrise := driveMove_run_from_rest hfault hc (hdig.trans hlock) (by rw [hfolded, hrest])
    rw [hfolded] at hrise
    exact hrise
  · exact driveMove_failsafe_from_rest hfault hc (hdig.trans hlock) (by rw [hfolded, hrest])

theorem retryDue_of {t : Clock} (hfault : (s.drc.chan ch).fault = .tripped) (hretry : (s.drc.chan ch).retry = some t)
    (hcome : (s.drc.clock - t).toNat < 2147483648) : retryDue s.drc.clock (s.drc.chan ch) = true := by
  have hreached : clockReached s.drc.clock t = true := decide_eq_true hcome
  simp only [retryDue, hfault, hretry, hreached, decide_true, Bool.and_self]

theorem exec_driveRetry (hpower : s.power = .running) (hdue : retryDue s.drc.clock (s.drc.chan ch) = true) :
    exec (.driveRetry ch current) s = .next (driveUpdate ch current s) := congrArg Host.Outcome.next (whenDue_due hpower hdue)

/-- The part at a retry, its throttle table in force and the fault cleared, which the update takes for the part itself. -/
theorem driveUpdate_at_retry (hdue : retryDue s.drc.clock (s.drc.chan ch) = true) :
    driveUpdate ch current (clearedFault ch (curveChangeover .throttle s)) = driveUpdate ch current s := by
  have hdue' : retryDue (curveChangeover .throttle s).drc.clock ((curveChangeover .throttle s).drc.chan ch) = true := by
    simpa using hdue
  rw [driveUpdate_clearedFault hdue', driveUpdate_curveChangeover]

/-- What the update reads there is what the part holds. -/
theorem clearedFault_curveChangeover (ch : DriveCh) (s : State) :
    let y := clearedFault ch (curveChangeover .throttle s)
    y.drc = s.drc.setChan ch { s.drc.chan ch with fault := .normal, retry := none } ∧ y.csc = s.csc ∧ y.lif = s.lif ∧
      driveGrant ch y = driveGrant ch s ∧ ∃ t, y.cfg.drc = { s.cfg.drc with throttleTable := t } := by
  intro y
  have hdrc : (curveChangeover .throttle s).drc = s.drc := by simp
  have hcsc : (curveChangeover .throttle s).csc = s.csc := by simp
  have hlif : (curveChangeover .throttle s).lif = s.lif := by simp
  have hpba : (curveChangeover .throttle s).pba = s.pba := by simp
  refine ⟨?_, hcsc, hlif, ?_, curveChangeover_drcCfg s⟩
  · exact congrArg (fun d : Drc => d.setChan ch { d.chan ch with fault := .normal, retry := none }) hdrc
  · cases ch with
    | df => exact congrArg (fun p : Pba => p.pub.grant.driveF) hpba
    | dr => exact congrArg (fun p : Pba => p.pub.grant.driveR) hpba

/-- The fault step writes the channel and LIF. -/
theorem faultStep_writes (ch : DriveCh) (current : Nat) (s : State) :
    ∃ c l, faultStep ch current (digIntoForce s) = { s with drc := (digTaken s.drc).setChan ch c, lif := l } := by
  unfold faultStep
  dsimp only
  split
  · split
    · exact ⟨_, _, postReport_eq _ _⟩
    · exact ⟨_, s.lif, rfl⟩
  · exact ⟨_, s.lif, rfl⟩

/-- An update writes the channel and LIF, and takes the dig mode. -/
theorem driveUpdate_writes (hcurve : (s.smx.load .throttle).state ≠ .pending) (ch : DriveCh) (current : Nat) :
    driveUpdate ch current s =
      { s with
        drc := (digTaken s.drc).setChan ch ((driveUpdate ch current s).drc.chan ch)
        lif := (driveUpdate ch current s).lif } := by
  obtain ⟨c, l, hfault⟩ := faultStep_writes ch (min current 65000) s
  rw [driveUpdate_outcome hcurve hfault rfl, setChan_chan_same]

end Retry

/-- Settles O34: a trip with its history, a fault that waits, and the retry, which is the update of the channel with its fault cleared. -/
theorem overcurrentTripsAndLatches : Obligations.OvercurrentTripsAndLatches := by
  refine ⟨fun ch current s hpower hcurve => ⟨fun hnormal htrip hshort => ?trips, fun t1 t2 hhistory hnormal htrip => ?full,
    fun hfault => ?waits⟩, fun ch current t s hpower hfault hretry hcome => ?retry⟩
  case trips =>
    obtain ⟨hpush, hclose⟩ := pushTrip_short hshort s.drc.clock
    rw [exec_driveUpdate ch current hpower, driveUpdate_trips hcurve hnormal htrip, trippedChan_tripped hclose, hclose, hpush]
    rfl
  case full =>
    obtain ⟨hpush, hclose⟩ := pushTrip_full hhistory s.drc.clock
    refine ⟨fun hfar => ?_, fun hnear => ?_⟩
    · have hnot : tripsClose (pushTrip (s.drc.chan ch).history s.drc.clock) = false :=
        Bool.eq_false_iff.2 fun h => absurd (hclose.1 h) (not_le.2 hfar)
      rw [exec_driveUpdate ch current hpower, driveUpdate_trips hcurve hnormal htrip, trippedChan_tripped hnot, hnot, hpush]
      rfl
    · have hlatches := hclose.2 hnear
      rw [exec_driveUpdate ch current hpower, driveUpdate_trips hcurve hnormal htrip, trippedChan_latched hlatches, hlatches, hpush]
      rfl
  case waits =>
    have hdue := retryDue_not hfault
    have hne : (s.drc.chan ch).fault ≠ .normal := by
      rcases hfault with h | ⟨h, -⟩ <;> rw [h] <;> exact FaultState.noConfusion
    refine ⟨?_, exec_driveRetry_not hdue⟩
    rw [exec_driveUpdate ch current hpower, driveUpdate_faulted hcurve (faultStep_waits hne hdue) hne]
    rfl
  case retry =>
    have hdue := retryDue_of hfault hretry hcome
    have hcleared := driveUpdate_clearedFault hdue current
    have hexec : exec (.driveUpdate ch current) (clearedFault ch s) = .next (driveUpdate ch current s) :=
      (exec_driveUpdate ch current (by exact hpower)).trans (congrArg Host.Outcome.next hcleared)
    refine ⟨(exec_driveRetry hpower hdue).trans hexec.symm, (exec_driveUpdate ch current hpower).trans hexec.symm, _,
      exec_driveRetry hpower hdue, ?_⟩
    have hready : ((clearedFault ch (curveChangeover .throttle s)).smx.load .throttle).state ≠ .pending :=
      curveChangeover_not_pending_after .throttle s
    obtain ⟨hdrc, hcsc, hlif, hgrant, table, hcfg⟩ := clearedFault_curveChangeover ch s
    have hchan : (clearedFault ch (curveChangeover .throttle s)).drc.chan ch = { s.drc.chan ch with fault := .normal, retry := none } := by
      rw [hdrc, setChan_chan_same]
    have hnormal : ((clearedFault ch (curveChangeover .throttle s)).drc.chan ch).fault = .normal := by rw [hchan]
    obtain ⟨-, hdig, hclock⟩ := driveSetChan_keeps s.drc ch { s.drc.chan ch with fault := .normal, retry := none }
    have htrip : (clearedFault ch (curveChangeover .throttle s)).cfg.drc.tripLevel = s.cfg.drc.tripLevel := by rw [hcfg]
    have hat : driveUpdate ch current (clearedFault ch (curveChangeover .throttle s)) = driveUpdate ch current s := driveUpdate_at_retry hdue
    rcases le_or_gt (min current 65000) s.cfg.drc.tripLevel with hle | hlt
    · have hmoves := driveUpdate_moves_chan (current := current) hready hnormal (by rwa [htrip])
      rw [hat, hchan, hdrc, hdig, hcsc, hgrant, hcfg] at hmoves
      obtain ⟨hcap, hlast, hlastOut, hfault', hretry', hhistory, hcount, hclauses⟩ := hmoves
      have hlif' : (driveUpdate ch current s).lif = s.lif := by
        rw [← hat, driveUpdate_moves hready hnormal (by rwa [htrip])]
        exact hlif
      exact ⟨hcap, hlast, hlastOut, fun _ => ⟨hfault', hretry', hhistory, hcount, hclauses⟩, fun h => absurd h (not_lt.2 hle),
        fun hplain => driveUpdate_writes hplain ch current, fun _ => hlif'⟩
    · have htrips := driveUpdate_trips (current := current) hready hnormal (by rwa [htrip])
      rw [hat, hchan, hdrc, hclock, hgrant, hlif] at htrips
      have hd := (congrArg (fun t : State => t.drc.chan ch) htrips).trans (setChan_chan_same ..)
      refine ⟨congrArg DriveChan.cap hd, (congrArg DriveChan.lastTarget hd).trans (congrArg DriveChan.target hd).symm,
        (congrArg DriveChan.lastOutput hd).trans (congrArg DriveChan.output hd).symm, fun h => absurd h (not_le.2 hlt),
        fun _ => ⟨(congrArg DriveChan.fault hd).symm ▸ trippedChan_fault _ _, congrArg DriveChan.target hd,
          congrArg DriveChan.output hd, congrArg DriveChan.brake hd, fun hshort => ?_⟩,
        fun hplain => driveUpdate_writes hplain ch current, fun h => absurd h (not_le.2 hlt)⟩
      obtain ⟨hpush, hclose⟩ := pushTrip_short hshort s.drc.clock
      have hchan' := trippedChan_tripped (c := { s.drc.chan ch with fault := .normal, retry := none }) hclose
      rw [hchan', hpush] at hd
      refine ⟨congrArg DriveChan.fault hd, congrArg DriveChan.history hd, congrArg DriveChan.retry hd, ?_⟩
      rw [htrips, hclose]
      rfl

/-! ## DIG and FAULT_CLEAR -/

section Requests

variable {s : State} {b : Byte} {ch : DriveCh}

theorem digModeOf_none {n : Nat} (h : 3 ≤ n) : digModeOf n = none := by
  match n, h with
  | _ + 3, _ => rfl

theorem digModeOf_code (m : DigMode) : digModeOf m.code = some m := by cases m <;> rfl

theorem driveChOf_none {n : Nat} (h : 2 ≤ n) : driveChOf n = none := by
  match n, h with
  | _ + 2, _ => rfl

theorem driveChOf_code (ch : DriveCh) : driveChOf (driveCode ch) = some ch := by cases ch <;> rfl

theorem digOwner_refuses (h : 3 ≤ b.toNat) : digOwner [b] s = (s, digReply .badValue s) := by
  have hmode : digModeOf (u8At [b] 0) = none := digModeOf_none h
  simp only [digOwner, hmode]

theorem digOwner_takes {m : DigMode} (h : m.code = b.toNat) :
    digOwner [b] s = (s.withDrc { s.drc with digRequested := m }, [rc .ok, .u8 b.toNat]) := by
  have hmode : digModeOf (u8At [b] 0) = some m := (congrArg digModeOf h.symm).trans (digModeOf_code m)
  simp only [digOwner, hmode, ← h]
  rfl

theorem faultClearOwner_refuses (h : 2 ≤ b.toNat) : faultClearOwner [b] s = (s, [rc .badValue]) := by
  have hch : driveChOf (u8At [b] 0) = none := driveChOf_none h
  simp only [faultClearOwner, hch]

theorem faultClearOwner_frees (h : driveCode ch = b.toNat) (hlatched : (s.drc.chan ch).fault = .latched) :
    faultClearOwner [b] s =
      (setDrive ch { s.drc.chan ch with fault := .normal, history := [] } s, [rc .ok, .u8 b.toNat, .u8 0]) := by
  have hch : driveChOf (u8At [b] 0) = some ch := (congrArg driveChOf h.symm).trans (driveChOf_code ch)
  simp only [faultClearOwner, hch, if_pos hlatched, h, setDrive, withDrc_drc, setChan_chan_same]
  rfl

theorem faultClearOwner_answers (h : driveCode ch = b.toNat) (hlatched : (s.drc.chan ch).fault ≠ .latched) :
    faultClearOwner [b] s = (s, [rc .ok, .u8 b.toNat, .u8 (s.drc.chan ch).fault.code]) := by
  have hch : driveChOf (u8At [b] 0) = some ch := (congrArg driveChOf h.symm).trans (driveChOf_code ch)
  simp only [faultClearOwner, hch, if_neg hlatched, h]

end Requests

/-- Settles O35. -/
theorem digAndFaultClear : Obligations.DigAndFaultClear := by
  refine ⟨fun b s htakes => ?dig, fun b s htakes => ?faultClear⟩
  case dig =>
    have hexec {t u : State} {fields : List Field} (howner : digOwner [b] (popIntake s) = (t, fields))
        (hu : putReply { type := 0x18 + 0x80#8, fields := fields } t = u) : exec (.dig [b]) s = .next u :=
      exec_of_owner (i := .dig [b]) rfl htakes rfl howner hu
    exact ⟨fun h => hexec (digOwner_refuses h) rfl, fun m h => hexec (digOwner_takes h) rfl⟩
  case faultClear =>
    have hexec {t u : State} {fields : List Field} (howner : faultClearOwner [b] (popIntake s) = (t, fields))
        (hu : putReply { type := 0x19 + 0x80#8, fields := fields } t = u) : exec (.faultClear [b]) s = .next u :=
      exec_of_owner (i := .faultClear [b]) rfl htakes rfl howner hu
    exact ⟨fun h => hexec (faultClearOwner_refuses h) rfl, fun ch h =>
      ⟨fun hlatched => hexec (faultClearOwner_frees (s := popIntake s) h hlatched) rfl,
        fun hlatched => hexec (faultClearOwner_answers (s := popIntake s) h hlatched) rfl⟩⟩

end Sys2Proof.Machine

namespace Sys2Proof.Machine

/-! ## Dither -/

section Dither

/-- The sixteen thresholds are the numbers below 16 in another order: of them, `r` lie below `r`. -/
theorem frameThreshold_count (r : Fin 16) :
    ((List.range 16).map fun slot => if frameThreshold slot < r.val then 1 else 0).sum = r.val := by
  revert r
  decide

theorem ditherLevel_frame (b slot residual : Nat) :
    (ditherLevel .frame b slot residual).1 = b / 16 + if frameThreshold slot < b % 16 then 1 else 0 := by
  have hfraction : b - 16 * (b / 16) = b % 16 := by omega
  simp only [ditherLevel, hfraction]
  split <;> rfl

/-- Over the sixteen slots the levels of a brightness add up to it. -/
theorem ditherLevel_frame_sum (b residual : Nat) :
    ((List.range 16).map fun slot => (ditherLevel .frame b slot residual).1).sum = b := by
  have hcount := frameThreshold_count ⟨b % 16, Nat.mod_lt _ (by decide)⟩
  simp only [ditherLevel_frame, List.sum_map_add, hcount]
  simp
  omega

end Dither

/-- Settles O47. -/
theorem ditherKeepsTheBrightness : Obligations.DitherKeepsTheBrightness := by
  refine ⟨fun b e c => ?frame, fun b e _ => ditherLevel_frame_sum b e, fun b slot e hb he => ?diffuse,
    fun b slot e _ => ?truncate, fun d b slot e hb he => ?bounded⟩
  case frame =>
    have hfraction : b - 16 * (b / 16) = b % 16 := by omega
    simp only [ditherLevel, hfraction]
    rfl
  case diffuse =>
    simp only [ditherLevel]
    omega
  case truncate =>
    simp only [ditherLevel, and_true]
    omega
  case bounded =>
    cases d with
    | truncate => simp only [ditherLevel]; omega
    | frame => rw [ditherLevel_frame]; split <;> omega
    | diffuse => simp only [ditherLevel]; omega

/-! ## The pattern requests -/

section Patterns

variable {s : State} {b : Byte} {c : LcuCfg} {q : Fin 16} {p : Payload}

theorem isDefined_false_iff {e : PatternEntry} : e.isDefined = false ↔ e.steps = [] := by
  simp [PatternEntry.isDefined]

/-- The lowest EMPTY entry. -/
theorem firstEmpty_of (hempty : c.table[q].steps = []) (hlower : ∀ r : Fin 16, r < q → c.table[r].steps ≠ []) :
    firstEmpty c = some q := by
  have hsorted : (List.finRange 16).Pairwise (· < ·) := List.pairwise_lt_finRange 16
  rw [firstEmpty, List.find?_eq_some_iff_append]
  obtain ⟨before, after, hsplit⟩ := List.append_of_mem (List.mem_finRange q)
  refine ⟨by rw [isDefined_false_iff.2 hempty]; rfl, before, after, hsplit, fun r hr => ?_⟩
  rw [hsplit, List.pairwise_append] at hsorted
  obtain ⟨-, -, hbefore⟩ := hsorted
  have hlt : r < q := hbefore r hr q List.mem_cons_self
  rw [(isDefined_iff _).2 (hlower r hlt)]
  rfl

theorem firstEmpty_none (h : ∀ r : Fin 16, c.table[r].steps ≠ []) : firstEmpty c = none := by
  rw [firstEmpty, List.find?_eq_none]
  intro r _
  rw [(isDefined_iff _).2 (h r)]
  exact Bool.false_ne_true

/-- The steps that are not initialised keep their records. -/
theorem initSteps_other (n j : Nat) (l : List (Fin 64)) (pool : Vector StepRecord 64) {i : Fin 64} (h : i ∉ l) :
    (initSteps n j l pool)[i] = pool[i] := by
  induction l generalizing j pool with
  | nil => rfl
  | cons k rest ih =>
    obtain ⟨hne, hrest⟩ := List.ne_and_not_mem_of_not_mem_cons h
    rw [initSteps, ih _ _ hrest]
    exact Vector.getElem_set_ne _ _ (fun hval => hne (Fin.ext hval.symm))

/-- The step at a position of a list without repeats gets the record of its position. -/
theorem initSteps_at (n j : Nat) (l : List (Fin 64)) (pool : Vector StepRecord 64) (hnodup : l.Nodup) {m : Nat} {i : Fin 64}
    (h : l[m]? = some i) : (initSteps n j l pool)[i] = allocStep n (j + m) := by
  induction l generalizing j pool m with
  | nil => simp at h
  | cons k rest ih =>
    obtain ⟨hnot, hnodup'⟩ := List.nodup_cons.1 hnodup
    cases m with
    | zero =>
      obtain rfl : k = i := by simpa using h
      rw [initSteps, initSteps_other _ _ _ _ hnot]
      exact Vector.getElem_set_self _
    | succ m =>
      rw [initSteps, ih _ _ hnodup' (by simpa using h)]
      congr 1
      omega

theorem patternAllocOwner_busy (h : s.pst.writing ≠ none) : patternAllocOwner [b] s = (s, rc .busy :: allocCounts s.cfg.lcu) := by
  simp only [patternAllocOwner, storeRunning_of_writing h, if_true]

theorem patternAllocOwner_badValue (hidle : s.pst.writing = none) (h : b.toNat = 0 ∨ 17 ≤ b.toNat) :
    patternAllocOwner [b] s = (s, rc .badValue :: allocCounts s.cfg.lcu) := by
  have hcount : u8At [b] 0 < 1 ∨ 16 < u8At [b] 0 := by
    change b.toNat < 1 ∨ 16 < b.toNat
    omega
  simp only [patternAllocOwner, storeRunning_of_idle hidle, if_pos hcount, Bool.false_eq_true, if_false]

theorem patternAllocOwner_fits (hidle : s.pst.writing = none) (h1 : 1 ≤ b.toNat) (h16 : b.toNat ≤ 16) :
    patternAllocOwner [b] s =
      match firstEmpty s.cfg.lcu with
      | none => (s, rc .noSpace :: allocCounts s.cfg.lcu)
      | some q =>
        if s.cfg.lcu.free.length < b.toNat then (s, rc .noSpace :: allocCounts s.cfg.lcu)
        else (setLcuCfg (allocPattern q b.toNat s.cfg.lcu) s,
          rc .ok :: allocCounts (allocPattern q b.toNat s.cfg.lcu) ++ [.u8 q.val, .u8 b.toNat] ++
            indexFields (s.cfg.lcu.free.take b.toNat)) := by
  have hcount : ¬(u8At [b] 0 < 1 ∨ 16 < u8At [b] 0) := by
    change ¬(b.toNat < 1 ∨ 16 < b.toNat)
    omega
  rw [patternAllocOwner, storeRunning_of_idle hidle]
  exact if_neg hcount

theorem patternAllocOwner_noSpace (hidle : s.pst.writing = none) (h1 : 1 ≤ b.toNat) (h16 : b.toNat ≤ 16)
    (h : s.cfg.lcu.free.length < b.toNat ∨ ∀ q : Fin 16, s.cfg.lcu.table[q].steps ≠ []) :
    patternAllocOwner [b] s = (s, rc .noSpace :: allocCounts s.cfg.lcu) := by
  rw [patternAllocOwner_fits hidle h1 h16]
  rcases h with hfree | hfull
  · cases firstEmpty s.cfg.lcu with
    | none => rfl
    | some q => exact if_pos hfree
  · rw [firstEmpty_none hfull]

theorem patternAllocOwner_allocates (hidle : s.pst.writing = none) (h1 : 1 ≤ b.toNat) (h16 : b.toNat ≤ 16)
    (hfree : b.toNat ≤ s.cfg.lcu.free.length) (hq : firstEmpty s.cfg.lcu = some q) :
    patternAllocOwner [b] s =
      (setLcuCfg (allocPattern q b.toNat s.cfg.lcu) s,
        [.u8 0, .u8 (emptyCount (allocPattern q b.toNat s.cfg.lcu)), .u8 (s.cfg.lcu.free.length - b.toNat), .u8 q.val, .u8 b.toNat] ++
          (s.cfg.lcu.free.take b.toNat).map fun i => .u8 i.val) := by
  have hlength : (allocPattern q b.toNat s.cfg.lcu).free.length = s.cfg.lcu.free.length - b.toNat := List.length_drop
  rw [patternAllocOwner_fits hidle h1 h16, hq, ← hlength]
  exact if_neg (not_lt.2 hfree)

/-! ### PATTERN_STEP -/

theorem patternOf_val (q : Fin 16) {n : Nat} (h : q.val = n) : patternOf n = some q := by
  subst h
  exact dif_pos q.isLt

theorem patternOf_none {n : Nat} (h : 16 ≤ n) : patternOf n = none := dif_neg (not_lt.2 h)

/-- The link of a PATTERN_STEP by its kind. -/
theorem askedLink_of {n kind pos : Nat} {l : StepLink}
    (h : (kind = 0 ∧ l = .next pos ∧ pos < n) ∨ (kind = 1 ∧ l = .endHold) ∨ (kind = 2 ∧ l = .endOff)) :
    askedLink n kind pos = some l := by
  rcases h with ⟨rfl, rfl, hpos⟩ | ⟨rfl, rfl⟩ | ⟨rfl, rfl⟩
  · exact if_pos hpos
  · rfl
  · rfl

theorem askedLink_none {n kind pos : Nat} (h : 3 ≤ kind ∨ (kind = 0 ∧ n ≤ pos)) : askedLink n kind pos = none := by
  rcases h with hkind | ⟨rfl, hpos⟩
  · match kind, hkind with
    | _ + 3, _ => rfl
  · exact if_neg (not_lt.2 hpos)

theorem stepClamped_code (p : Payload) :
    rc (if stepClamped p then .clamped else .ok) =
      .u8 (if u16At p 2 ≤ 1024 ∧ u16At p 4 ≤ 60000 ∧ u16At p 6 ≤ 60000 then 0 else 1) := by
  have hclamped : stepClamped p = true ↔ ¬(u16At p 2 ≤ 1024 ∧ u16At p 4 ≤ 60000 ∧ u16At p 6 ≤ 60000) := by
    simp only [stepClamped, Bool.or_eq_true, decide_eq_true_iff]
    omega
  by_cases h : stepClamped p = true
  · rw [if_pos h, if_neg (hclamped.1 h)]
    rfl
  · rw [if_neg h, if_pos (not_not.1 (mt hclamped.2 h))]
    rfl

theorem patternStepOwner_writes {i : Fin 64} {l : StepLink} (hidle : s.pst.writing = none) (hplace : stepPlace s.cfg.lcu p = some (i, l)) :
    patternStepOwner p s =
      ((setLcuCfg { s.cfg.lcu with pool := s.cfg.lcu.pool.set i (askedStep p l) } s).useFree 1,
        [.u8 (if u16At p 2 ≤ 1024 ∧ u16At p 4 ≤ 60000 ∧ u16At p 6 ≤ 60000 then 0 else 1), .u8 (u8At p 0), .u8 (u8At p 1),
          .u8 i.val] ++ stepFields (askedStep p l) (s.free 0)) := by
  simp only [patternStepOwner, storeRunning_of_idle hidle, hplace, Bool.false_eq_true, if_false, stepClamped_code]

theorem patternStepOwner_refuses (h : s.pst.writing ≠ none ∨ stepPlace s.cfg.lcu p = none) :
    patternStepOwner p s = patternStepRefusal (if s.pst.writing = none then .badValue else .busy) p s := by
  by_cases hidle : s.pst.writing = none
  · have hplace := h.resolve_left fun hw => hw hidle
    simp only [patternStepOwner, storeRunning_of_idle hidle, hplace, Bool.false_eq_true, if_false, if_pos hidle]
  · simp only [patternStepOwner, storeRunning_of_writing hidle, if_true, if_neg hidle]

theorem stepPlace_some {i : Fin 64} {l : StepLink} (hq : q.val = u8At p 0) (hi : c.table[q].steps[u8At p 1]? = some i)
    (hl : askedLink c.table[q].steps.length (u8At p 8) (u8At p 9) = some l) : stepPlace c p = some (i, l) := by
  simp only [stepPlace, patternOf_val q hq, stepIndex, hi, hl, Option.bind_eq_bind, Option.bind_some]

theorem stepPlace_none
    (h : 16 ≤ u8At p 0 ∨ 3 ≤ u8At p 8 ∨ (∀ q : Fin 16, q.val = u8At p 0 → c.table[q].steps.length ≤ u8At p 1) ∨
      (u8At p 8 = 0 ∧ ∀ q : Fin 16, q.val = u8At p 0 → c.table[q].steps.length ≤ u8At p 9)) : stepPlace c p = none := by
  by_cases hq : 16 ≤ u8At p 0
  · simp only [stepPlace, patternOf_none hq, Option.bind_eq_bind, Option.bind_none]
  · have hpattern := patternOf_val ⟨u8At p 0, not_le.1 hq⟩ rfl
    have hbind (hl : askedLink c.table[(⟨u8At p 0, not_le.1 hq⟩ : Fin 16)].steps.length (u8At p 8) (u8At p 9) = none) :
        stepPlace c p = none := by
      simp only [stepPlace, hpattern, hl, Option.bind_eq_bind, Option.bind_some, Option.bind_none, Option.bind_fun_none]
    rcases h with h | h | h | ⟨hkind, h⟩
    · exact absurd h hq
    · exact hbind (askedLink_none (.inl h))
    · have hindex : stepIndex c ⟨u8At p 0, not_le.1 hq⟩ (u8At p 1) = none := List.getElem?_eq_none (h _ rfl)
      simp only [stepPlace, hpattern, hindex, Option.bind_eq_bind, Option.bind_some, Option.bind_none]
    · exact hbind (askedLink_none (.inr ⟨hkind, h _ rfl⟩))

/-! ### PATTERN_FREE -/

theorem patternFreeOwner_none (h : 16 ≤ b.toNat) :
    patternFreeOwner [b] s =
      (s.useFree 1, [rc (if s.pst.writing = none then .badValue else .busy), .u8 b.toNat, .u8 (s.free 0),
        .u8 s.cfg.lcu.free.length]) := by
  have hnone : patternOf (u8At [b] 0) = none := patternOf_none h
  by_cases hidle : s.pst.writing = none
  · simp only [patternFreeOwner, hnone, storeRunning_of_idle hidle, if_pos hidle]
    rfl
  · simp only [patternFreeOwner, hnone, storeRunning_of_writing hidle, if_neg hidle]
    rfl

theorem patternFreeOwner_busy (hq : q.val = b.toNat) (h : s.pst.writing ≠ none) :
    patternFreeOwner [b] s = (s, [rc .busy, .u8 b.toNat, .u8 s.cfg.lcu.table[q].refs, .u8 s.cfg.lcu.free.length]) := by
  have hpattern : patternOf (u8At [b] 0) = some q := patternOf_val q hq
  have hcode : Field.u8 q.val = .u8 b.toNat := congrArg Field.u8 hq
  simp only [patternFreeOwner, hpattern, storeRunning_of_writing h, if_true, hcode]

theorem patternFreeOwner_empty (hq : q.val = b.toNat) (hidle : s.pst.writing = none) (h : s.cfg.lcu.table[q].steps = []) :
    patternFreeOwner [b] s = (s, [rc .badValue, .u8 b.toNat, .u8 s.cfg.lcu.table[q].refs, .u8 s.cfg.lcu.free.length]) := by
  have hpattern : patternOf (u8At [b] 0) = some q := patternOf_val q hq
  have hcode : Field.u8 q.val = .u8 b.toNat := congrArg Field.u8 hq
  simp only [patternFreeOwner, hpattern, storeRunning_of_idle hidle, isDefined_false_iff.2 h, Bool.false_eq_true, if_false,
    Bool.not_false, if_true, hcode]

theorem patternFreeOwner_inUse (hq : q.val = b.toNat) (hidle : s.pst.writing = none) (h : s.cfg.lcu.table[q].steps ≠ [])
    (hrefs : 0 < s.cfg.lcu.table[q].refs) :
    patternFreeOwner [b] s = (s, [rc .inUse, .u8 b.toNat, .u8 s.cfg.lcu.table[q].refs, .u8 s.cfg.lcu.free.length]) := by
  have hpattern : patternOf (u8At [b] 0) = some q := patternOf_val q hq
  have hcode : Field.u8 q.val = .u8 b.toNat := congrArg Field.u8 hq
  simp only [patternFreeOwner, hpattern, storeRunning_of_idle hidle, (isDefined_iff _).2 h, Bool.false_eq_true, if_false,
    Bool.not_true, if_pos hrefs, hcode]

theorem patternFreeOwner_frees (hq : q.val = b.toNat) (hidle : s.pst.writing = none) (h : s.cfg.lcu.table[q].steps ≠ [])
    (hrefs : s.cfg.lcu.table[q].refs = 0) :
    patternFreeOwner [b] s = (setLcuCfg (freePattern q s.cfg.lcu) s, [rc .ok, .u8 b.toNat, .u8 0, .u8 (s.cfg.lcu.free.length + s.cfg.lcu.table[q].steps.length)]) := by
  have hpattern : patternOf (u8At [b] 0) = some q := patternOf_val q hq
  have hcode : Field.u8 q.val = .u8 b.toNat := congrArg Field.u8 hq
  have hlength : (freePattern q s.cfg.lcu).free.length = s.cfg.lcu.free.length + s.cfg.lcu.table[q].steps.length :=
    List.length_append
  simp only [patternFreeOwner, hpattern, storeRunning_of_idle hidle, (isDefined_iff _).2 h, Bool.false_eq_true, if_false,
    Bool.not_true, hcode, hlength, hrefs, lt_self_iff_false]

end Patterns

/-- Settles O45: the three requests, each with its refusals. -/
theorem patternRequestsKeepThePool : Obligations.PatternRequestsKeepThePool := by
  refine ⟨fun b s htakes => ?alloc, fun p q i l s htakes hlen hidle hq hi hl => ?step, fun p s htakes hlen h => ?stepRefused,
    fun b q s htakes hq => ?free, fun b s htakes h => ?freeNone⟩
  case alloc =>
    have hexec {t u : State} {fields : List Field} (howner : patternAllocOwner [b] (popIntake s) = (t, fields))
        (hu : putReply { type := 0x32 + 0x80#8, fields := fields } t = u) : exec (.patternAlloc [b]) s = .next u :=
      exec_of_owner (i := .patternAlloc [b]) rfl htakes rfl howner hu
    refine ⟨fun h => hexec (patternAllocOwner_busy (s := popIntake s) h) rfl,
      fun hidle h => hexec (patternAllocOwner_badValue (s := popIntake s) hidle h) rfl,
      fun hidle h1 h16 h => hexec (patternAllocOwner_noSpace (s := popIntake s) hidle h1 h16 h) rfl,
      fun q hidle h1 h16 hfree hempty hlower hnodup => ?_⟩
    refine ⟨_, hexec (patternAllocOwner_allocates (s := popIntake s) hidle h1 h16 hfree (firstEmpty_of hempty hlower)) rfl,
      rfl, rfl, rfl, rfl, fun i hi => initSteps_other _ _ _ _ hi, fun j i hj hlt => ?_, rfl⟩
    have hat : (s.cfg.lcu.free.take b.toNat)[j]? = some i := by rw [List.getElem?_take_of_lt hlt, hj]
    have hrecord := initSteps_at b.toNat 0 _ s.cfg.lcu.pool (hnodup.sublist (List.take_sublist _ _)) hat
    rw [Nat.zero_add] at hrecord
    exact hrecord
  case step =>
    have hplace := stepPlace_some hq hi (askedLink_of (hl.imp_left fun ⟨hkind, hl, hpos⟩ => ⟨hkind, hl, hpos⟩))
    have howner := patternStepOwner_writes (s := popIntake s) (by exact hidle) (by exact hplace)
    have hexec := exec_of_owner (i := .patternStep p) rfl htakes (by rw [hlen]; rfl) howner rfl
    rcases hl with ⟨hkind, rfl, -⟩ | ⟨hkind, rfl⟩ | ⟨hkind, rfl⟩
    · refine ⟨u8At p 9, fun _ => rfl, hexec.trans ?_⟩
      rw [hkind]
      rfl
    · refine ⟨s.free 0, fun hzero => by omega, hexec.trans ?_⟩
      rw [hkind]
      rfl
    · refine ⟨s.free 0, fun hzero => by omega, hexec.trans ?_⟩
      rw [hkind]
      rfl
  case stepRefused =>
    have howner := patternStepOwner_refuses (s := popIntake s) (p := p) (h.imp_right stepPlace_none)
    refine ⟨_, exec_of_owner (i := .patternStep p) rfl htakes (by rw [hlen]; rfl) howner rfl, rfl, ?_⟩
    rw [rc_busy_or]
    exact congrArg (Option.map _) List.getLast?_concat
  case free =>
    have hexec {t u : State} {fields : List Field} (howner : patternFreeOwner [b] (popIntake s) = (t, fields))
        (hu : putReply { type := 0x34 + 0x80#8, fields := fields } t = u) : exec (.patternFree [b]) s = .next u :=
      exec_of_owner (i := .patternFree [b]) rfl htakes rfl howner hu
    exact ⟨fun h => hexec (patternFreeOwner_busy (s := popIntake s) hq h) rfl,
      fun hidle h => hexec (patternFreeOwner_empty (s := popIntake s) hq hidle h) rfl,
      fun hidle h hrefs => hexec (patternFreeOwner_inUse (s := popIntake s) hq hidle h hrefs) rfl,
      fun hidle h hrefs => hexec (patternFreeOwner_frees (s := popIntake s) hq hidle h hrefs) rfl⟩
  case freeNone =>
    refine exec_of_owner (i := .patternFree [b]) rfl htakes rfl (patternFreeOwner_none (s := popIntake s) h) ?_
    rw [rc_busy_or]
    rfl

end Sys2Proof.Machine

namespace Sys2Proof.Machine

/-! ## LIGHT_MAP and LIGHT_LEVEL -/

section Lights

variable {s : State} {k : Fin 8} {m : LightMap} {p : Payload} {c : LightChan}

@[simp] theorem lightOfState_setLight_same (k : Fin 8) (c : LightChan) (s : State) : lightOfState (setLight k c s) k = c :=
  Vector.getElem_set_self _

theorem lightOfState_setLight_other {j k : Fin 8} (c : LightChan) (s : State) (h : j ≠ k) :
    lightOfState (setLight k c s) j = lightOfState s j :=
  Vector.getElem_set_ne k.isLt j.isLt fun hval => h (Fin.ext hval.symm)

@[simp] theorem mapOf_replaceMap_same (k : Fin 8) (m : LightMap) (s : State) : mapOf (replaceMap k m s) k = m :=
  Vector.getElem_set_self _

theorem mapOf_replaceMap_other {j k : Fin 8} (m : LightMap) (s : State) (h : j ≠ k) : mapOf (replaceMap k m s) j = mapOf s j :=
  Vector.getElem_set_ne k.isLt j.isLt fun hval => h (Fin.ext hval.symm)

/-- The counts follow the actions of the map that is replaced. -/
theorem table_replaceMap (k : Fin 8) (m : LightMap) (s : State) (q : Fin 16) :
    (replaceMap k m s).cfg.lcu.table[q] =
      { s.cfg.lcu.table[q] with refs := s.cfg.lcu.table[q].refs + mapRefs m q - mapRefs (mapOf s k) q } :=
  Vector.getElem_ofFn _

theorem sourceActive_replaceMap (k : Fin 8) (m : LightMap) (s : State) (x : TriggerSource) :
    sourceActive (replaceMap k m s) x = sourceActive s x := by cases x <;> rfl

/-! ### The map that is asked for -/

theorem sourceOf_le {n : Nat} (h : n ≤ 7) : ∃ x, sourceOf n = some x := by
  interval_cases n <;> exact ⟨_, rfl⟩

theorem sourceOf_none {n : Nat} (h : ¬n ≤ 7) : sourceOf n = none := by
  match n, h with
  | n + 8, _ => rfl

theorem ditherOf_le {n : Nat} (h : n ≤ 2) : ∃ x, ditherOf n = some x := by
  interval_cases n <;> exact ⟨_, rfl⟩

theorem ditherOf_none {n : Nat} (h : ¬n ≤ 2) : ditherOf n = none := by
  match n, h with
  | n + 3, _ => rfl

/-- An action that may be asked for: a level, or a DEFINED pattern. -/
def ActionOk (cfg : LcuCfg) (kind v : Nat) : Prop :=
  kind = 0 ∨ (kind = 1 ∧ v ≤ 15 ∧ ∀ q : Fin 16, q.val = v → cfg.table[q].steps ≠ [])

theorem askedAction_some {cfg : LcuCfg} {kind v : Nat} (h : ActionOk cfg kind v) :
    ∃ a, askedAction cfg kind v = some a ∧ (kind = 0 → a = .level (min v 1024)) ∧
      ∀ q : Fin 16, kind = 1 → q.val = v → a = .pattern q := by
  rcases h with rfl | ⟨rfl, hv, hdefined⟩
  · exact ⟨_, rfl, fun _ => rfl, fun q hkind => absurd hkind (by decide)⟩
  · have hpattern := patternOf_val ⟨v, by omega⟩ rfl
    have hsteps := (isDefined_iff _).2 (hdefined ⟨v, by omega⟩ rfl)
    refine ⟨.pattern ⟨v, by omega⟩, ?_, fun hkind => absurd hkind (by decide), fun q _ hq => ?_⟩
    · simp only [askedAction, hpattern, hsteps, if_true]
    · subst hq
      rfl

theorem askedAction_none {cfg : LcuCfg} {kind v : Nat} (h : ¬ActionOk cfg kind v) : askedAction cfg kind v = none := by
  match kind with
  | 0 => exact absurd (.inl rfl) h
  | 1 =>
    by_cases hv : v ≤ 15
    · have hpattern := patternOf_val ⟨v, by omega⟩ rfl
      have hempty : cfg.table[(⟨v, by omega⟩ : Fin 16)].isDefined = false := by
        refine Bool.eq_false_iff.2 fun hdefined => h (.inr ⟨rfl, hv, fun q hq => ?_⟩)
        rw [show q = ⟨v, by omega⟩ from Fin.ext hq]
        exact (isDefined_iff _).1 hdefined
      simp only [askedAction, hpattern, hempty, Bool.false_eq_true, if_false]
    · simp only [askedAction, patternOf_none (show 16 ≤ v by omega)]
  | n + 2 => rfl

/-- A LIGHT_MAP's request apart from its channel. -/
def MapAskedOk (cfg : LcuCfg) (p : Payload) : Prop :=
  u8At p 1 ≤ 7 ∧ u8At p 8 ≤ 2 ∧ ActionOk cfg (u8At p 2) (u16At p 3) ∧ ActionOk cfg (u8At p 5) (u16At p 6)

theorem askedMap_some {cfg : LcuCfg} (h : MapAskedOk cfg p) :
    ∃ m, askedMap cfg p = some m ∧ sourceOf (u8At p 1) = some m.source ∧ ditherOf (u8At p 8) = some m.dither ∧
      m.fullOn = min (u16At p 9) 2000 ∧ (u8At p 2 = 0 → m.onAction = .level (min (u16At p 3) 1024)) ∧
      (u8At p 5 = 0 → m.offAction = .level (min (u16At p 6) 1024)) ∧
      (∀ q : Fin 16, u8At p 2 = 1 → q.val = u16At p 3 → m.onAction = .pattern q) ∧
      (∀ q : Fin 16, u8At p 5 = 1 → q.val = u16At p 6 → m.offAction = .pattern q) := by
  obtain ⟨hsource, hdither, hon, hoff⟩ := h
  obtain ⟨x, hx⟩ := sourceOf_le hsource
  obtain ⟨d, hd⟩ := ditherOf_le hdither
  obtain ⟨onA, honA, honLevel, honPattern⟩ := askedAction_some hon
  obtain ⟨offA, hoffA, hoffLevel, hoffPattern⟩ := askedAction_some hoff
  refine ⟨{ source := x, onAction := onA, offAction := offA, dither := d, fullOn := min (u16At p 9) 2000 }, ?_, hx, hd, rfl,
    honLevel, hoffLevel, honPattern, hoffPattern⟩
  simp only [askedMap, hx, honA, hoffA, hd, Option.bind_eq_bind, Option.bind_some]

theorem askedMap_none {cfg : LcuCfg} (h : ¬MapAskedOk cfg p) : askedMap cfg p = none := by
  by_contra hsome
  obtain ⟨m, hm⟩ := Option.ne_none_iff_exists'.1 hsome
  simp only [askedMap, Option.bind_eq_bind, Option.bind_eq_some_iff] at hm
  obtain ⟨x, hx, onA, hon, offA, hoff, d, hd, -⟩ := hm
  refine h ⟨not_not.1 fun hn => ?_, not_not.1 fun hn => ?_, not_not.1 fun hn => ?_, not_not.1 fun hn => ?_⟩
  · simp [sourceOf_none hn] at hx
  · simp [ditherOf_none hn] at hd
  · simp [askedAction_none hn] at hon
  · simp [askedAction_none hn] at hoff

theorem mapClamped_code (p : Payload) :
    rc (if mapClamped p then .clamped else .ok) =
      .u8 (if (u8At p 2 = 0 → u16At p 3 ≤ 1024) ∧ (u8At p 5 = 0 → u16At p 6 ≤ 1024) ∧ u16At p 9 ≤ 2000 then 0 else 1) := by
  have hclamped : mapClamped p = true ↔
      ¬((u8At p 2 = 0 → u16At p 3 ≤ 1024) ∧ (u8At p 5 = 0 → u16At p 6 ≤ 1024) ∧ u16At p 9 ≤ 2000) := by
    simp only [mapClamped, Bool.or_eq_true, Bool.and_eq_true, decide_eq_true_iff]
    omega
  by_cases h : mapClamped p = true
  · rw [if_pos h, if_neg (hclamped.1 h)]
    rfl
  · rw [if_neg h, if_pos (not_not.1 (mt hclamped.2 h))]
    rfl

/-! ### The channel of a map just replaced -/

theorem remapLight_dark (hc : s.csc.chassis = .cutoff) (hsource : (mapOf s k).source ≠ .lowBatt) :
    remapLight s k c =
      { c with
        runner := none, residual := 0, activity := sourceActive s (mapOf s k).source, forcedOff := true, restart := false, level := 0
        base := 0 } := if_pos ⟨hc, hsource⟩

theorem remapLight_starts (h : s.csc.chassis ≠ .cutoff ∨ (mapOf s k).source = .lowBatt) :
    remapLight s k c =
      startAction s.cfg.lcu ((mapOf s k).action (sourceActive s (mapOf s k).source))
        { c with runner := none, residual := 0, activity := sourceActive s (mapOf s k).source, forcedOff := false } := by
  have hnot : ¬(s.csc.chassis = .cutoff ∧ (mapOf s k).source ≠ .lowBatt) := by tauto
  exact if_neg hnot

@[simp] theorem startAction_keeps (cfg : LcuCfg) (a : Action) (c : LightChan) :
    (startAction cfg a c).activity = c.activity ∧ (startAction cfg a c).residual = c.residual ∧ (startAction cfg a c).slot = c.slot ∧
      (startAction cfg a c).forcedOff = c.forcedOff ∧ (startAction cfg a c).level = c.level ∧
      (startAction cfg a c).restart = c.restart := by
  cases a <;> exact ⟨rfl, rfl, rfl, rfl, rfl, rfl⟩

theorem remapLight_keeps (s : State) (k : Fin 8) (c : LightChan) :
    (remapLight s k c).activity = sourceActive s (mapOf s k).source ∧ (remapLight s k c).residual = 0 ∧
      (remapLight s k c).slot = c.slot := by
  by_cases h : s.csc.chassis = .cutoff ∧ (mapOf s k).source ≠ .lowBatt
  · obtain ⟨hc, hsource⟩ := h
    rw [remapLight_dark hc hsource]
    exact ⟨rfl, rfl, rfl⟩
  · rw [remapLight_starts (by tauto)]
    obtain ⟨hact, hres, hslot, -⟩ := startAction_keeps s.cfg.lcu ((mapOf s k).action (sourceActive s (mapOf s k).source))
      { c with runner := none, residual := 0, activity := sourceActive s (mapOf s k).source, forcedOff := false }
    exact ⟨hact, hres, hslot⟩

/-! ### The owners -/

theorem lightOf_none {n : Nat} (h : 8 ≤ n) : lightOf n = none := dif_neg (not_lt.2 h)

theorem lightOf_val {n : Nat} (h : lightOf n = some k) : k.val = n := by
  unfold lightOf at h
  split at h <;> cases h
  rfl

theorem lightMapOwner_busy (hk : lightOf (u8At p 0) = some k) (h : s.pst.writing ≠ none) :
    lightMapOwner p s = (s, lightMapReply .busy k s) := by
  simp only [lightMapOwner, hk, storeRunning_of_writing h, if_true]

theorem lightMapOwner_refuses (hk : lightOf (u8At p 0) = some k) (hidle : s.pst.writing = none) (h : ¬MapAskedOk s.cfg.lcu p) :
    lightMapOwner p s = (s, lightMapReply .badValue k s) := by
  simp only [lightMapOwner, hk, storeRunning_of_idle hidle, askedMap_none h, Bool.false_eq_true, if_false]

/-- The part after an accepted LIGHT_MAP. -/
def remapped (k : Fin 8) (m : LightMap) (s : State) : State :=
  setLight k (remapLight (replaceMap k m s) k (lightOfState s k)) (replaceMap k m s)

theorem lightMapOwner_accepts (hk : lightOf (u8At p 0) = some k) (hidle : s.pst.writing = none) (hm : askedMap s.cfg.lcu p = some m) :
    lightMapOwner p s = (remapped k m s, lightMapReply (if mapClamped p then .clamped else .ok) k (remapped k m s)) := by
  simp only [lightMapOwner, hk, storeRunning_of_idle hidle, hm, Bool.false_eq_true, if_false]
  rfl

theorem lightMapOwner_noChannel (h : 8 ≤ u8At p 0) :
    lightMapOwner p s = lightMapNoChannel (if s.pst.writing = none then .badValue else .busy) p s := by
  by_cases hidle : s.pst.writing = none
  · simp only [lightMapOwner, lightOf_none h, storeRunning_of_idle hidle, if_pos hidle]
    rfl
  · simp only [lightMapOwner, lightOf_none h, storeRunning_of_writing hidle, if_neg hidle, if_true]

@[simp] theorem mapOf_remapped_same (k : Fin 8) (m : LightMap) (s : State) : mapOf (remapped k m s) k = m :=
  mapOf_replaceMap_same k m s

theorem remapped_other {j k : Fin 8} (m : LightMap) (s : State) (h : j ≠ k) :
    mapOf (remapped k m s) j = mapOf s j ∧ lightOfState (remapped k m s) j = lightOfState s j :=
  ⟨mapOf_replaceMap_other m s h, lightOfState_setLight_other _ (replaceMap k m s) h⟩

theorem lightOfState_remapped (k : Fin 8) (m : LightMap) (s : State) :
    lightOfState (remapped k m s) k = remapLight (replaceMap k m s) k (lightOfState s k) := lightOfState_setLight_same ..

/-- In CUTOFF a channel of another source than LOWBATT is dark, whatever its new map. -/
theorem remapped_dark (hc : s.csc.chassis = .cutoff) (hsource : m.source ≠ .lowBatt) :
    (lightOfState (remapped k m s) k).forcedOff = true ∧ (lightOfState (remapped k m s) k).level = 0 ∧
      (lightOfState (remapped k m s) k).base = 0 ∧ (lightOfState (remapped k m s) k).runner = none := by
  rw [lightOfState_remapped, remapLight_dark (s := replaceMap k m s) hc (by rwa [mapOf_replaceMap_same])]
  exact ⟨rfl, rfl, rfl, rfl⟩

/-- Elsewhere the action of the side that the source reads is started. -/
theorem remapped_starts (h : s.csc.chassis ≠ .cutoff ∨ m.source = .lowBatt) :
    let c := lightOfState (remapped k m s) k
    c.forcedOff = false ∧ c.level = (lightOfState s k).level ∧
      (∀ v, m.action (sourceActive s m.source) = .level v → c.base = v ∧ c.runner = none) ∧
      (∀ q, m.action (sourceActive s m.source) = .pattern q →
        c.base = (lightOfState s k).base ∧ c.runner.map Runner.pattern = some q) := by
  have hstarts := remapLight_starts (s := replaceMap k m s) (k := k) (c := lightOfState s k)
    (by rw [mapOf_replaceMap_same]; exact h)
  simp only [lightOfState_remapped, hstarts, mapOf_replaceMap_same, sourceActive_replaceMap]
  obtain ⟨-, -, -, hforced, hlevel, -⟩ := startAction_keeps (replaceMap k m s).cfg.lcu (m.action (sourceActive s m.source))
    { lightOfState s k with
      runner := none, residual := 0, activity := sourceActive s m.source, forcedOff := false }
  exact ⟨hforced, hlevel, fun v hv => by rw [hv]; exact ⟨rfl, rfl⟩, fun q hq => by rw [hq]; exact ⟨rfl, rfl⟩⟩

/-- The part after a LIGHT_LEVEL. -/
def relevelled (k : Fin 8) (v : Nat) (s : State) : State :=
  setLight k (levelLight v (lightOfState s k)) (replaceMap k { mapOf s k with offAction := .level v } s)

theorem relevelled_own (k : Fin 8) (v : Nat) (s : State) :
    mapOf (relevelled k v s) k = { mapOf s k with offAction := .level v } ∧
      lightOfState (relevelled k v s) k = levelLight v (lightOfState s k) ∧
      ∀ q : Fin 16, (relevelled k v s).cfg.lcu.table[q] = { s.cfg.lcu.table[q] with
        refs := if (mapOf s k).offAction = .pattern q then s.cfg.lcu.table[q].refs - 1 else s.cfg.lcu.table[q].refs } := by
  refine ⟨mapOf_replaceMap_same .., lightOfState_setLight_same .., fun q => (table_replaceMap k _ s q).trans ?_⟩
  have hlost : s.cfg.lcu.table[q].refs + mapRefs { mapOf s k with offAction := .level v } q - mapRefs (mapOf s k) q =
      if (mapOf s k).offAction = .pattern q then s.cfg.lcu.table[q].refs - 1 else s.cfg.lcu.table[q].refs := by
    simp only [mapRefs, reduceCtorEq, if_false]
    split <;> split <;> omega
  rw [hlost]

theorem relevelled_other {j k : Fin 8} (v : Nat) (s : State) (h : j ≠ k) :
    mapOf (relevelled k v s) j = mapOf s j ∧ lightOfState (relevelled k v s) j = lightOfState s j :=
  ⟨mapOf_replaceMap_other _ s h, lightOfState_setLight_other _ (replaceMap k _ s) h⟩

theorem lightLevelOwner_sets (hk : lightOf (u8At p 0) = some k) :
    lightLevelOwner p s =
      (relevelled k (min (u16At p 1) 1024) s,
        [.u8 (if min (u16At p 1) 1024 = u16At p 1 then 0 else 1), .u8 k.val, .u16 (min (u16At p 1) 1024)]) := by
  have hcode : rc (if min (u16At p 1) 1024 = u16At p 1 then .ok else .clamped) =
      .u8 (if min (u16At p 1) 1024 = u16At p 1 then 0 else 1) := congrArg Field.u8 (okOrClamped_code _)
  simp only [lightLevelOwner, hk, hcode]
  rfl

theorem lightLevelOwner_noChannel (h : 8 ≤ u8At p 0) :
    lightLevelOwner p s = (s.useFree 1, [rc .badValue, .u8 (u8At p 0), .u16 (s.free 0)]) := by
  simp only [lightLevelOwner, lightOf_none h]

end Lights

/-- Settles O44: the map asked for, its channel started from its source, and the reference counts. -/
theorem lightMapRestartsTheChannel : Obligations.LightMapRestartsTheChannel := by
  refine ⟨fun p k s htakes hlen hk => ?map, fun p s htakes hlen h => ?noMap, fun p k s htakes hlen hk => ?level,
    fun p s htakes hlen h => ?noLevel⟩
  case map =>
    have hexec {t u : State} {fields : List Field} (howner : lightMapOwner p (popIntake s) = (t, fields))
        (hu : putReply { type := 0x31 + 0x80#8, fields := fields } t = u) : exec (.lightMap p) s = .next u :=
      exec_of_owner (i := .lightMap p) rfl htakes (by rw [hlen]; rfl) howner hu
    refine ⟨fun h => hexec (lightMapOwner_busy (s := popIntake s) hk h) rfl,
      fun hidle h => hexec (lightMapOwner_refuses (s := popIntake s) hk hidle h) rfl, fun hidle h => ?_⟩
    obtain ⟨m, hm, hsource, hdither, hfull, honLevel, hoffLevel, honPattern, hoffPattern⟩ := askedMap_some (cfg := s.cfg.lcu) (p := p) h
    have howner := lightMapOwner_accepts (s := popIntake s) hk hidle hm
    rw [lightMapReply, mapClamped_code] at howner
    obtain ⟨hact, hres, hslot⟩ := remapLight_keeps (replaceMap k m s) k (lightOfState s k)
    rw [← lightOfState_remapped, mapOf_replaceMap_same, sourceActive_replaceMap] at hact
    rw [← lightOfState_remapped] at hres hslot
    obtain ⟨t, ht, hmaps, hlights, hlif, htable, honly⟩ : ∃ t, exec (.lightMap p) s = .next t ∧
        (∀ j, mapOf t j = mapOf (remapped k m s) j) ∧ (∀ j, lightOfState t j = lightOfState (remapped k m s) j) ∧
        t.lif = answered 0x31 _ s.lif ∧ (∀ q : Fin 16, t.cfg.lcu.table[q] = (remapped k m s).cfg.lcu.table[q]) ∧
        t = { s with
          cfg := { s.cfg with lcu := { s.cfg.lcu with maps := t.cfg.lcu.maps, table := t.cfg.lcu.table } }
          lcu := t.lcu
          lif := t.lif } :=
      ⟨_, hexec howner rfl, fun _ => rfl, fun _ => rfl, rfl, fun _ => rfl, rfl⟩
    refine ⟨t, ht, ?_⟩
    simp only [hmaps, hlights, mapOf_remapped_same, hact, hres, hslot]
    refine ⟨hsource, hdither, hfull, honLevel, hoffLevel, honPattern, hoffPattern, fun j hj => remapped_other m s hj, trivial,
      trivial, trivial, fun hc hsource => remapped_dark hc hsource, fun h => remapped_starts h, ?_, fun q => ?_, honly⟩
    · rw [hlif, ← hact]
      rfl
    · exact (htable q).trans (table_replaceMap k m s q)
  case noMap =>
    refine exec_of_owner (i := .lightMap p) rfl htakes (by rw [hlen]; rfl) (lightMapOwner_noChannel (s := popIntake s) h) ?_
    rw [rc_busy_or]
    rfl
  case level =>
    have howner := lightLevelOwner_sets (s := popIntake s) (p := p) hk
    obtain ⟨t, ht, hmaps, hlights, hlif, htable, honly⟩ : ∃ t, exec (.lightLevel p) s = .next t ∧
        (∀ j, mapOf t j = mapOf (relevelled k (min (u16At p 1) 1024) s) j) ∧
        (∀ j, lightOfState t j = lightOfState (relevelled k (min (u16At p 1) 1024) s) j) ∧ t.lif = answered 0x30 _ s.lif ∧
        (∀ q : Fin 16, t.cfg.lcu.table[q] = (relevelled k (min (u16At p 1) 1024) s).cfg.lcu.table[q]) ∧
        t = { s with
          cfg := { s.cfg with lcu := { s.cfg.lcu with maps := t.cfg.lcu.maps, table := t.cfg.lcu.table } }
          lcu := t.lcu
          lif := t.lif } :=
      ⟨_, exec_of_owner (i := .lightLevel p) rfl htakes (by rw [hlen]; rfl) howner rfl, fun _ => rfl, fun _ => rfl, rfl,
        fun _ => rfl, rfl⟩
    refine ⟨t, ht, ?_⟩
    simp only [hmaps, hlights]
    obtain ⟨hmap, hlight, hcount⟩ := relevelled_own k (min (u16At p 1) 1024) s
    refine ⟨hmap, fun hforced hside => ?_, fun h => ?_, fun j hj => relevelled_other _ s hj, hlif, fun q => (htable q).trans (hcount q), honly⟩
    · rw [hlight, levelLight, hforced, hside]
      rfl
    · rw [hlight, levelLight, if_pos (by rwa [Bool.or_eq_true])]
  case noLevel => exact exec_of_owner (i := .lightLevel p) rfl htakes (by rw [hlen]; rfl) (lightLevelOwner_noChannel (s := popIntake s) h) rfl

end Sys2Proof.Machine

namespace Sys2Proof.Machine

/-! ## The period start of a light channel -/

section Period

variable {s : State} {k : Fin 8} {c e x : LightChan} {r : Runner} {q : Fin 16} {j : Nat}

/-! ### Trigger sources -/

theorem sourceActive_brake (s : State) : sourceActive s .brake = true ↔
    s.csc.chassis = .hold ∨ ∃ ch, (s.drc.chan ch).lastTarget.natAbs < (s.drc.chan ch).lastOutput.natAbs := by
  have hchans : (∃ ch, (s.drc.chan ch).lastTarget.natAbs < (s.drc.chan ch).lastOutput.natAbs) ↔
      s.drc.df.lastTarget.natAbs < s.drc.df.lastOutput.natAbs ∨ s.drc.dr.lastTarget.natAbs < s.drc.dr.lastOutput.natAbs :=
    ⟨fun ⟨ch, h⟩ => by cases ch with | df => exact .inl h | dr => exact .inr h,
      fun h => h.elim (fun h => ⟨.df, h⟩) fun h => ⟨.dr, h⟩⟩
  simp only [sourceActive, brakeFlag, slowing, Bool.or_eq_true, decide_eq_true_iff, hchans]
  tauto

theorem sourceActive_reverse (s : State) : sourceActive s .reverse = true ↔ ∃ ch, (s.drc.chan ch).lastOutput < 0 := by
  have hchans : (∃ ch, (s.drc.chan ch).lastOutput < 0) ↔ s.drc.df.lastOutput < 0 ∨ s.drc.dr.lastOutput < 0 :=
    ⟨fun ⟨ch, h⟩ => by cases ch with | df => exact .inl h | dr => exact .inr h,
      fun h => h.elim (fun h => ⟨.df, h⟩) fun h => ⟨.dr, h⟩⟩
  simp only [sourceActive, reverseFlag, Bool.or_eq_true, decide_eq_true_iff, hchans]

theorem sourceActive_winch (s : State) :
    sourceActive s .winchActive = true ↔ s.wnc.state = .spoolIn ∨ s.wnc.state = .spoolOut ∨ s.wnc.state = .pull := by
  cases h : s.wnc.state <;> simp [sourceActive, WinchState.driving, h]

theorem sourceActive_lowBatt (s : State) : sourceActive s .lowBatt = true ↔
    s.bmn.pub.stage = .warn ∨ s.bmn.pub.stage = .limit ∨ s.bmn.pub.stage = .shed ∨ s.bmn.pub.stage = .cutoff := by
  cases h : s.bmn.pub.stage <;> simp [sourceActive, lowBattery, h]

/-! ### The steps of the period start -/

/-- A channel as steps 3 and 4 leave it. -/
def shownChan (s : State) (k : Fin 8) (x : LightChan) : LightChan :=
  { x with
    level := (ditherLevel (mapOf s k).dither (scaledLight s k x.base) x.slot x.residual).1
    residual := (ditherLevel (mapOf s k).dither (scaledLight s k x.base) x.slot x.residual).2
    slot := if 15 ≤ x.slot then 0 else x.slot + 1 }

theorem lightPeriod_dark (h : c.forcedOff = true) : lightPeriod s k c = c := if_pos h

theorem lightPeriod_lit (h : c.forcedOff = false) (he : lightEvaluate s k c = e) (hx : lightAction s k e = x) :
    lightPeriod s k c = shownChan s k x := by
  rw [lightPeriod, h, he, hx]
  rfl

theorem lightEvaluate_steady (hrestart : c.restart = false) (hsource : sourceActive s (mapOf s k).source = c.activity) :
    lightEvaluate s k c = c := by
  simp only [lightEvaluate, hrestart, hsource, Bool.false_eq_true, if_false, ne_eq, not_true]

theorem lightEvaluate_switches (hrestart : c.restart = false) (hsource : sourceActive s (mapOf s k).source = !c.activity) :
    lightEvaluate s k c = startAction s.cfg.lcu ((mapOf s k).action (!c.activity)) { c with activity := !c.activity } := by
  have hne : sourceActive s (mapOf s k).source ≠ c.activity := by
    rw [hsource]
    exact Bool.not_ne_self _
  rw [lightEvaluate, if_neg (Bool.eq_false_iff.1 hrestart), if_pos hne, restartLight, hsource]

theorem lightEvaluate_restarts (hrestart : c.restart = true) :
    lightEvaluate s k c =
      { startAction s.cfg.lcu ((mapOf s k).action (sourceActive s (mapOf s k).source))
          { c with activity := sourceActive s (mapOf s k).source } with restart := false } := by
  rw [lightEvaluate, if_pos hrestart, restartLight]

theorem lightAction_level {v : Nat} (hrunner : e.runner = none) (hv : (mapOf s k).action e.activity = .level v) :
    lightAction s k e = { e with base := v } := by
  simp only [lightAction, hrunner, hv]

theorem lightAction_pattern (hrunner : e.runner = some r) :
    lightAction s k e = { e with runner := some (runPeriod s.cfg.lcu r e.base).1, base := (runPeriod s.cfg.lcu r e.base).2 } := by
  simp only [lightAction, hrunner]

/-- A runner after the first period of a step entered from a base level. -/
def enteredRunner (q : Fin 16) (j base : Nat) (st : StepRecord) : Runner :=
  { pattern := q, finished := false, position := j, latch := st, start := base, elapsed := 1, complete := decide (st.ramp + st.hold ≤ 1)
    finishedLevel := 0 }

/-- The base level after that period. -/
def enteredBase (base : Nat) (st : StepRecord) : Nat :=
  if 1 ≤ st.ramp then ((base : Int) + Int.tdiv ((st.target : Int) - base) st.ramp).toNat else st.target

theorem runStep_enterStep {cfg : LcuCfg} {i : Fin 64} (hi : cfg.table[q].steps[j]? = some i) (base : Nat) :
    runStep (enterStep cfg q j base) = (enteredRunner q j base cfg.pool[i], enteredBase base cfg.pool[i]) := by
  have hstep : stepAt cfg q j = cfg.pool[i] := by
    rw [stepAt, stepIndex, hi]
  have hsingle : decide (stepLength cfg.pool[i] ≤ 1) = decide (cfg.pool[i].ramp + cfg.pool[i].hold ≤ 1) := by
    apply decide_eq_decide.2
    unfold stepLength
    split <;> omega
  have hlevel : stepLevel cfg.pool[i] base 1 = enteredBase base cfg.pool[i] := by
    unfold stepLevel enteredBase
    by_cases hramp : 1 ≤ cfg.pool[i].ramp
    · rw [if_pos ⟨hramp, hramp⟩, if_pos hramp, Nat.cast_one, Int.mul_one]
    · rw [if_neg fun h => hramp h.2, if_neg hramp]
  rw [enteredRunner, ← hsingle, ← hlevel, ← hstep]
  rfl

theorem runPeriod_fresh (cfg : LcuCfg) (q : Fin 16) (j base : Nat) :
    runPeriod cfg (enterStep cfg q j base) base = runStep (enterStep cfg q j base) := rfl

theorem runPeriod_finished {cfg : LcuCfg} (h : r.finished = true) (base : Nat) : runPeriod cfg r base = (r, r.finishedLevel) := if_pos h

theorem runPeriod_running {cfg : LcuCfg} (h : r.finished = false) (hc : r.complete = false) (base : Nat) : runPeriod cfg r base = runStep r := by
  simp only [runPeriod, h, hc, Bool.false_eq_true, if_false]

theorem runPeriod_next {cfg : LcuCfg} (h : r.finished = false) (hc : r.complete = true) (hl : r.latch.link = .next j) (base : Nat) :
    runPeriod cfg r base = runStep (enterStep cfg r.pattern j base) := by
  simp only [runPeriod, h, hc, hl, Bool.false_eq_true, if_false, if_true]

theorem runPeriod_endHold {cfg : LcuCfg} (h : r.finished = false) (hc : r.complete = true) (hl : r.latch.link = .endHold) (base : Nat) :
    runPeriod cfg r base = ({ r with finished := true, finishedLevel := r.latch.target }, r.latch.target) := by
  simp only [runPeriod, h, hc, hl, Bool.false_eq_true, if_false, if_true]

theorem runPeriod_endOff {cfg : LcuCfg} (h : r.finished = false) (hc : r.complete = true) (hl : r.latch.link = .endOff) (base : Nat) :
    runPeriod cfg r base = ({ r with finished := true, finishedLevel := 0 }, 0) := by
  simp only [runPeriod, h, hc, hl, Bool.false_eq_true, if_false, if_true]

/-! ### The two rows -/

theorem exec_lightPeriodStart (hpower : s.power = .running) (hx : lightPeriod s k (lightOfState s k) = x) :
    exec (.lightPeriodStart k) s = .next (setLight k x s) := by
  rw [← hx]
  exact congrArg Host.Outcome.next (whenRunning_runs hpower)

theorem exec_lightPeriodStart_dark (hpower : s.power = .running) (h : (lightOfState s k).forcedOff = true) :
    exec (.lightPeriodStart k) s = .next s := by
  have hsame : s.lcu.chans.set k (lightOfState s k) = s.lcu.chans := Vector.set_getElem_self _
  rw [exec_lightPeriodStart hpower (lightPeriod_dark h), setLight, hsame]
  rfl

/-- The period start completes a step. -/
theorem exec_patternStepComplete (hpower : s.power = .running) (hlit : (lightOfState s k).forcedOff = false)
    (hx : lightPeriod s k (lightOfState s k) = x) (hrunner : x.runner = some r) (hc : r.complete = true) (hf : r.finished = false) :
    exec (.patternStepComplete k) s = exec (.lightPeriodStart k) s := by
  have hdue : stepCompleteDue k s = true := by
    simp only [stepCompleteDue, hlit, hx, hrunner, hc, hf, Bool.not_false, Bool.and_self]
  exact (congrArg Host.Outcome.next (whenDue_due hpower hdue)).trans (congrArg Host.Outcome.next (whenRunning_runs hpower)).symm

theorem exec_patternStepComplete_not (hx : lightPeriod s k (lightOfState s k) = x)
    (h : x.runner = none ∨ ∃ r, x.runner = some r ∧ (r.complete = false ∨ r.finished = true)) :
    exec (.patternStepComplete k) s = .next s := by
  have hdue : stepCompleteDue k s = false := by
    rcases h with h | ⟨r, h, hr⟩
    · simp [stepCompleteDue, hx, h]
    · rcases hr with hr | hr <;> simp [stepCompleteDue, hx, h, hr]
  exact congrArg Host.Outcome.next (whenDue_not hdue)

theorem exec_patternStepComplete_dark (h : (lightOfState s k).forcedOff = true) : exec (.patternStepComplete k) s = .next s := by
  have hdue : stepCompleteDue k s = false := by simp [stepCompleteDue, h]
  exact congrArg Host.Outcome.next (whenDue_not hdue)

/-- The two rows by the channel that steps 1 and 2 leave. -/
theorem period_rows (hpower : s.power = .running) (hlit : (lightOfState s k).forcedOff = false)
    (he : lightEvaluate s k (lightOfState s k) = e) (hx : lightAction s k e = x) :
    exec (.lightPeriodStart k) s = .next (setLight k (shownChan s k x) s) ∧
      (x.runner = none ∨ (∃ r, x.runner = some r ∧ (r.complete = false ∨ r.finished = true)) →
        exec (.patternStepComplete k) s = .next s) ∧
      (∀ r, x.runner = some r → r.complete = true → r.finished = false →
        exec (.patternStepComplete k) s = exec (.lightPeriodStart k) s) := by
  have hperiod := lightPeriod_lit hlit he hx
  exact ⟨exec_lightPeriodStart hpower hperiod, fun h => exec_patternStepComplete_not hperiod h,
    fun r hrunner hc hf => exec_patternStepComplete hpower hlit hperiod hrunner hc hf⟩

/-- The two rows of a period start that enters a step. -/
theorem period_enters {i : Fin 64} {activity : Bool} (hpower : s.power = .running) (hlit : (lightOfState s k).forcedOff = false)
    (he : lightEvaluate s k (lightOfState s k) = e)
    (hx : lightAction s k e = { lightOfState s k with
      activity := activity, restart := false
      runner := some (runStep (enterStep s.cfg.lcu q j (lightOfState s k).base)).1
      base := (runStep (enterStep s.cfg.lcu q j (lightOfState s k).base)).2 })
    (hi : s.cfg.lcu.table[q].steps[j]? = some i) :
    let st := s.cfg.lcu.pool[i]
    exec (.lightPeriodStart k) s = .next (setLight k (shownChan s k { lightOfState s k with
        activity := activity, restart := false, runner := some (enteredRunner q j (lightOfState s k).base st)
        base := enteredBase (lightOfState s k).base st }) s) ∧
      (st.ramp + st.hold ≤ 1 → exec (.patternStepComplete k) s = exec (.lightPeriodStart k) s) ∧
      (¬st.ramp + st.hold ≤ 1 → exec (.patternStepComplete k) s = .next s) := by
  intro st
  rw [runStep_enterStep hi] at hx
  obtain ⟨hstart, hnot, hends⟩ := period_rows hpower hlit he hx
  exact ⟨hstart, fun hsingle => hends _ rfl (decide_eq_true hsingle) rfl,
    fun hsingle => hnot (.inr ⟨_, rfl, .inl (decide_eq_false hsingle)⟩)⟩

end Period

/-- Settles O46: the sources, then the period start by what the evaluation finds and what the runner does. -/
theorem lightPeriodRunsTheAction : Obligations.LightPeriodRunsTheAction := by
  refine ⟨fun s => ⟨sourceActive_brake s, sourceActive_reverse s, rfl, ?left, ?right, sourceActive_winch s, ?hazard,
    sourceActive_lowBatt s⟩, fun k s hpower => ?rows⟩
  case left => simp only [sourceActive, turnLeft, Bool.and_eq_true, decide_eq_true_iff]
  case right => simp only [sourceActive, turnRight, Bool.and_eq_true, decide_eq_true_iff]
  case hazard => simp only [sourceActive, hazard, Bool.or_eq_true, decide_eq_true_iff]
  case rows =>
    refine ⟨fun hdark => ⟨exec_lightPeriodStart_dark hpower hdark, exec_patternStepComplete_dark hdark⟩,
      fun hlit hrestart hsource hrunner v hv => ?_, fun hlit hrestart hsource v hv => ?_, fun hlit hrestart hsource q hq i hi => ?_,
      fun hlit hrestart v hv => ?_, fun hlit hrestart q hq i hi => ?_, fun r hlit hrestart hsource hrunner hfinished => ?_,
      fun r hlit hrestart hsource hrunner hfinished => ⟨fun hc helapsed => ?_, fun hc hl => ?_, fun hc hl => ?_,
        fun j hc hl i hi => ?_⟩⟩
    · obtain ⟨hstart, hnot, -⟩ := period_rows hpower hlit (lightEvaluate_steady hrestart hsource) (lightAction_level hrunner hv)
      exact ⟨hstart, hnot (.inl hrunner)⟩
    · have he := lightEvaluate_switches hrestart hsource
      rw [hv] at he
      obtain ⟨hstart, hnot, -⟩ := period_rows hpower hlit he (lightAction_level rfl hv)
      exact ⟨hstart, hnot (.inl rfl)⟩
    · have he := lightEvaluate_switches hrestart hsource
      rw [hq] at he
      refine period_enters hpower hlit he ((lightAction_pattern rfl).trans ?_) hi
      rw [← hrestart]
      rfl
    · have he := lightEvaluate_restarts (s := s) (k := k) hrestart
      rw [hv] at he
      obtain ⟨hstart, hnot, -⟩ := period_rows hpower hlit he (lightAction_level rfl hv)
      exact ⟨hstart, hnot (.inl rfl)⟩
    · have he := lightEvaluate_restarts (s := s) (k := k) hrestart
      rw [hq] at he
      refine period_enters hpower hlit he ((lightAction_pattern rfl).trans ?_) hi
      rfl
    · have hx := lightAction_pattern (s := s) (k := k) hrunner
      rw [runPeriod_finished hfinished, ← hrunner] at hx
      obtain ⟨hstart, hnot, -⟩ := period_rows hpower hlit (lightEvaluate_steady hrestart hsource) hx
      exact ⟨hstart, hnot (.inr ⟨r, hrunner, .inr hfinished⟩)⟩
    · have hx := lightAction_pattern (s := s) (k := k) hrunner
      have helapsed' : min (r.elapsed + 1) 120000 = r.elapsed + 1 := by omega
      rw [runPeriod_running hfinished hc, runStep, helapsed'] at hx
      obtain ⟨hstart, hnot, hends⟩ := period_rows hpower hlit (lightEvaluate_steady hrestart hsource) hx
      exact ⟨hstart, fun hdone => hends _ rfl (decide_eq_true hdone) hfinished,
        fun hdone => hnot (.inr ⟨_, rfl, .inl (decide_eq_false hdone)⟩)⟩
    · have hx := lightAction_pattern (s := s) (k := k) hrunner
      rw [runPeriod_endHold hfinished hc hl] at hx
      obtain ⟨hstart, hnot, -⟩ := period_rows hpower hlit (lightEvaluate_steady hrestart hsource) hx
      exact ⟨hstart, hnot (.inr ⟨_, rfl, .inr rfl⟩)⟩
    · have hx := lightAction_pattern (s := s) (k := k) hrunner
      rw [runPeriod_endOff hfinished hc hl] at hx
      obtain ⟨hstart, hnot, -⟩ := period_rows hpower hlit (lightEvaluate_steady hrestart hsource) hx
      exact ⟨hstart, hnot (.inr ⟨_, rfl, .inr rfl⟩)⟩
    · have hx := lightAction_pattern (s := s) (k := k) hrunner
      rw [runPeriod_next hfinished hc hl] at hx
      refine period_enters hpower hlit (lightEvaluate_steady hrestart hsource) (hx.trans ?_) hi
      rw [← hrestart]

end Sys2Proof.Machine

namespace Sys2Proof.Machine

/-! ## BATTERY_LEVELS and PROT_LOCK -/

section Levels

variable {s : State} {strap : PinLevel} {p : Payload} {b : Byte}

theorem levelsValid_iff (l : BatteryLevels) :
    levelsValid l = true ↔ (2500 ≤ l.warn ∧ l.warn ≤ 4300) ∧ (2500 ≤ l.limit ∧ l.limit ≤ 4300) ∧
      (2500 ≤ l.shed ∧ l.shed ≤ 4300) ∧ (2500 ≤ l.cutoff ∧ l.cutoff ≤ 4300) ∧ l.limit + 50 ≤ l.warn ∧ l.shed + 50 ≤ l.limit ∧
      l.cutoff + 50 ≤ l.shed := by
  simp only [levelsValid, decide_eq_true_iff]
  omega

theorem lockActive_iff : lockActive strap s = true ↔ s.cfg.bmn.lockFlag = true ∧ strap = .low := by
  simp only [lockActive, Bool.and_eq_true, decide_eq_true_iff]

theorem batteryLevelsOwner_busy (h : s.pst.writing ≠ none) :
    batteryLevelsOwner strap p s = (s, rc .busy :: levelFields s.cfg.bmn.levels) := by
  simp only [batteryLevelsOwner, storeRunning_of_writing h, if_true]

theorem batteryLevelsOwner_locked (hidle : s.pst.writing = none) (hlock : lockActive strap s = true) :
    batteryLevelsOwner strap p s = (s, rc .locked :: levelFields s.cfg.bmn.levels) := by
  simp only [batteryLevelsOwner, storeRunning_of_idle hidle, hlock, Bool.false_eq_true, if_false, if_true]

theorem batteryLevelsOwner_refuses (hidle : s.pst.writing = none) (hlock : lockActive strap s = false)
    (h : levelsValid (askedLevels p) = false) :
    batteryLevelsOwner strap p s = (s, rc .badValue :: levelFields s.cfg.bmn.levels) := by
  simp only [batteryLevelsOwner, storeRunning_of_idle hidle, hlock, h, Bool.false_eq_true, if_false]

theorem batteryLevelsOwner_sets (hidle : s.pst.writing = none) (hlock : lockActive strap s = false)
    (h : levelsValid (askedLevels p) = true) :
    batteryLevelsOwner strap p s =
      (setLevels (askedLevels p) s,
        .u8 (if (askedLevels p).hysteresis = u16At p 8 then 0 else 1) :: levelFields (askedLevels p)) := by
  have hcode : rc (if (askedLevels p).hysteresis = u16At p 8 then .ok else .clamped) =
      .u8 (if (askedLevels p).hysteresis = u16At p 8 then 0 else 1) := congrArg Field.u8 (okOrClamped_code _)
  simp only [batteryLevelsOwner, storeRunning_of_idle hidle, hlock, h, Bool.false_eq_true, if_false, if_true, hcode]
  rfl

theorem lockFields_eq (strap : PinLevel) (s : State) :
    lockFields strap s = [.u8 s.cfg.bmn.lockFlag.toNat, .u8 (!decide (strap = .low)).toNat,
      .u8 (s.cfg.bmn.lockFlag && decide (strap = .low)).toNat] := by
  cases strap <;> rfl

/-- A PROT_LOCK in the terms of what it leaves of the flag. -/
theorem protLockOwner_answers {t : State} {c : ResultCode}
    (h : (if storeRunning s then (s, ResultCode.busy) else if 1 < u8At [b] 0 then (s, .badValue)
      else if u8At [b] 0 = 1 then (setLockFlag true s, .ok) else if lockActive strap s then (s, .locked)
      else (setLockFlag false s, .ok)) = (t, c)) :
    protLockOwner strap [b] s = (t, rc c :: lockFields strap t) := by
  simp only [protLockOwner, h]

theorem protLockOwner_busy (h : s.pst.writing ≠ none) : protLockOwner strap [b] s = (s, rc .busy :: lockFields strap s) :=
  protLockOwner_answers (if_pos (storeRunning_of_writing h))

theorem protLockOwner_badValue (hidle : s.pst.writing = none) (h : 2 ≤ b.toNat) :
    protLockOwner strap [b] s = (s, rc .badValue :: lockFields strap s) :=
  protLockOwner_answers ((if_neg (Bool.eq_false_iff.1 (storeRunning_of_idle hidle))).trans (if_pos h))

theorem protLockOwner_sets (hidle : s.pst.writing = none) (h : b.toNat = 1) :
    protLockOwner strap [b] s = (setLockFlag true s, rc .ok :: lockFields strap (setLockFlag true s)) := by
  have hone : u8At [b] 0 = 1 := h
  apply protLockOwner_answers
  simp only [storeRunning_of_idle hidle, hone, lt_irrefl, Bool.false_eq_true, if_false, if_true]

theorem protLockOwner_locked (hidle : s.pst.writing = none) (h : b.toNat = 0) (hlock : lockActive strap s = true) :
    protLockOwner strap [b] s = (s, rc .locked :: lockFields strap s) := by
  have hzero : u8At [b] 0 = 0 := h
  apply protLockOwner_answers
  simp only [storeRunning_of_idle hidle, hzero, hlock, Nat.not_lt_zero, Nat.zero_ne_one, Bool.false_eq_true, if_false, if_true]

theorem protLockOwner_clears (hidle : s.pst.writing = none) (h : b.toNat = 0) (hlock : lockActive strap s = false) :
    protLockOwner strap [b] s = (setLockFlag false s, rc .ok :: lockFields strap (setLockFlag false s)) := by
  have hzero : u8At [b] 0 = 0 := h
  apply protLockOwner_answers
  simp only [storeRunning_of_idle hidle, hzero, hlock, Nat.not_lt_zero, Nat.zero_ne_one, Bool.false_eq_true, if_false]

end Levels

/-- Settles O49. -/
theorem batteryLevelsAndLock : Obligations.BatteryLevelsAndLock := by
  refine ⟨fun strap p s htakes hlen => ?levels, fun strap b s htakes => ?lock⟩
  case levels =>
    have hexec {t u : State} {fields : List Field} (howner : batteryLevelsOwner strap p (popIntake s) = (t, fields))
        (hu : putReply { type := 0x38 + 0x80#8, fields := fields } t = u) : exec (.batteryLevels strap p) s = .next u :=
      exec_of_owner (i := .batteryLevels strap p) rfl htakes (by rw [hlen]; rfl) howner hu
    have hunlocked (h : ¬(s.cfg.bmn.lockFlag = true ∧ strap = .low)) : lockActive strap (popIntake s) = false :=
      Bool.eq_false_iff.2 (mt lockActive_iff.1 h)
    exact ⟨fun h => hexec (batteryLevelsOwner_busy (s := popIntake s) h) rfl,
      fun hidle h => hexec (batteryLevelsOwner_locked (s := popIntake s) hidle (lockActive_iff.2 h)) rfl,
      fun hidle h hvalid => hexec (batteryLevelsOwner_refuses (s := popIntake s) hidle (hunlocked h)
        (Bool.eq_false_iff.2 (mt (levelsValid_iff _).1 hvalid))) rfl,
      fun hidle h hvalid => hexec (batteryLevelsOwner_sets (s := popIntake s) hidle (hunlocked h) ((levelsValid_iff _).2 hvalid)) rfl⟩
  case lock =>
    have hexec {t u : State} {c : ResultCode} (howner : protLockOwner strap [b] (popIntake s) = (t, rc c :: lockFields strap t))
        (hu : putReply { type := 0x39 + 0x80#8, fields := rc c :: [.u8 t.cfg.bmn.lockFlag.toNat, .u8 (!decide (strap = .low)).toNat,
          .u8 (t.cfg.bmn.lockFlag && decide (strap = .low)).toNat] } t = u) : exec (.protLock strap [b]) s = .next u :=
      exec_of_owner (i := .protLock strap [b]) rfl htakes rfl (howner.trans (by rw [lockFields_eq])) hu
    refine ⟨fun h => hexec (protLockOwner_busy (s := popIntake s) h) rfl, fun hidle =>
      ⟨fun h => hexec (protLockOwner_badValue (s := popIntake s) hidle h) rfl,
        fun h => hexec (protLockOwner_sets (s := popIntake s) hidle h) rfl, fun h hflag hstrap => ?_, fun h hfree => ?_⟩⟩
    · refine hexec (protLockOwner_locked (s := popIntake s) hidle h (lockActive_iff.2 ⟨hflag, hstrap⟩)) ?_
      rw [← hflag]
      rfl
    · have hunlocked : lockActive strap (popIntake s) = false := Bool.eq_false_iff.2 fun hlock => by
        obtain ⟨hflag, hstrap⟩ := lockActive_iff.1 hlock
        rcases hfree with hclear | hhigh
        · exact Bool.noConfusion (hclear.symm.trans hflag)
        · exact PinLevel.noConfusion (hhigh.symm.trans hstrap)
      exact hexec (protLockOwner_clears (s := popIntake s) hidle h hunlocked) rfl

/-! ## BUDGET_CLASS -/

section BudgetClass

variable {s : State} {p : Payload} {id : ClassId}

theorem classOf_none {n : Nat} (h : 5 ≤ n) : classOf n = none := by
  match n, h with
  | _ + 5, _ => rfl

/-- The classes with the record that a BUDGET_CLASS asks for. -/
def askedClasses (id : ClassId) (p : Payload) (s : State) : PerClass ClassRecord := s.cfg.pba.classes.set id (askedClass p)

theorem budgetClassOwner_busy (hid : classOf (u8At p 0) = some id) (h : s.pst.writing ≠ none) :
    budgetClassOwner p s = (s, budgetClassReply .busy (u8At p 0) id s) := by
  simp only [budgetClassOwner, hid, storeRunning_of_writing h, if_true]

theorem budgetClassOwner_refuses (hid : classOf (u8At p 0) = some id) (hidle : s.pst.writing = none)
    (h : (askedClass p).ceiling < (askedClass p).floor ∨ s.cfg.pba.pmax / 2 < (floorsOf (askedClasses id p s)).sum) :
    budgetClassOwner p s = (s, budgetClassReply .badValue (u8At p 0) id s) := by
  have hbad : (decide ((askedClass p).ceiling < (askedClass p).floor) ||
      !floorsFit (s.cfg.pba.classes.set id (askedClass p)) s.cfg.pba.pmax) = true := by
    simp only [floorsFit, Bool.or_eq_true, decide_eq_true_iff, Bool.not_eq_true', decide_eq_false_iff_not, not_le]
    exact h
  simp only [budgetClassOwner, hid, storeRunning_of_idle hidle, hbad, Bool.false_eq_true, if_false, if_true]

theorem classClamped_code (p : Payload) :
    rc (if classClamped p then .clamped else .ok) =
      .u8 (if u8At p 1 ≤ 7 ∧ u16At p 2 ≤ 20000 ∧ u32At p 4 ≤ 120000 then 0 else 1) := by
  have hclamped : classClamped p = true ↔ ¬(u8At p 1 ≤ 7 ∧ u16At p 2 ≤ 20000 ∧ u32At p 4 ≤ 120000) := by
    simp only [classClamped, Bool.or_eq_true, decide_eq_true_iff]
    omega
  by_cases h : classClamped p = true
  · rw [if_pos h, if_neg (hclamped.1 h)]
    rfl
  · rw [if_neg h, if_pos (not_not.1 (mt hclamped.2 h))]
    rfl

/-- The grants follow the floors until the first allocation. -/
theorem followFloors_eq (s : State) :
    followFloors s =
      { s with pba := if s.pba.allocated then s.pba
          else { s.pba with pub := { s.pba.pub with grant := floorsOf s.cfg.pba.classes } } } := by
  unfold followFloors
  split <;> rfl

theorem budgetClassOwner_sets (hid : classOf (u8At p 0) = some id) (hidle : s.pst.writing = none)
    (hle : (askedClass p).floor ≤ (askedClass p).ceiling)
    (hfit : (floorsOf (askedClasses id p s)).sum ≤ s.cfg.pba.pmax / 2) :
    budgetClassOwner p s =
      ({ s with
          cfg := { s.cfg with pba := { s.cfg.pba with classes := askedClasses id p s } }
          pba := if s.pba.allocated then s.pba
            else { s.pba with pub := { s.pba.pub with grant := floorsOf (askedClasses id p s) } } },
        [.u8 (if u8At p 1 ≤ 7 ∧ u16At p 2 ≤ 20000 ∧ u32At p 4 ≤ 120000 then 0 else 1), .u8 (u8At p 0),
          .u8 ((askedClasses id p s).get id).priority, .u16 ((askedClasses id p s).get id).floor,
          .u32 ((askedClasses id p s).get id).ceiling, .u32 (floorsOf (askedClasses id p s)).sum]) := by
  have hgood : (decide ((askedClass p).ceiling < (askedClass p).floor) ||
      !floorsFit (s.cfg.pba.classes.set id (askedClass p)) s.cfg.pba.pmax) = false := by
    simp only [floorsFit, Bool.or_eq_false_iff, decide_eq_false_iff_not, not_lt, Bool.not_eq_false', decide_eq_true_iff]
    exact ⟨hle, hfit⟩
  simp only [budgetClassOwner, hid, storeRunning_of_idle hidle, hgood, Bool.false_eq_true, if_false, budgetClassReply,
    classClamped_code, followFloors_eq]
  rfl

theorem budgetClassOwner_noClass (h : 5 ≤ u8At p 0) :
    budgetClassOwner p s = budgetNoClass (if s.pst.writing = none then .badValue else .busy) p s := by
  by_cases hidle : s.pst.writing = none
  · simp only [budgetClassOwner, classOf_none h, storeRunning_of_idle hidle, if_pos hidle]
    rfl
  · simp only [budgetClassOwner, classOf_none h, storeRunning_of_writing hidle, if_neg hidle, if_true]

end BudgetClass

/-- Settles O53. -/
theorem budgetClassKeepsTheFloorSum : Obligations.BudgetClassKeepsTheFloorSum := by
  have hexec {p : Payload} {s t u : State} {fields : List Field} (htakes : Takes 0x3C p s) (hlen : p.length = 8)
      (howner : budgetClassOwner p (popIntake s) = (t, fields))
      (hu : putReply { type := 0x3C + 0x80#8, fields := fields } t = u) : exec (.budgetClass p) s = .next u :=
    exec_of_owner (i := .budgetClass p) rfl htakes (by rw [hlen]; rfl) howner hu
  refine ⟨fun p id s htakes hlen hid =>
    ⟨fun h => hexec htakes hlen (budgetClassOwner_busy (s := popIntake s) hid h) rfl,
      fun hidle h => hexec htakes hlen (budgetClassOwner_refuses (s := popIntake s) hid hidle h) rfl,
      fun hidle hle hfit => hexec htakes hlen (budgetClassOwner_sets (s := popIntake s) hid hidle hle hfit) rfl⟩,
    fun p s htakes hlen h => hexec htakes hlen (budgetClassOwner_noClass (s := popIntake s) h) ?_⟩
  rw [rc_busy_or]
  rfl

end Sys2Proof.Machine

namespace Sys2Proof.Machine

/-! ## Sharing the available current -/

section Shares

variable {cs : PerClass ClassRecord} {c : ClassId} {level : Nat}

/-! ### Values per class -/

theorem mem_classOrder (c : ClassId) : c ∈ classOrder := by cases c <;> decide

theorem perClass_sum (f : ClassId → Nat) : (perClass f).sum = (classOrder.map f).sum := by
  simp [classOrder, perClass, PerClass.sum, Nat.add_assoc]

@[simp] theorem perClass_of_get {α : Type} (v : PerClass α) : perClass v.get = v := rfl

theorem perClass_add_sum (f g : ClassId → Nat) : (perClass fun c => f c + g c).sum = (perClass f).sum + (perClass g).sum := by
  simp only [perClass_sum, List.sum_map_add]

theorem set_sum (v : PerClass Nat) (c : ClassId) (x : Nat) : (v.set c x).sum + v.get c = v.sum + x := by
  cases c <;> simp only [PerClass.set, perClass, PerClass.sum, PerClass.get, reduceCtorEq, if_true, if_false] <;> omega

theorem get_le_sum (v : PerClass Nat) (c : ClassId) : v.get c ≤ v.sum := by
  cases c <;> simp only [PerClass.get, PerClass.sum] <;> omega

/-- The values of the members of a list that meet a condition. -/
theorem sum_map_filter_eq {α : Type} (l : List α) (p : α → Prop) [DecidablePred p] (f : α → Nat) :
    ((l.filter fun x => decide (p x)).map f).sum = (l.map fun x => if p x then f x else 0).sum := by
  induction l with
  | nil => rfl
  | cons x l ih =>
    by_cases hx : p x
    · simp [hx, ih]
    · simp [hx, ih]

/-! ### The serving order -/

theorem mem_levelClasses : c ∈ levelClasses cs level ↔ (cs.get c).priority = level := by
  simp [levelClasses, mem_classOrder]

theorem mem_servingOrder : c ∈ servingOrder cs ↔ (cs.get c).priority ≤ 7 := by
  simp only [servingOrder, List.mem_flatMap, mem_levelClasses]
  have hlevels : ∀ n : Nat, n ∈ priorityLevels ↔ n ≤ 7 := by
    intro n
    simp only [priorityLevels, List.mem_cons, List.not_mem_nil, or_false]
    omega
  exact ⟨fun ⟨level, hlevel, hc⟩ => hc ▸ (hlevels level).1 hlevel, fun h => ⟨_, (hlevels _).2 h, rfl⟩⟩

theorem servingOrder_nodup (cs : PerClass ClassRecord) : (servingOrder cs).Nodup := by
  refine List.nodup_flatMap.2 ⟨fun level _ => List.Nodup.filter _ (by decide), ?_⟩
  refine List.Nodup.pairwise_of_forall_ne (by decide) fun m _ n _ hne => ?_
  refine List.disjoint_left.2 fun c hm hn => hne ?_
  rw [← mem_levelClasses.1 hm, ← mem_levelClasses.1 hn]

/-- With every priority in range each class is served. -/
theorem servingOrder_perm (h : ∀ c, (cs.get c).priority ≤ 7) : (servingOrder cs).Perm classOrder :=
  (List.perm_ext_iff_of_nodup (servingOrder_nodup cs) (by decide)).2 fun c =>
    ⟨fun _ => mem_classOrder c, fun _ => mem_servingOrder.2 (h c)⟩

/-! ### The floors -/

/-- One class takes its floor, as far as the current goes. -/
def takeFloor (cs : PerClass ClassRecord) (x : ShareOut) (c : ClassId) : ShareOut :=
  { given := x.given.set c (min (cs.get c).floor x.left), left := x.left - min (cs.get c).floor x.left }

theorem shareFloors_eq (cs : PerClass ClassRecord) (a : Nat) :
    shareFloors cs a = (servingOrder cs).foldl (takeFloor cs) { given := perClass fun _ => 0, left := a } := rfl

/-- Floors taken one after the other: nothing is lost, no class takes more than its floor, and where all fit each takes its own. -/
theorem takeFloor_foldl (cs : PerClass ClassRecord) (l : List ClassId) (hl : l.Nodup) (x : ShareOut) (hx : ∀ c ∈ l, x.given.get c = 0) :
    let y := l.foldl (takeFloor cs) x
    y.given.sum + y.left = x.given.sum + x.left ∧ (∀ c, c ∉ l → y.given.get c = x.given.get c) ∧
      (∀ c ∈ l, y.given.get c ≤ (cs.get c).floor) ∧
      ((l.map fun c => (cs.get c).floor).sum ≤ x.left →
        (∀ c ∈ l, y.given.get c = (cs.get c).floor) ∧ y.left = x.left - (l.map fun c => (cs.get c).floor).sum) := by
  induction l generalizing x with
  | nil => exact ⟨rfl, fun _ _ => rfl, by simp, fun _ => ⟨by simp, by simp⟩⟩
  | cons d l ih =>
    obtain ⟨hd, hl'⟩ := List.nodup_cons.1 hl
    have hrest : ∀ c ∈ l, (takeFloor cs x d).given.get c = 0 := fun c hc => by
      have hne : c ≠ d := fun heq => hd (heq ▸ hc)
      rw [takeFloor, perClass_set_get, if_neg hne]
      exact hx c (List.mem_cons_of_mem _ hc)
    obtain ⟨hsum, hother, hle, hfits⟩ := ih hl' _ hrest
    have hzero : x.given.get d = 0 := hx d List.mem_cons_self
    have hset := set_sum x.given d (min (cs.get d).floor x.left)
    have hself : (takeFloor cs x d).given.get d = min (cs.get d).floor x.left := by rw [takeFloor, perClass_set_get, if_pos rfl]
    have hd' := (hother d hd).trans hself
    simp only [List.foldl_cons, List.map_cons, List.sum_cons]
    refine ⟨hsum.trans ?_, fun c hc => ?_, fun c hc => ?_, fun hfit => ?_⟩
    · simp only [takeFloor]
      omega
    · obtain ⟨hne, hc'⟩ := List.ne_and_not_mem_of_not_mem_cons hc
      rw [hother c hc', takeFloor, perClass_set_get, if_neg hne]
    · rcases List.mem_cons.1 hc with rfl | hc
      · rw [hd']
        exact Nat.min_le_left _ _
      · exact hle c hc
    · obtain ⟨hall, hleft⟩ := hfits (by simp only [takeFloor]; omega)
      refine ⟨fun c hc => ?_, by rw [hleft]; simp only [takeFloor]; omega⟩
      rcases List.mem_cons.1 hc with rfl | hc
      · rw [hd']
        omega
      · exact hall c hc

theorem shareFloors_total (cs : PerClass ClassRecord) (a : Nat) : (shareFloors cs a).given.sum + (shareFloors cs a).left = a := by
  obtain ⟨hsum, -⟩ := takeFloor_foldl cs _ (servingOrder_nodup cs) { given := perClass fun _ => 0, left := a } fun c _ => by simp
  exact hsum.trans (by simp [perClass, PerClass.sum])

theorem shareFloors_le (cs : PerClass ClassRecord) (a : Nat) (c : ClassId) : (shareFloors cs a).given.get c ≤ (cs.get c).floor := by
  obtain ⟨-, hother, hle, -⟩ :=
    takeFloor_foldl cs _ (servingOrder_nodup cs) { given := perClass fun _ => 0, left := a } fun c _ => by simp
  by_cases hc : c ∈ servingOrder cs
  · exact hle c hc
  · rw [shareFloors_eq, hother c hc]
    simp

/-- Where every class is served and the floors fit, each class gets its floor. -/
theorem shareFloors_fit {a : Nat} (hpriority : ∀ c, (cs.get c).priority ≤ 7) (hfit : (floorsOf cs).sum ≤ a) :
    (∀ c, (shareFloors cs a).given.get c = (cs.get c).floor) ∧ (shareFloors cs a).left = a - (floorsOf cs).sum := by
  have hsum : ((servingOrder cs).map fun c => (cs.get c).floor).sum = (floorsOf cs).sum := by
    rw [floorsOf, perClass_sum]
    exact ((servingOrder_perm hpriority).map _).sum_eq
  obtain ⟨-, -, -, hfits⟩ :=
    takeFloor_foldl cs _ (servingOrder_nodup cs) { given := perClass fun _ => 0, left := a } fun c _ => by simp
  obtain ⟨hall, hleft⟩ := hfits (by rw [hsum]; exact hfit)
  exact ⟨fun c => hall c (mem_servingOrder.2 (hpriority c)), hleft.trans (by rw [hsum])⟩

/-! ### The extras -/

theorem levelSum_congr {v w : PerClass Nat} (h : ∀ c, (cs.get c).priority = level → v.get c = w.get c) :
    levelSum cs level v = levelSum cs level w := by
  unfold levelSum
  congr 1
  refine List.map_congr_left fun c _ => ?_
  split
  · next hc => exact h c hc
  · rfl

/-- The extras of one level from the current at its start. -/
def levelExtras (cs : PerClass ClassRecord) (wants : PerClass Nat) (left level : Nat) : PerClass Nat :=
  perClass fun c => if (cs.get c).priority = level then levelExtra left (levelSum cs level wants) (wants.get c) else 0

theorem groupWant_eq (cs : PerClass ClassRecord) (wants : PerClass Nat) (level : Nat) :
    groupWant wants (levelClasses cs level) = levelSum cs level wants :=
  sum_map_filter_eq classOrder (fun c => (cs.get c).priority = level) wants.get

theorem serveLevel_eq (cs : PerClass ClassRecord) (wants : PerClass Nat) (x : ShareOut) (level : Nat) :
    serveLevel cs wants x level =
      { given := perClass fun c => x.given.get c + (levelExtras cs wants x.left level).get c
        left := x.left - (levelExtras cs wants x.left level).sum } := by
  simp only [serveLevel, groupWant_eq, mem_levelClasses, levelExtras, perClass_get]

theorem levelExtra_le (r w want : Nat) : levelExtra r w want ≤ want := by
  unfold levelExtra
  split
  · exact le_rfl
  · next h =>
    exact Nat.div_le_of_le_mul (by nlinarith)

/-- The extras of a level are its sum. -/
theorem levelExtras_sum (cs : PerClass ClassRecord) (wants : PerClass Nat) (left level : Nat) :
    (levelExtras cs wants left level).sum = levelSum cs level (levelExtras cs wants left level) := by
  rw [levelSum, levelExtras, perClass_sum]
  congr 1
  refine List.map_congr_left fun c _ => ?_
  rw [perClass_get]
  split <;> rfl

/-- Shares of an amount in proportion do not exceed it. -/
theorem sum_shares_le {α : Type} (l : List α) (f : α → Nat) (r w : Nat) : (l.map fun x => r * f x / w).sum ≤ r * (l.map f).sum / w := by
  induction l with
  | nil => simp
  | cons x l ih =>
    simp only [List.map_cons, List.sum_cons, Nat.mul_add]
    exact le_trans (Nat.add_le_add_left ih _) Nat.div_add_div_le_add_div

/-- A level is given no more than there is at its start. -/
theorem levelExtras_le (cs : PerClass ClassRecord) (wants : PerClass Nat) (left level : Nat) :
    (levelExtras cs wants left level).sum ≤ left := by
  have hvalues : (levelExtras cs wants left level).sum =
      (classOrder.map fun c => levelExtra left (levelSum cs level wants) (if (cs.get c).priority = level then wants.get c else 0)).sum := by
    rw [levelExtras, perClass_sum]
    congr 1
    refine List.map_congr_left fun c _ => ?_
    split
    · rfl
    · exact (Nat.le_zero.1 (levelExtra_le ..)).symm
  rw [hvalues]
  by_cases h : levelSum cs level wants ≤ left
  · simp only [levelExtra, if_pos h]
    exact h
  · simp only [levelExtra, if_neg h]
    refine (sum_shares_le classOrder _ left (levelSum cs level wants)).trans ?_
    exact (Nat.mul_div_cancel left (show 0 < levelSum cs level wants by omega)).le

/-- The share-out after the levels below `n`. -/
def servedBelow (cs : PerClass ClassRecord) (wants : PerClass Nat) (r : Nat) : Nat → ShareOut
  | 0 => { given := perClass fun _ => 0, left := r }
  | n + 1 => serveLevel cs wants (servedBelow cs wants r n) n

theorem shareWants_eq (cs : PerClass ClassRecord) (wants : PerClass Nat) (r : Nat) :
    shareWants cs wants r = servedBelow cs wants r 8 := rfl

theorem servedBelow_total (cs : PerClass ClassRecord) (wants : PerClass Nat) (r n : Nat) :
    (servedBelow cs wants r n).given.sum + (servedBelow cs wants r n).left = r := by
  induction n with
  | zero => simp [servedBelow, perClass, PerClass.sum]
  | succ n ih =>
    have hle := levelExtras_le cs wants (servedBelow cs wants r n).left n
    rw [servedBelow, serveLevel_eq, perClass_add_sum, perClass_of_get, perClass_of_get]
    dsimp only
    omega

/-- A class is given its extra at the level of its priority, and at no other. -/
theorem servedBelow_given (cs : PerClass ClassRecord) (wants : PerClass Nat) (r n : Nat) (c : ClassId) :
    (servedBelow cs wants r n).given.get c =
      if (cs.get c).priority < n then
        levelExtra (servedBelow cs wants r (cs.get c).priority).left (levelSum cs (cs.get c).priority wants) (wants.get c)
      else 0 := by
  induction n with
  | zero => simp [servedBelow]
  | succ n ih =>
    rw [servedBelow, serveLevel_eq, perClass_get, ih, levelExtras, perClass_get]
    rcases Nat.lt_trichotomy (cs.get c).priority n with h | h | h
    · rw [if_pos h, if_neg (by omega), if_pos (by omega), Nat.add_zero]
    · rw [if_neg (by omega), if_pos h, if_pos (by omega), Nat.zero_add, h]
    · rw [if_neg (by omega), if_neg (by omega), if_neg (by omega)]

theorem servedBelow_left (cs : PerClass ClassRecord) (wants : PerClass Nat) (r n : Nat) :
    (servedBelow cs wants r n).left =
      (servedBelow cs wants r (n + 1)).left + (levelExtras cs wants (servedBelow cs wants r n).left n).sum := by
  have hle := levelExtras_le cs wants (servedBelow cs wants r n).left n
  rw [servedBelow, serveLevel_eq]
  dsimp only
  omega

theorem shareWants_le (cs : PerClass ClassRecord) (wants : PerClass Nat) (r : Nat) (c : ClassId) :
    (shareWants cs wants r).given.get c ≤ wants.get c := by
  rw [shareWants_eq, servedBelow_given]
  split
  · exact levelExtra_le ..
  · exact Nat.zero_le _

/-- The extras are served by priority. -/
theorem shareWants_served (cs : PerClass ClassRecord) (wants : PerClass Nat) (r : Nat) :
    ServedByPriority cs wants (shareWants cs wants r).given r (shareWants cs wants r).left := by
  refine ⟨fun n => (servedBelow cs wants r n).left, rfl, rfl, fun level hlevel => ?_⟩
  have hextra : ∀ c, (cs.get c).priority = level →
      (shareWants cs wants r).given.get c = levelExtra (servedBelow cs wants r level).left (levelSum cs level wants) (wants.get c) := by
    intro c hc
    rw [shareWants_eq, servedBelow_given, if_pos (by omega), hc]
  refine ⟨hextra, (servedBelow_left cs wants r level).trans ?_⟩
  have hsame : levelSum cs level (levelExtras cs wants (servedBelow cs wants r level).left level) =
      levelSum cs level (shareWants cs wants r).given := levelSum_congr fun c hc => by
    rw [hextra c hc, levelExtras, perClass_get, if_pos hc]
  rw [levelExtras_sum, hsame]

end Shares

end Sys2Proof.Machine

namespace Sys2Proof.Machine

/-! ## The allocation -/

section Allocation

variable (cfg : PbaCfg) (minimum : Nat) (stage : Stage) (sweep : BitVec 32) (demand : PerClass Nat)

/-- The floors of a class under a stage: 0 in CUTOFF. -/
def floorUnder (stage : Stage) (cs : PerClass ClassRecord) (c : ClassId) : Nat := if stage = .cutoff then 0 else (cs.get c).floor

theorem allocationOf_total :
    (allocationOf cfg minimum stage sweep demand).grant.sum + (allocationOf cfg minimum stage sweep demand).leftover =
      (allocationOf cfg minimum stage sweep demand).available := by
  have hfloors := shareFloors_total cfg.classes (availableCurrent cfg.pmax stage)
  have hshares := servedBelow_total cfg.classes (allocationOf cfg minimum stage sweep demand).want
    (shareFloors cfg.classes (availableCurrent cfg.pmax stage)).left 8
  have hgrant := perClass_add_sum (shareFloors cfg.classes (availableCurrent cfg.pmax stage)).given.get
    (shareWants cfg.classes (allocationOf cfg minimum stage sweep demand).want
      (shareFloors cfg.classes (availableCurrent cfg.pmax stage)).left).given.get
  rw [shareWants_eq, perClass_of_get, perClass_of_get] at hgrant
  have hsum : (allocationOf cfg minimum stage sweep demand).grant.sum = _ := hgrant
  have hleft : (allocationOf cfg minimum stage sweep demand).leftover = (servedBelow cfg.classes
    (allocationOf cfg minimum stage sweep demand).want (shareFloors cfg.classes (availableCurrent cfg.pmax stage)).left 8).left := rfl
  have havailable : (allocationOf cfg minimum stage sweep demand).available = availableCurrent cfg.pmax stage := rfl
  omega

theorem allocationOf_grant (c : ClassId) :
    (allocationOf cfg minimum stage sweep demand).grant.get c =
      (shareFloors cfg.classes (availableCurrent cfg.pmax stage)).given.get c +
        (shareWants cfg.classes (allocationOf cfg minimum stage sweep demand).want
          (shareFloors cfg.classes (availableCurrent cfg.pmax stage)).left).given.get c := perClass_get _ c

theorem allocationOf_want (c : ClassId) :
    (allocationOf cfg minimum stage sweep demand).want.get c =
      wantOf (cfg.classes.get c) (demand.get c) ((shareFloors cfg.classes (availableCurrent cfg.pmax stage)).given.get c) :=
  perClass_get _ c

theorem allocationOf_le_ceiling (h : ∀ c, (cfg.classes.get c).floor ≤ (cfg.classes.get c).ceiling) (c : ClassId) :
    (allocationOf cfg minimum stage sweep demand).grant.get c ≤ (cfg.classes.get c).ceiling := by
  have hfloor := shareFloors_le cfg.classes (availableCurrent cfg.pmax stage) c
  have hextra := shareWants_le cfg.classes (allocationOf cfg minimum stage sweep demand).want
    (shareFloors cfg.classes (availableCurrent cfg.pmax stage)).left c
  have hceiling := h c
  rw [allocationOf_want, wantOf] at hextra
  rw [allocationOf_grant]
  omega

/-- Under every stage but CUTOFF half of Pmax is available. -/
theorem half_le_available {stage : Stage} (h : stage ≠ .cutoff) (pmax : Nat) : pmax / 2 ≤ availableCurrent pmax stage := by
  cases stage <;> simp only [availableCurrent, ne_eq, not_true] at h ⊢ <;> omega

/-- Where all classes are served and the floors fit under half of Pmax, the floor grants are the floors, and 0 in CUTOFF. -/
theorem floorGrants (hpriority : ∀ c, (cfg.classes.get c).priority ≤ 7) (hfit : (floorsOf cfg.classes).sum ≤ cfg.pmax / 2) :
    (∀ c, (shareFloors cfg.classes (availableCurrent cfg.pmax stage)).given.get c = floorUnder stage cfg.classes c) ∧
      (shareFloors cfg.classes (availableCurrent cfg.pmax stage)).left =
        availableCurrent cfg.pmax stage - (if stage = .cutoff then 0 else (floorsOf cfg.classes).sum) := by
  by_cases hcutoff : stage = .cutoff
  · subst hcutoff
    have htotal := shareFloors_total cfg.classes (availableCurrent cfg.pmax .cutoff)
    have hnone : availableCurrent cfg.pmax .cutoff = 0 := rfl
    refine ⟨fun c => ?_, by rw [if_pos rfl]; omega⟩
    have hle := get_le_sum (shareFloors cfg.classes (availableCurrent cfg.pmax .cutoff)).given c
    rw [floorUnder, if_pos rfl]
    omega
  · obtain ⟨hall, hleft⟩ := shareFloors_fit hpriority (hfit.trans (half_le_available hcutoff cfg.pmax))
    simp only [floorUnder, if_neg hcutoff]
    exact ⟨hall, hleft⟩

/-- Each grant is the floor and an extra, and the extras are served by priority. -/
theorem allocationOf_shares (hpriority : ∀ c, (cfg.classes.get c).priority ≤ 7)
    (hfit : (floorsOf cfg.classes).sum ≤ cfg.pmax / 2) :
    ∃ extra : PerClass Nat,
      (∀ c, (allocationOf cfg minimum stage sweep demand).grant.get c = floorUnder stage cfg.classes c + extra.get c) ∧
        ServedByPriority cfg.classes (allocationOf cfg minimum stage sweep demand).want extra
          (availableCurrent cfg.pmax stage - (if stage = .cutoff then 0 else (floorsOf cfg.classes).sum))
          (allocationOf cfg minimum stage sweep demand).leftover := by
  obtain ⟨hfloors, hleft⟩ := floorGrants cfg stage hpriority hfit
  have hserved := shareWants_served cfg.classes (allocationOf cfg minimum stage sweep demand).want
    (shareFloors cfg.classes (availableCurrent cfg.pmax stage)).left
  have hleftover : (allocationOf cfg minimum stage sweep demand).leftover =
      (shareWants cfg.classes (allocationOf cfg minimum stage sweep demand).want
        (shareFloors cfg.classes (availableCurrent cfg.pmax stage)).left).left := rfl
  rw [hleftover, ← hleft]
  refine ⟨(shareWants cfg.classes (allocationOf cfg minimum stage sweep demand).want
    (shareFloors cfg.classes (availableCurrent cfg.pmax stage)).left).given, fun c => ?_, hserved⟩
  rw [allocationOf_grant, hfloors]

theorem lightScaleOf_le (demand grant : Nat) : lightScaleOf demand grant ≤ 1024 := by
  unfold lightScaleOf
  split <;> omega

theorem servoFactorOf_le (demand grant : Nat) : servoFactorOf demand grant ≤ 1024 := by
  unfold servoFactorOf
  split
  · exact le_rfl
  · exact Nat.div_le_of_le_mul (by omega)

end Allocation

section Sweep

variable {s : State}

theorem exec_sweepCompletion (x : SweepSamples) (hpower : s.power = .running) :
    exec (.sweepCompletion x) s = .next (sweepComplete x s) := congrArg Host.Outcome.next (whenRunning_runs hpower)

@[simp] theorem sweepComplete_bmn (x : SweepSamples) (s : State) : (sweepComplete x s).bmn = sweptBmn x s := by simp [sweepComplete]

theorem sweptBmn_pub_stage (x : SweepSamples) (s : State) : (sweptBmn x s).pub.stage = (sweptBmn x s).stage :=
  bmnSweep_pub_stage ..

/-- A sweep completion publishes the allocation of what it leaves. -/
theorem sweepComplete_pba (x : SweepSamples) (s : State) :
    (sweepComplete x s).pba =
      { pub := allocationOf s.cfg.pba s.cfg.wnc.minimum (sweptBmn x s).stage (sweptBmn x s).pub.sweep (demandsOf (sweepComplete x s))
        allocated := true } := by
  have hdemands : demandsOf (sweepComplete x s) = demandsOf (reportStage s.bmn.stage (s.withBmn (sweptBmn x s))) := by
    simp only [demandsOf, lightsDemand, mapOf, lightOfState, sweepComplete, allocate_keeps]
  have hbmn : (reportStage s.bmn.stage (s.withBmn (sweptBmn x s))).bmn = sweptBmn x s := by simp
  have hcfg : (reportStage s.bmn.stage (s.withBmn (sweptBmn x s))).cfg = s.cfg := by simp
  rw [hdemands]
  simp only [sweepComplete, allocate, withWnc_pba, withPba_pba, hbmn, hcfg, sweptBmn_pub_stage]

theorem sweepComplete_grantUnread (x : SweepSamples) (s : State) : (sweepComplete x s).wnc.grantUnread = true := rfl

end Sweep

/-- Settles O54: the floors, then the extras by priority, divide the available current. -/
theorem grantsNeverExceedTheAvailable : Obligations.GrantsNeverExceedTheAvailable := by
  intro x s hpower
  refine ⟨_, exec_sweepCompletion x hpower, ?_⟩
  have hstage : (sweepComplete x s).bmn.stage = (sweptBmn x s).stage := by rw [sweepComplete_bmn]
  have hpubStage : (sweepComplete x s).bmn.pub.stage = (sweptBmn x s).stage := by rw [sweepComplete_bmn, sweptBmn_pub_stage]
  have htotal := allocationOf_total s.cfg.pba s.cfg.wnc.minimum (sweptBmn x s).stage (sweptBmn x s).pub.sweep (demandsOf (sweepComplete x s))
  have hdemand : demandsOf (sweepComplete x s) =
      { servo := min x.servoRail 65000, driveF := min x.df 65000, driveR := min x.dr 65000, winch := min x.winch 65000
        lights := lightsDemand (sweepComplete x s) } := by
    rw [demandsOf, sweepComplete_bmn]
    rfl
  simp only [sweepComplete_pba, hstage, hpubStage]
  refine ⟨trivial, sweepComplete_grantUnread x s, rfl, rfl, by rw [sweepComplete_bmn]; rfl, ?available, htotal, fun hcutoff => ?cutoff,
    fun h => allocationOf_le_ceiling _ _ _ _ _ h, fun hpriority hfit hcutoff c => ?floors, hdemand, fun hpriority hfit => ?served, rfl, rfl, rfl,
    lightScaleOf_le .., servoFactorOf_le .., fun h => if_pos h, fun h => if_neg (not_le.2 h)⟩
  case available => cases (sweptBmn x s).stage <;> rfl
  case cutoff =>
    have havailable : availableCurrent s.cfg.pba.pmax (sweptBmn x s).stage = 0 := by
      rw [hcutoff]
      rfl
    have hnone : (allocationOf s.cfg.pba s.cfg.wnc.minimum (sweptBmn x s).stage (sweptBmn x s).pub.sweep
        (demandsOf (sweepComplete x s))).available = 0 := havailable
    omega
  case floors =>
    have hfloor := (floorGrants s.cfg.pba (sweptBmn x s).stage hpriority hfit).1 c
    rw [floorUnder, if_neg hcutoff] at hfloor
    rw [allocationOf_grant, hfloor]
    exact Nat.le_add_right _ _
  case served =>
    refine ⟨fun c => ?_, allocationOf_shares _ _ _ _ _ hpriority hfit⟩
    rw [allocationOf_want, (floorGrants s.cfg.pba (sweptBmn x s).stage hpriority hfit).1 c]
    rfl

end Sys2Proof.Machine

namespace Sys2Proof.Machine

/-! ## The cells of a sweep -/

section Cells

variable {cfg : BmnCfg} {x : SweepSamples} {b : Bmn} {n : Nat}

/-! ### The cell count and the tap check -/

theorem cellCountStep_eq (cfg : BmnCfg) (pack : Nat) (b : Bmn) :
    let n := sweepCellCount cfg pack b
    cellCountStep cfg pack b =
      { b with
        filters := if n = b.cellCount then b.filters else Vector.replicate 4 []
        badRun := if n = b.cellCount then b.badRun else 0
        goodRun := if n = b.cellCount then b.goodRun else 0
        cellCount := n, autoPending := false, auto := if cfg.cellCount ≠ 0 then false else b.autoPending || b.auto } := by
  intro n
  simp only [cellCountStep]
  by_cases h : n = b.cellCount
  · simp only [n] at h
    simp only [n, h, if_true]
  · simp only [n] at h
    simp only [n, h, if_false]
    rfl

/-- The count is 2 to 4. -/
theorem sweepCellCount_mem (hlow : 2 ≤ b.cellCount) (hhigh : b.cellCount ≤ 4)
    (hcfg : cfg.cellCount = 0 ∨ (2 ≤ cfg.cellCount ∧ cfg.cellCount ≤ 4)) (pack : Nat) :
    2 ≤ sweepCellCount cfg pack b ∧ sweepCellCount cfg pack b ≤ 4 := by
  unfold sweepCellCount autoCellCount
  split
  · omega
  · split <;> omega

/-- The run of bad, and of good, sweeps at a completion. -/
def badSweeps (x : SweepSamples) (b : Bmn) : Nat := if tapLow x b.cellCount then min (b.badRun + 1) 255 else 0

def goodSweeps (x : SweepSamples) (b : Bmn) : Nat := if tapLow x b.cellCount then 0 else min (b.goodRun + 1) 255

/-- The flag after the tap check. -/
def tapFaultAfter (x : SweepSamples) (b : Bmn) : Bool :=
  if b.tapFault then decide (goodSweeps x b < 25) else decide (25 ≤ badSweeps x b)

/-- A change of the flag empties the filters and the runs. -/
theorem tapFaultStep_eq (x : SweepSamples) (b : Bmn) :
    tapFaultStep x b =
      { b with
        tapFault := tapFaultAfter x b
        filters := if tapFaultAfter x b = b.tapFault then b.filters else Vector.replicate 4 []
        badRun := if tapFaultAfter x b = b.tapFault then badSweeps x b else 0
        goodRun := if tapFaultAfter x b = b.tapFault then goodSweeps x b else 0 } := by
  have hstep : tapFaultStep x b =
      if !b.tapFault && decide (25 ≤ badSweeps x b) then { emptyFilters b with tapFault := true }
      else if b.tapFault && decide (25 ≤ goodSweeps x b) then { emptyFilters b with tapFault := false }
      else { b with badRun := badSweeps x b, goodRun := goodSweeps x b } := rfl
  rw [hstep]
  cases hf : b.tapFault with
  | false =>
    by_cases hbad : 25 ≤ badSweeps x b
    · simp [tapFaultAfter, hf, hbad, emptyFilters]
    · simp [tapFaultAfter, hf, hbad]
  | true =>
    by_cases hgood : 25 ≤ goodSweeps x b
    · simp [tapFaultAfter, hf, hgood, emptyFilters]
    · simp [tapFaultAfter, hf, hgood, not_le.1 hgood]

/-! ### Readings and filters -/

/-- The three taps. -/
def tapsOf (x : SweepSamples) : List Nat := [x.tap1, x.tap2, x.tap3]

theorem tapLow_eq (hlow : 2 ≤ n) (hhigh : n ≤ 4) : tapLow x n = ((tapsOf x).take (n - 1)).any fun v => decide (v < 500) := by
  interval_cases n <;> rfl

theorem tapOf_eq {k : Nat} (h : k < 3) : tapOf x (k + 1) = (tapsOf x).getD k 0 := by
  interval_cases k <;> rfl

theorem rawReading_eq (hlow : 2 ≤ n) (hhigh : n ≤ 4) (fault : Bool) {i : Nat} (hi : i < n) :
    rawReading x n fault (i + 1) =
      if fault then x.pack / n
      else if i = 0 then (tapsOf x).getD 0 0
      else if i + 1 < n then (tapsOf x).getD i 0 - (tapsOf x).getD (i - 1) 0 else x.pack - (tapsOf x).getD (n - 2) 0 := by
  have hlast : tapOf x (n - 1) = (tapsOf x).getD (n - 2) 0 := by
    rw [← tapOf_eq (by omega)]
    congr 1
    omega
  cases i with
  | zero => simp [rawReading, tapsOf]
  | succ i =>
    have hne : ¬i + 1 + 1 = 1 := by omega
    by_cases hnext : i + 1 + 1 < n
    · simp only [rawReading, hne, hnext, if_true, Nat.succ_ne_zero, if_false, Nat.add_sub_cancel,
        tapOf_eq (x := x) (show i + 1 < 3 by omega), tapOf_eq (x := x) (show i < 3 by omega)]
    · simp only [rawReading, hne, hnext, Nat.succ_ne_zero, if_false, hlast]

theorem pushReading_eq {f : List Nat} (h : f.length ≤ 4) (r : Nat) : pushReading f r = f.drop (f.length - 3) ++ [r] := by
  unfold pushReading
  split
  · have hlen : f.length - 3 = 1 := by omega
    rw [hlen, List.drop_one]
  · have hlen : f.length - 3 = 0 := by omega
    rw [hlen, List.drop_zero]

/-- A filter that takes its reading. -/
theorem filterStep_taken (x : SweepSamples) {b : Bmn} {i : Fin 4} (hi : i.val < b.cellCount) :
    (filterStep x b).filters[i] = pushReading b.filters[i] (rawReading x b.cellCount b.tapFault (i.val + 1)) := by
  simp [filterStep, hi]

/-! ### The weakest cell -/

/-- The weakest of the first cells: none is lower, and none before it as low. -/
theorem weakestCell_spec (b : Bmn) (n : Nat) (hn : 1 ≤ n) :
    (1 ≤ weakestCell b n ∧ weakestCell b n ≤ n) ∧ (∀ k, 1 ≤ k → k ≤ n → cellMv b (weakestCell b n) ≤ cellMv b k) ∧
      ∀ k, 1 ≤ k → k < weakestCell b n → cellMv b (weakestCell b n) < cellMv b k := by
  induction n, hn using Nat.le_induction with
  | base =>
    refine ⟨⟨le_rfl, le_rfl⟩, fun k hk hk' => ?_, fun k hk hk' => ?_⟩
    · obtain rfl : k = 1 := by omega
      exact le_rfl
    · simp only [weakestCell] at hk'
      omega
  | succ n hn ih =>
    obtain ⟨m, rfl⟩ : ∃ m, n = m + 1 := ⟨n - 1, by omega⟩
    obtain ⟨⟨hlow, hhigh⟩, hle, hlt⟩ := ih
    by_cases h : cellMv b (m + 2) < cellMv b (weakestCell b (m + 1))
    · have hw : weakestCell b (m + 1 + 1) = m + 2 := if_pos h
      rw [hw]
      refine ⟨by omega, fun k hk hk' => ?_, fun k hk hk' => ?_⟩
      · rcases Nat.lt_or_eq_of_le hk' with hbefore | rfl
        · exact (h.trans_le (hle k hk (by omega))).le
        · exact le_rfl
      · exact h.trans_le (hle k hk (by omega))
    · have hw : weakestCell b (m + 1 + 1) = weakestCell b (m + 1) := if_neg h
      rw [hw]
      refine ⟨by omega, fun k hk hk' => ?_, hlt⟩
      rcases Nat.lt_or_eq_of_le hk' with hbefore | rfl
      · exact hle k hk (by omega)
      · exact not_lt.1 h

theorem cellMv_congr {b' : Bmn} (h : b'.filters = b.filters) (k : Nat) : cellMv b' k = cellMv b k := by rw [cellMv, cellMv, h]

theorem weakestCell_congr {b' : Bmn} (h : b'.filters = b.filters) (n : Nat) : weakestCell b' n = weakestCell b n := by
  match n with
  | 0 => rfl
  | 1 => rfl
  | n + 2 => simp only [weakestCell, cellMv_congr h, weakestCell_congr h (n + 1)]

theorem cellMv_at (b : Bmn) (i : Fin 4) : cellMv b (i.val + 1) = filteredMv b.filters[i] := by
  simp [cellMv]

/-! ### The stage leaves the cells alone -/

theorem stageStep_keeps (cfg : BmnCfg) (v : Nat) (b : Bmn) :
    (stageStep cfg v b).cellCount = b.cellCount ∧ (stageStep cfg v b).tapFault = b.tapFault ∧
      (stageStep cfg v b).autoPending = b.autoPending ∧ (stageStep cfg v b).auto = b.auto ∧
      (stageStep cfg v b).badRun = b.badRun ∧ (stageStep cfg v b).goodRun = b.goodRun ∧ (stageStep cfg v b).filters = b.filters ∧
      (stageStep cfg v b).charge = b.charge ∧ (stageStep cfg v b).pub = b.pub ∧
      (stageStep cfg v b).warnRun = b.warnRun ∧ (stageStep cfg v b).limitRun = b.limitRun ∧
      (stageStep cfg v b).shedRun = b.shedRun ∧ (stageStep cfg v b).cutoffRun = b.cutoffRun := by
  unfold stageStep
  dsimp only
  repeat' split
  all_goals exact ⟨rfl, rfl, rfl, rfl, rfl, rfl, rfl, rfl, rfl, rfl, rfl, rfl, rfl⟩

/-- What a sweep leaves of the cells, and publishes of them. -/
theorem bmnSweep_cells (cfg : BmnCfg) (x : SweepSamples) (b : Bmn) :
    let c := cellsStep cfg x b
    let t := bmnSweep cfg x b
    t.cellCount = c.cellCount ∧ t.tapFault = c.tapFault ∧ t.autoPending = c.autoPending ∧ t.auto = c.auto ∧ t.badRun = c.badRun ∧
      t.goodRun = c.goodRun ∧ t.filters = c.filters ∧ t.charge = chargeAfter x.packCurrent c.charge ∧
      t.pub.cells = cellPlaces c ∧ t.pub.weakest = weakestCell c c.cellCount ∧ t.pub.minVc = lowestCell cfg x.packCurrent c ∧
      t.pub.sweep = c.pub.sweep + 1 := by
  intro c t
  obtain ⟨hcount, hfault, hpending, hauto, hbad, hgood, hfilters, hcharge, hpub, -⟩ :=
    stageStep_keeps cfg (lowestCell cfg x.packCurrent c) (worseningStep cfg (lowestCell cfg x.packCurrent c) c)
  have htfilters : t.filters = c.filters := hfilters
  have htcount : t.cellCount = c.cellCount := hcount
  have hplaces : t.pub.cells = cellPlaces t := rfl
  refine ⟨hcount, hfault, hpending, hauto, hbad, hgood, hfilters, congrArg (chargeAfter x.packCurrent) hcharge, ?_, ?_, rfl,
    congrArg (fun p : BatterySet => p.sweep + 1) hpub⟩
  · rw [hplaces, cellPlaces, cellPlaces, htcount, htfilters]
  · exact (weakestCell_congr (by exact hfilters) _).trans (congrArg (weakestCell c) hcount)

end Cells

end Sys2Proof.Machine

namespace Sys2Proof.Machine

section Cells

variable {cfg : BmnCfg} {x : SweepSamples} {b : Bmn}

/-- The tap fault flag after a sweep whose taps read low or not, from the runs before it. -/
def faultAfter (low fault : Bool) (bad good : Nat) : Bool :=
  if fault then decide ((if low then 0 else min (good + 1) 255) < 25) else decide (25 ≤ (if low then min (bad + 1) 255 else 0))

/-- The cells after the count, the tap check and the readings. -/
theorem cellsStep_spec {low : Bool} (hlow : tapLow x (sweepCellCount cfg x.pack b) = low) (hfilters : ∀ i : Fin 4, b.filters[i].length ≤ 4) :
    let n := sweepCellCount cfg x.pack b
    let bad := if n = b.cellCount then b.badRun else 0
    let good := if n = b.cellCount then b.goodRun else 0
    let fault := faultAfter low b.tapFault bad good
    let c := cellsStep cfg x b
    c.cellCount = n ∧ c.tapFault = fault ∧ c.autoPending = false ∧
      c.auto = (if cfg.cellCount ≠ 0 then false else b.autoPending || b.auto) ∧
      c.badRun = (if fault = b.tapFault then (if low then min (bad + 1) 255 else 0) else 0) ∧
      c.goodRun = (if fault = b.tapFault then (if low then 0 else min (good + 1) 255) else 0) ∧ c.charge = b.charge ∧ c.pub = b.pub ∧
      ∀ i : Fin 4, i.val < n → c.filters[i] =
        (if n = b.cellCount ∧ fault = b.tapFault then b.filters[i].drop (b.filters[i].length - 3) else []) ++
          [rawReading x n fault (i.val + 1)] := by
  intro n bad good fault c
  subst hlow
  have hcount := cellCountStep_eq cfg x.pack b
  have hcheck := tapFaultStep_eq x (cellCountStep cfg x.pack b)
  have hafter : tapFaultAfter x (cellCountStep cfg x.pack b) = fault := by
    rw [hcount]
    rfl
  rw [hafter] at hcheck
  have hc : c = filterStep x (tapFaultStep x (cellCountStep cfg x.pack b)) := rfl
  have hn : (tapFaultStep x (cellCountStep cfg x.pack b)).cellCount = n := by rw [hcheck, hcount]
  have hf : (tapFaultStep x (cellCountStep cfg x.pack b)).tapFault = fault := by rw [hcheck]
  have hbefore (i : Fin 4) : (tapFaultStep x (cellCountStep cfg x.pack b)).filters[i] =
      if n = b.cellCount ∧ fault = b.tapFault then b.filters[i] else [] := by
    rw [hcheck, hcount]
    change (if fault = b.tapFault then if n = b.cellCount then b.filters else Vector.replicate 4 [] else Vector.replicate 4 [])[i] = _
    by_cases hsame : fault = b.tapFault
    · by_cases hkeeps : n = b.cellCount
      · simp [hsame, hkeeps]
      · simp [hkeeps]
    · simp [hsame]
  refine ⟨hn, hf, by rw [hc, filterStep, hcheck, hcount], by rw [hc, filterStep, hcheck, hcount],
    by rw [hc, filterStep, hcheck, hcount]; rfl, by rw [hc, filterStep, hcheck, hcount]; rfl,
    by rw [hc, filterStep, hcheck, hcount], by rw [hc, filterStep, hcheck, hcount], fun i hi => ?_⟩
  have hlen : (if n = b.cellCount ∧ fault = b.tapFault then b.filters[i] else []).length ≤ 4 := by
    split
    · exact hfilters i
    · exact Nat.zero_le _
  rw [hc, filterStep_taken x (by rwa [hn]), hbefore, hn, hf, pushReading_eq hlen]
  congr 1
  split <;> rfl

end Cells

section Sweep

variable {s : State} {x : SweepSamples}

theorem exec_tapFaultChange (hpower : s.power = .running) (h : (sweptBmn x s).tapFault ≠ s.bmn.tapFault) :
    exec (.tapFaultChange x) s = .next (sweepComplete x s) :=
  congrArg Host.Outcome.next (whenDue_due hpower (decide_eq_true h))

theorem exec_tapFaultChange_not (h : (sweptBmn x s).tapFault = s.bmn.tapFault) : exec (.tapFaultChange x) s = .next s :=
  congrArg Host.Outcome.next (whenDue_not (decide_eq_false (not_not.2 h)))

end Sweep

/-- Settles O50: the cells in the order of the sweep, the weakest of them, and the published set. -/
theorem sweepPublishesTheCells : Obligations.SweepPublishesTheCells := by
  intro x s hpower hlow hhigh hcfg hfilters b pack taps current n low bad good fault raw comp charge capacity used
  obtain ⟨hn2, hn4⟩ : 2 ≤ n ∧ n ≤ 4 := sweepCellCount_mem hlow hhigh hcfg pack
  have htaps : tapLow (saturateSamples x) n = low := tapLow_eq hn2 hn4
  obtain ⟨hcount, hfault, hpending, hauto, hbad, hgood, hcharge, hpub, hfiltered⟩ :=
    cellsStep_spec (cfg := s.cfg.bmn) (x := saturateSamples x) (b := s.bmn) htaps hfilters
  obtain ⟨htcount, htfault, htpending, htauto, htbad, htgood, htfilters, htcharge, htcells, htweakest, htmin, htsweep⟩ :=
    bmnSweep_cells s.cfg.bmn (saturateSamples x) s.bmn
  refine ⟨_, exec_sweepCompletion x hpower, ?_⟩
  have hrange (i : Fin 4) (hi : i.val < n) : i.val < (cellsStep s.cfg.bmn (saturateSamples x) s.bmn).cellCount := by rwa [hcount]
  have hcells (i : Fin 4) (hi : i.val < n) : (sweptBmn x s).pub.cells[i] =
      { mv := filteredMv (sweptBmn x s).filters[i], entries := (sweptBmn x s).filters[i].length } := by
    rw [sweptBmn, htcells, htfilters]
    simp [cellPlaces, hrange i hi]
  have hmv (i : Fin 4) (hi : i.val < n) :
      (sweptBmn x s).pub.cells[i].mv = cellMv (cellsStep s.cfg.bmn (saturateSamples x) s.bmn) (i.val + 1) := by
    rw [hcells i hi, cellMv_at, sweptBmn, htfilters]
  obtain ⟨⟨hw1, hwn⟩, hwle, hwlt⟩ := weakestCell_spec (cellsStep s.cfg.bmn (saturateSamples x) s.bmn) n (by omega)
  have hweakest : (sweptBmn x s).pub.weakest = weakestCell (cellsStep s.cfg.bmn (saturateSamples x) s.bmn) n := by
    rw [sweptBmn, htweakest, hcount]
    rfl
  have hmin : (sweptBmn x s).pub.minVc =
      cellMv (cellsStep s.cfg.bmn (saturateSamples x) s.bmn) (sweptBmn x s).pub.weakest + comp := by
    rw [hweakest, sweptBmn, htmin, lowestCell, hcount]
    rfl
  have hcharged : (sweptBmn x s).charge = charge := htcharge.trans (congrArg (chargeAfter _) hcharge)
  have hflag : (sweptBmn x s).tapFault = fault := htfault.trans hfault
  rw [sweepComplete_bmn]
  refine ⟨htcount.trans hcount, hflag, htpending.trans hpending, htauto.trans hauto, htbad.trans hbad, htgood.trans hgood,
    fun i hi => ?filters, hcells, fun i hi => ?absent, rfl, by rw [hweakest]; exact hw1, by rw [hweakest]; exact hwn,
    fun i hi => ?lowest, fun i hi => ?least, fun i hi => ?first, hcharged, congrArg usedCharge hcharged, ?remaining,
    htsweep.trans (by rw [hpub]), rfl, rfl, rfl, rfl, rfl, rfl, rfl, rfl, (sweepComplete_keeps x s).2.2.2.2.1,
    (sweepComplete_keeps x s).2.2.2.2.2, fun h => exec_tapFaultChange hpower (by rwa [hflag]),
    fun h => exec_tapFaultChange_not (by rwa [hflag])⟩
  case filters =>
    have hraw : rawReading (saturateSamples x) n fault (i.val + 1) = raw i := rawReading_eq hn2 hn4 _ hi
    rw [sweptBmn, htfilters]
    exact (hfiltered i hi).trans (congrArg (fun r => _ ++ [r]) hraw)
  case absent =>
    have hout : ¬i.val < (cellsStep s.cfg.bmn (saturateSamples x) s.bmn).cellCount := by rw [hcount]; exact not_lt.2 hi
    rw [sweptBmn, htcells]
    simp [cellPlaces, hout]
  case lowest =>
    have hin : i.val < n := by
      rw [hweakest] at hi
      omega
    rw [hmin, hmv i hin, hi]
  case least =>
    rw [hmin, hmv i hi, hweakest]
    exact Nat.add_le_add_right (hwle (i.val + 1) (Nat.le_add_left 1 _) hi) comp
  case first =>
    rw [hweakest] at hi
    rw [hmin, hmv i (by omega), hweakest]
    exact Nat.add_lt_add_right (hwlt (i.val + 1) (Nat.le_add_left 1 _) hi) comp
  case remaining =>
    have hleft : (sweptBmn x s).pub.remaining = remainingPercent capacity (usedCharge (sweptBmn x s).charge) := rfl
    rw [hleft, hcharged]
    rfl

end Sys2Proof.Machine

namespace Sys2Proof.Machine

/-! ## The stage -/

section Stage

variable {cfg : BmnCfg} {v : Nat} {b : Bmn}

/-- Cells and filters leave the counters of the stages alone. -/
theorem cellsStep_runs (cfg : BmnCfg) (x : SweepSamples) (b : Bmn) :
    (cellsStep cfg x b).warnRun = b.warnRun ∧ (cellsStep cfg x b).limitRun = b.limitRun ∧
      (cellsStep cfg x b).shedRun = b.shedRun ∧ (cellsStep cfg x b).cutoffRun = b.cutoffRun ∧
      (cellsStep cfg x b).recoverRun = b.recoverRun := by
  have hcount := cellCountStep_eq cfg x.pack b
  have hcheck := tapFaultStep_eq x (cellCountStep cfg x.pack b)
  rw [cellsStep, filterStep, hcheck, hcount]
  exact ⟨rfl, rfl, rfl, rfl, rfl⟩

theorem stageStep_worsens (h : b.stage.code < (worstDue cfg b).code) :
    stageStep cfg v b = { b with stage := worstDue cfg b, recoverRun := 0 } := if_pos h

theorem stageStep_stays (h : (worstDue cfg b).code ≤ b.stage.code) (hrecovers : recovers b.stage = false) :
    stageStep cfg v b = { b with recoverRun := 0 } := by
  rw [stageStep, if_neg (not_lt.2 h), hrecovers]
  rfl

/-- The recover counter of a stage, after a sweep with the lowest cell `v`. -/
def recoverCount (cfg : BmnCfg) (v : Nat) (b : Bmn) : Nat :=
  runCount (decide (stageThreshold cfg.levels b.stage + cfg.levels.hysteresis ≤ v)) b.recoverRun

theorem stageStep_counts (h : (worstDue cfg b).code ≤ b.stage.code) (hrecovers : recovers b.stage = true)
    (hdwell : recoverCount cfg v b < cfg.recoverDwell) : stageStep cfg v b = { b with recoverRun := recoverCount cfg v b } := by
  rw [stageStep, if_neg (not_lt.2 h), if_pos hrecovers]
  exact if_neg (not_le.2 hdwell)

theorem stageStep_recovers (h : (worstDue cfg b).code ≤ b.stage.code) (hrecovers : recovers b.stage = true)
    (hdwell : cfg.recoverDwell ≤ recoverCount cfg v b) :
    stageStep cfg v b = { b with stage := betterStage b.stage, recoverRun := 0 } := by
  rw [stageStep, if_neg (not_lt.2 h), if_pos hrecovers]
  exact if_pos hdwell

theorem recovers_iff (g : Stage) : recovers g = true ↔ g = .warn ∨ g = .limit ∨ g = .shed := by
  cases g <;> simp [recovers]

theorem betterStage_lt {g : Stage} (h : recovers g = true) : (betterStage g).code < g.code := by
  cases g <;> simp_all [recovers, betterStage, Stage.code]

end Stage

section Sweep

variable {s : State} {x : SweepSamples}

theorem exec_stageWorsen (hpower : s.power = .running) (h : s.bmn.stage.code < (sweptBmn x s).stage.code) :
    exec (.stageWorsen x) s = .next (sweepComplete x s) :=
  congrArg Host.Outcome.next (whenDue_due hpower (decide_eq_true h))

theorem exec_stageWorsen_not (h : (sweptBmn x s).stage.code ≤ s.bmn.stage.code) : exec (.stageWorsen x) s = .next s :=
  congrArg Host.Outcome.next (whenDue_not (decide_eq_false (not_lt.2 h)))

theorem exec_stageRecover (hpower : s.power = .running) (h : (sweptBmn x s).stage.code < s.bmn.stage.code) :
    exec (.stageRecover x) s = .next (sweepComplete x s) :=
  congrArg Host.Outcome.next (whenDue_due hpower (decide_eq_true h))

theorem exec_stageRecover_not (h : s.bmn.stage.code ≤ (sweptBmn x s).stage.code) : exec (.stageRecover x) s = .next s :=
  congrArg Host.Outcome.next (whenDue_not (decide_eq_false (not_lt.2 h)))

/-- BMN's record at the stage step of a sweep: its cells and worsening counters are those of the sweep, its stage and recover counter
those before it. -/
def countedBmn (x : SweepSamples) (s : State) : Bmn :=
  worseningStep s.cfg.bmn (sweptBmn x s).pub.minVc (cellsStep s.cfg.bmn (saturateSamples x) s.bmn)

theorem sweptBmn_stage (x : SweepSamples) (s : State) :
    (sweptBmn x s).stage = (stageStep s.cfg.bmn (sweptBmn x s).pub.minVc (countedBmn x s)).stage ∧
      (sweptBmn x s).recoverRun = (stageStep s.cfg.bmn (sweptBmn x s).pub.minVc (countedBmn x s)).recoverRun := ⟨rfl, rfl⟩

theorem countedBmn_stage (x : SweepSamples) (s : State) : (countedBmn x s).stage = s.bmn.stage := cellsStep_stage ..

theorem countedBmn_recoverCount (x : SweepSamples) (s : State) (v : Nat) :
    recoverCount s.cfg.bmn v (countedBmn x s) = recoverCount s.cfg.bmn v s.bmn := by
  have hrecover : (countedBmn x s).recoverRun = s.bmn.recoverRun := (cellsStep_runs ..).2.2.2.2
  rw [recoverCount, recoverCount, countedBmn_stage, hrecover]

/-- The worsening counters after a sweep. -/
theorem sweptBmn_runs (x : SweepSamples) (s : State) :
    let v := (sweptBmn x s).pub.minVc
    (sweptBmn x s).warnRun = runCount (decide (v < s.cfg.bmn.levels.warn)) s.bmn.warnRun ∧
      (sweptBmn x s).limitRun = runCount (decide (v < s.cfg.bmn.levels.limit)) s.bmn.limitRun ∧
      (sweptBmn x s).shedRun = runCount (decide (v < s.cfg.bmn.levels.shed)) s.bmn.shedRun ∧
      (sweptBmn x s).cutoffRun = runCount (decide (v < s.cfg.bmn.levels.cutoff)) s.bmn.cutoffRun := by
  intro v
  obtain ⟨-, -, -, -, -, -, -, -, -, hwarn, hlimit, hshed, hcutoff⟩ := stageStep_keeps s.cfg.bmn v (countedBmn x s)
  obtain ⟨hcwarn, hclimit, hcshed, hccutoff, -⟩ := cellsStep_runs s.cfg.bmn (saturateSamples x) s.bmn
  exact ⟨hwarn.trans (congrArg (runCount _) hcwarn), hlimit.trans (congrArg (runCount _) hclimit),
    hshed.trans (congrArg (runCount _) hcshed), hcutoff.trans (congrArg (runCount _) hccutoff)⟩

/-- The worst stage due is that of the counters after the sweep. -/
theorem worstDue_swept (x : SweepSamples) (s : State) : worstDue s.cfg.bmn (countedBmn x s) = worstDue s.cfg.bmn (sweptBmn x s) := by
  obtain ⟨-, -, -, -, -, -, -, -, -, hwarn, hlimit, hshed, hcutoff⟩ :=
    stageStep_keeps s.cfg.bmn (sweptBmn x s).pub.minVc (countedBmn x s)
  have hswarn : (sweptBmn x s).warnRun = (countedBmn x s).warnRun := hwarn
  have hslimit : (sweptBmn x s).limitRun = (countedBmn x s).limitRun := hlimit
  have hsshed : (sweptBmn x s).shedRun = (countedBmn x s).shedRun := hshed
  have hscutoff : (sweptBmn x s).cutoffRun = (countedBmn x s).cutoffRun := hcutoff
  simp only [worstDue, hswarn, hslimit, hsshed, hscutoff]

/-! ### The stage change and its consequences -/

theorem shiftPhase_cases (f : ShiftPhase) : f = .idle ∨ f = .easing ∨ f = .moving ∨ f = .settling := by
  cases f <;> simp

theorem shiftToIdle_eq (s : State) :
    let x := s.spg.shift
    let going := x.phase = .moving ∨ x.phase = .settling
    let gear := if going then x.pending.getD x.gear else x.gear
    shiftToIdle s =
      { s with
        spg := { s.spg with shift := { x with gear := gear, pending := none, phase := .idle, waitMs := 0, settleMs := 0 } }
        lif := if x.phase = .idle then s.lif
          else posted { type := 0xE2, fields := [.u8 (if going then 3 else 2), .u8 gear.code, .u8 (pendingGearCode x.pending)] } s.lif } := by
  intro x going gear
  have hx : s.spg.shift = x := rfl
  rcases shiftPhase_cases x.phase with hphase | hphase | hphase | hphase
  · simp [shiftToIdle, gear, going, hphase, setShift, State.withSpg, hx]
  · simp [shiftToIdle, abandonShift, gear, going, hphase, endShift_eq, hx, shiftEndReport, ShiftResult.code]
  · simp [shiftToIdle, gear, going, hphase, endShift_eq, hx, shiftEndReport, ShiftResult.code]
  · simp [shiftToIdle, gear, going, hphase, endShift_eq, hx, shiftEndReport, ShiftResult.code]

theorem reportStage_same {old : Stage} (h : s.bmn.stage = old) : reportStage old s = s := if_pos h

theorem reportStage_moves {old : Stage} (h : s.bmn.stage ≠ old) (hcutoff : s.bmn.stage ≠ .cutoff) :
    reportStage old s = { s with lif := posted (stageChangeReport old s.bmn.stage s.bmn.pub.minVc) s.lif } := by
  have hreport : reportStage old s = postReport (stageChangeReport old s.bmn.stage s.bmn.pub.minVc) s :=
    (if_neg h).trans (if_neg hcutoff)
  rw [hreport, postReport_eq]
  rfl

theorem reportStage_cuts {old : Stage} (h : s.bmn.stage ≠ old) (hcutoff : s.bmn.stage = .cutoff) :
    reportStage old s = enterCutoff { s with lif := posted (stageChangeReport old s.bmn.stage s.bmn.pub.minVc) s.lif } := by
  have hreport : reportStage old s = enterCutoff (postReport (stageChangeReport old s.bmn.stage s.bmn.pub.minVc) s) :=
    (if_neg h).trans (if_pos hcutoff)
  rw [hreport, postReport_eq]
  rfl

theorem hasOp_iff (w : Wnc) :
    w.hasOp = true ↔ w.state = .spoolIn ∨ w.state = .spoolOut ∨ w.state = .pull ∨ w.state = .suspended := by
  cases h : w.state <;> simp [Wnc.hasOp, WinchState.driving, h]

/-! ### The entry into CUTOFF -/

/-- The drive channels of a vehicle in CUTOFF. -/
theorem driveCutoff_eq (s : State) :
    driveCutoff s = { s with drc := { s.drc with
      df := { s.drc.df with target := 0, output := 0, brake := 0 }, dr := { s.drc.dr with target := 0, output := 0, brake := 0 } } } := rfl

theorem lightsCutoff_eq (s : State) : lightsCutoff s = { s with lcu := (lightsCutoff s).lcu } := rfl

theorem lightOfState_lightsCutoff (s : State) (k : Fin 8) :
    lightOfState (lightsCutoff s) k = if (mapOf s k).source = .lowBatt then lightOfState s k else (lightOfState s k).dark :=
  lightOfState_mapLights ..

theorem enterCutoff_eq (h : s.csc.chassis ≠ .cutoff) :
    enterCutoff s = lightsCutoff (endAnyOp .cutoff
      (driveCutoff (shiftToIdle (dropBlends (moveChassis .cutoff .batteryCutoff (clearMotion s)))))) := if_neg h

/-- What the entry into CUTOFF leaves, block by block. -/
theorem enterCutoff_parts (h : s.csc.chassis ≠ .cutoff) :
    let t := enterCutoff s
    let x := s.spg.shift
    let going := x.phase = .moving ∨ x.phase = .settling
    let gear := if going then x.pending.getD x.gear else x.gear
    let moved := posted (stateChangeReport s.csc.chassis .cutoff .batteryCutoff) s.lif
    let shifted := if x.phase = .idle then moved
      else posted { type := 0xE2, fields := [.u8 (if going then 3 else 2), .u8 gear.code, .u8 (pendingGearCode x.pending)] } moved
    t.csc = { s.csc with chassis := .cutoff, setpoint := clearedSetpoint, hold := none } ∧
      t.smx = { s.smx with frontBlend := s.smx.frontBlend.dropped, rearBlend := s.smx.rearBlend.dropped } ∧
      t.spg = { s.spg with shift := { x with gear := gear, pending := none, phase := .idle, waitMs := 0, settleMs := 0 } } ∧
      t.drc = { s.drc with
        df := { s.drc.df with target := 0, output := 0, brake := 0 }, dr := { s.drc.dr with target := 0, output := 0, brake := 0 } } ∧
      t.wnc = { s.wnc.rest .braked with last := if s.wnc.hasOp then .cutoff else s.wnc.last } ∧
      t.lif = (if s.wnc.hasOp then posted (winchEndReport .cutoff s) shifted else shifted) ∧
      ∀ k : Fin 8, lightOfState t k = if (mapOf s k).source = .lowBatt then lightOfState s k else (lightOfState s k).dark := by
  intro t x going gear moved shifted
  have ht : t = _ := enterCutoff_eq h
  rw [moveChassis_eq, dropBlends_eq, shiftToIdle_eq, driveCutoff_eq, endAnyOp_eq] at ht
  rw [ht]
  refine ⟨rfl, rfl, rfl, rfl, rfl, rfl, fun k => ?_⟩
  rw [lightOfState_lightsCutoff]
  rfl

/-- The allocation writes its own set, and tells the winch of the new grant. -/
theorem allocate_leaves (s : State) :
    (allocate s).lcu = s.lcu ∧ (allocate s).smx = s.smx ∧ (allocate s).spg = s.spg ∧ (allocate s).drc = s.drc ∧
      (allocate s).wnc = { s.wnc with grantUnread := true } := ⟨rfl, rfl, rfl, rfl, rfl⟩

theorem allocate_lif_csc (s : State) : (allocate s).lif = s.lif ∧ (allocate s).csc = s.csc := ⟨rfl, rfl⟩

/-- A completion that leaves the stage changes nothing but what the sweep and the allocation own. -/
theorem sweepComplete_same (h : (sweptBmn x s).stage = s.bmn.stage) : sweepComplete x s = allocate (s.withBmn (sweptBmn x s)) :=
  congrArg allocate (reportStage_same h)

theorem sweepComplete_moves (h : (sweptBmn x s).stage ≠ s.bmn.stage) (hcutoff : (sweptBmn x s).stage ≠ .cutoff) :
    sweepComplete x s = allocate { s.withBmn (sweptBmn x s) with
      lif := posted (stageChangeReport s.bmn.stage (sweptBmn x s).stage (sweptBmn x s).pub.minVc) s.lif } :=
  congrArg allocate (reportStage_moves h hcutoff)

theorem sweepComplete_cuts (h : (sweptBmn x s).stage ≠ s.bmn.stage) (hcutoff : (sweptBmn x s).stage = .cutoff) :
    sweepComplete x s = allocate (enterCutoff { s.withBmn (sweptBmn x s) with
      lif := posted (stageChangeReport s.bmn.stage (sweptBmn x s).stage (sweptBmn x s).pub.minVc) s.lif }) :=
  congrArg allocate (reportStage_cuts h hcutoff)

/-- The blocks after a completion at which the vehicle enters CUTOFF. -/
theorem sweepComplete_cuts_parts (h : (sweptBmn x s).stage ≠ s.bmn.stage) (hcutoff : (sweptBmn x s).stage = .cutoff)
    (hchassis : s.csc.chassis ≠ .cutoff) :
    let t := sweepComplete x s
    let f := s.spg.shift
    let going := f.phase = .moving ∨ f.phase = .settling
    let gear := if going then f.pending.getD f.gear else f.gear
    let moved := posted (stateChangeReport s.csc.chassis .cutoff .batteryCutoff)
      (posted (stageChangeReport s.bmn.stage .cutoff (sweptBmn x s).pub.minVc) s.lif)
    let shifted := if f.phase = .idle then moved
      else posted { type := 0xE2, fields := [.u8 (if going then 3 else 2), .u8 gear.code, .u8 (pendingGearCode f.pending)] } moved
    t.csc = { s.csc with chassis := .cutoff, setpoint := clearedSetpoint, hold := none } ∧
      t.smx = { s.smx with frontBlend := s.smx.frontBlend.dropped, rearBlend := s.smx.rearBlend.dropped } ∧
      t.spg = { s.spg with shift := { f with gear := gear, pending := none, phase := .idle, waitMs := 0, settleMs := 0 } } ∧
      t.drc = { s.drc with
        df := { s.drc.df with target := 0, output := 0, brake := 0 }, dr := { s.drc.dr with target := 0, output := 0, brake := 0 } } ∧
      t.wnc = { s.wnc.rest .braked with last := if s.wnc.hasOp then .cutoff else s.wnc.last, grantUnread := true } ∧
      t.lif = (if s.wnc.hasOp then posted (winchEndReport .cutoff s) shifted else shifted) ∧
      ∀ k : Fin 8, lightOfState t k = if (mapOf s k).source = .lowBatt then lightOfState s k else (lightOfState s k).dark := by
  intro t f going gear moved shifted
  have ht : t = allocate (enterCutoff { s.withBmn (sweptBmn x s) with
      lif := posted (stageChangeReport s.bmn.stage .cutoff (sweptBmn x s).pub.minVc) s.lif }) :=
    (sweepComplete_cuts h hcutoff).trans (by rw [hcutoff])
  obtain ⟨hcsc, hsmx, hspg, hdrc, hwnc, hlif, hlights⟩ := enterCutoff_parts (s := { s.withBmn (sweptBmn x s) with
      lif := posted (stageChangeReport s.bmn.stage .cutoff (sweptBmn x s).pub.minVc) s.lif }) hchassis
  generalize enterCutoff _ = e at ht hcsc hsmx hspg hdrc hwnc hlif hlights
  rw [ht]
  exact ⟨hcsc, hsmx, hspg, hdrc, congrArg (fun w : Wnc => { w with grantUnread := true }) hwnc, hlif, hlights⟩

/-- The stage and the recover counter of a sweep at which no stage worsens, and the rows that then happen. -/
theorem sweptBmn_recovery (hpower : s.power = .running)
    (hbest : (worstDue s.cfg.bmn (sweptBmn x s)).code ≤ s.bmn.stage.code) :
    let b := s.bmn
    let risen := recoverCount s.cfg.bmn (sweptBmn x s).pub.minVc b
    exec (.stageWorsen x) s = .next s ∧
      (recovers b.stage = false →
        (sweptBmn x s).stage = b.stage ∧ (sweptBmn x s).recoverRun = 0 ∧ exec (.stageRecover x) s = .next s) ∧
      (recovers b.stage = true → risen < s.cfg.bmn.recoverDwell →
        (sweptBmn x s).stage = b.stage ∧ (sweptBmn x s).recoverRun = risen ∧ exec (.stageRecover x) s = .next s) ∧
      (recovers b.stage = true → s.cfg.bmn.recoverDwell ≤ risen →
        (sweptBmn x s).stage = betterStage b.stage ∧ (sweptBmn x s).recoverRun = 0 ∧
          exec (.stageRecover x) s = .next (sweepComplete x s)) := by
  intro b risen
  obtain ⟨hstage, hrecover⟩ := sweptBmn_stage x s
  have hbefore := countedBmn_stage x s
  have hbest' : (worstDue s.cfg.bmn (countedBmn x s)).code ≤ (countedBmn x s).stage.code := by rwa [worstDue_swept, hbefore]
  have hrisen := countedBmn_recoverCount x s (sweptBmn x s).pub.minVc
  by_cases hr : recovers b.stage = true
  · have hgoes : recovers (countedBmn x s).stage = true := by rwa [hbefore]
    have hnot : ¬recovers b.stage = false := by simp [hr]
    by_cases hdwell : s.cfg.bmn.recoverDwell ≤ risen
    · rw [stageStep_recovers hbest' hgoes (by rwa [hrisen]), hbefore] at hstage
      rw [stageStep_recovers hbest' hgoes (by rwa [hrisen])] at hrecover
      have hlt : (sweptBmn x s).stage.code < b.stage.code := by
        rw [hstage]
        exact betterStage_lt hr
      exact ⟨exec_stageWorsen_not hlt.le, fun h => absurd h hnot, fun _ h => absurd hdwell (not_le.2 h),
        fun _ _ => ⟨hstage, hrecover, exec_stageRecover hpower hlt⟩⟩
    · rw [stageStep_counts hbest' hgoes (by rw [hrisen]; exact not_le.1 hdwell), hrisen] at hstage hrecover
      have hkept : (sweptBmn x s).stage = b.stage := hstage.trans hbefore
      exact ⟨exec_stageWorsen_not (by rw [hkept]), fun h => absurd h hnot,
        fun _ _ => ⟨hkept, hrecover, exec_stageRecover_not (by rw [hkept])⟩, fun _ h => absurd h hdwell⟩
  · have hstays : recovers (countedBmn x s).stage = false := by
      rw [hbefore]
      exact Bool.eq_false_iff.2 hr
    rw [stageStep_stays hbest' hstays] at hstage hrecover
    have hkept : (sweptBmn x s).stage = b.stage := hstage.trans hbefore
    exact ⟨exec_stageWorsen_not (by rw [hkept]), fun _ => ⟨hkept, hrecover, exec_stageRecover_not (by rw [hkept])⟩,
      fun h => absurd h hr, fun h => absurd h hr⟩

end Sweep

/-- Settles O51: the stage step by its cases, then the report by where the stage moved. -/
theorem sweepMovesTheStage : Obligations.SweepMovesTheStage := by
  intro x s hpower b g counted
  refine ⟨_, exec_sweepCompletion x hpower, ?_⟩
  rw [sweepComplete_bmn]
  intro v worst threshold risen better recovering
  obtain ⟨hwarn, hlimit, hshed, hcutoff⟩ := sweptBmn_runs x s
  obtain ⟨hstage, hrecover⟩ := sweptBmn_stage x s
  have hworst : worstDue g (countedBmn x s) = worst := worstDue_swept x s
  have hbefore := countedBmn_stage x s
  have hrecovers : recovers b.stage = true ↔ recovering := recovers_iff b.stage
  have hbetter : betterStage b.stage = better := by
    simp only [better]
    cases b.stage <;> rfl
  have hrisen (h : recovering) : recoverCount g v b = risen := by
    have hthreshold : stageThreshold g.levels b.stage = threshold := by
      simp only [threshold]
      rcases h with h | h | h <;> rw [h] <;> rfl
    simp only [risen, ← hthreshold]
    rfl
  refine ⟨hwarn, hlimit, hshed, hcutoff, fun hworse => ?worsens, fun hbest => ?recovers, (sweepComplete_keeps x s).2.2.2.2.1,
    (sweepComplete_keeps x s).2.2.2.2.2, fun h => ?still, fun h => ?same, fun h hc => ?moves, fun h hc hchassis => ?cuts⟩
  case worsens =>
    rw [stageStep_worsens (by rwa [hworst, hbefore])] at hstage hrecover
    have hmoved : (sweptBmn x s).stage = worst := hstage.trans hworst
    exact ⟨hmoved, hrecover, exec_stageWorsen hpower (by rwa [hmoved])⟩
  case recovers =>
    obtain ⟨hworsen, hkept, hcounts, hrecovered⟩ := sweptBmn_recovery (x := x) hpower hbest
    exact ⟨hworsen, fun h => hkept (Bool.eq_false_iff.2 (mt hrecovers.1 h)),
      fun h hdwell => hrisen h ▸ hcounts (hrecovers.2 h) (by rwa [hrisen h]),
      fun h hdwell => hbetter ▸ hrecovered (hrecovers.2 h) (by rwa [hrisen h])⟩
  case still =>
    by_cases hsame : (sweptBmn x s).stage = s.bmn.stage
    · rw [sweepComplete_same hsame]
      exact allocate_leaves _
    · rw [sweepComplete_moves hsame (h.resolve_left hsame)]
      exact allocate_leaves _
  case same =>
    rw [sweepComplete_same h]
    exact allocate_lif_csc _
  case moves =>
    rw [sweepComplete_moves h hc]
    exact (allocate_lif_csc _).symm
  case cuts =>
    intro x' going gear w hasOp held moved shifted
    obtain ⟨hcsc, hsmx, hspg, hdrc, hwnc, hlif, hlights⟩ := sweepComplete_cuts_parts h hc hchassis
    have hop : w.hasOp = true ↔ hasOp := hasOp_iff w
    refine ⟨hcsc, hsmx, hspg, hdrc, hwnc.trans ?_, fun k => ⟨fun hk => (hlights k).trans (if_pos hk),
      fun hk => (hlights k).trans (if_neg hk)⟩, hlif.trans (if_congr hop rfl rfl)⟩
    exact congrArg (fun r => { w.rest .braked with last := r, grantUnread := true }) (if_congr hop rfl rfl)

end Sys2Proof.Machine

namespace Sys2Proof.Machine

/-! ## Storing the profile -/

section Busy

variable {s : State}

/-- An owner that refuses BUSY: it changes nothing and may take free values for its reply. -/
def AnswersBusy (owner : State → State × List Field) (s : State) : Prop :=
  ∃ n fields, owner s = (s.useFree n, rc .busy :: fields)

theorem answersBusy_of_kept {owner : State → State × List Field} {fields : List Field} (h : owner s = (s, rc .busy :: fields)) :
    AnswersBusy owner s := ⟨0, fields, h⟩

theorem answersBusy_curveBegin (p : Payload) (h : storeRunning s = true) : AnswersBusy (curveBeginOwner p) s := by
  have howner : curveBeginOwner p s = curveBeginRefusal .busy p s := if_pos h
  cases hid : curveIdOf (u8At p 0) with
  | none => exact ⟨1, _, howner.trans (by rw [curveBeginRefusal, hid])⟩
  | some id => exact answersBusy_of_kept (howner.trans (by rw [curveBeginRefusal, hid]))

theorem answersBusy_curveData (p : Payload) (h : storeRunning s = true) : AnswersBusy (curveDataOwner p) s := by
  have howner : curveDataOwner p s = curveDataRefusal .busy p s := if_pos h
  cases hid : curveIdOf (u8At p 0) with
  | none => exact ⟨1, _, howner.trans (by rw [curveDataRefusal, hid])⟩
  | some id => exact answersBusy_of_kept (howner.trans (by rw [curveDataRefusal, hid]))

theorem answersBusy_servoEnds (p : Payload) (h : storeRunning s = true) : AnswersBusy (servoEndsOwner p) s := by
  cases hch : servoChOf (u8At p 0) with
  | none => exact ⟨3, _, by simp only [servoEndsOwner, hch, h, if_true]; rfl⟩
  | some ch => exact answersBusy_of_kept (by simp only [servoEndsOwner, hch, h, if_true]; rfl)

theorem answersBusy_lightMap (p : Payload) (h : storeRunning s = true) : AnswersBusy (lightMapOwner p) s := by
  cases hk : lightOf (u8At p 0) with
  | none => exact ⟨2, _, by simp only [lightMapOwner, hk, h, if_true]; rfl⟩
  | some k => exact answersBusy_of_kept (by simp only [lightMapOwner, hk, h, if_true]; rfl)

theorem answersBusy_patternFree (p : Payload) (h : storeRunning s = true) : AnswersBusy (patternFreeOwner p) s := by
  cases hq : patternOf (u8At p 0) with
  | none => exact ⟨1, _, by simp only [patternFreeOwner, hq, h, if_true]; rfl⟩
  | some q => exact answersBusy_of_kept (by simp only [patternFreeOwner, hq, h, if_true]; rfl)

theorem answersBusy_budgetClass (p : Payload) (h : storeRunning s = true) : AnswersBusy (budgetClassOwner p) s := by
  cases hid : classOf (u8At p 0) with
  | none => exact ⟨3, _, by simp only [budgetClassOwner, hid, h, if_true]; rfl⟩
  | some id => exact answersBusy_of_kept (by simp only [budgetClassOwner, hid, h, if_true]; rfl)

theorem answersBusy_setParam (strap : PinLevel) (p : Payload) (h : storeRunning s = true) : AnswersBusy (setParamOwner strap p) s := by
  cases hi : paramOf (u8At p 0) with
  | none => exact ⟨1, _, by simp only [setParamOwner, hi, h, if_true]; rfl⟩
  | some i => exact answersBusy_of_kept (by simp only [setParamOwner, hi, h, if_true]; rfl)

theorem restoreRefusal_busy (strap : PinLevel) (s : State) : AnswersBusy (restoreRefusal strap .busy) s := by
  by_cases hlock : lockActive strap s = true
  · exact ⟨2, _, if_pos hlock⟩
  · exact answersBusy_of_kept (if_neg hlock)

/-- The sixteen requests that would change the configuration or the profile. -/
def storeGuarded : List Byte :=
  [0x40#8, 0x10#8, 0x09#8, 0x0A#8, 0x0B#8, 0x31#8, 0x32#8, 0x33#8, 0x34#8, 0x25#8, 0x38#8, 0x3C#8, 0x39#8, 0x48#8, 0x49#8, 0x4A#8]

/-- While a store runs their owners refuse BUSY. -/
theorem answersBusy_of_guarded {c : Instr} {ty : Byte} {p : Payload} (hreq : requestOf c = some (ty, p)) (hty : ty ∈ storeGuarded)
    (h : storeRunning s = true) : AnswersBusy (ownerOf c) s := by
  cases c with
  | setParam strap p => exact answersBusy_setParam strap p h
  | servoEnds p => exact answersBusy_servoEnds p h
  | curveBegin p => exact answersBusy_curveBegin p h
  | curveData p => exact answersBusy_curveData p h
  | curveCommit p => exact ⟨2, _, if_pos h⟩
  | lightMap p => exact answersBusy_lightMap p h
  | patternAlloc p => exact answersBusy_of_kept (if_pos h)
  | patternStep p => exact ⟨6, _, if_pos h⟩
  | patternFree p => exact answersBusy_patternFree p h
  | winchLimits p => exact answersBusy_of_kept (if_pos h)
  | batteryLevels strap p => exact answersBusy_of_kept (if_pos h)
  | budgetClass p => exact answersBusy_budgetClass p h
  | protLock strap p => exact answersBusy_of_kept (by simp only [ownerOf, protLockOwner, h, if_true]; rfl)
  | profileStore p => exact answersBusy_of_kept (if_pos h)
  | profileRestore strap p =>
    obtain ⟨n, fields, hbusy⟩ := restoreRefusal_busy strap s
    exact ⟨n, fields, (if_pos h).trans hbusy⟩
  | profileDefaults strap p =>
    obtain ⟨n, fields, hbusy⟩ := restoreRefusal_busy strap s
    exact ⟨n, fields, (if_pos h).trans hbusy⟩
  | unitResetSteer p | unitResetDrive p | unitResetWinch p | unitResetLights p | unitResetBattery p | unitResetLink p =>
    simp only [requestOf, Option.ite_none_right_eq_some] at hreq
    obtain ⟨-, ⟨⟩⟩ := hreq
    exact absurd hty (by decide)
  | _ => cases hreq <;> exact absurd hty (by decide)

end Busy

section Store

variable {s : State}

theorem exec_storeCompletion {ok : Bool} {w : StoreWrite} (hpower : s.power = .running) (hw : s.pst.writing = some w) :
    exec (.profileStoreCompletion ok) s = .next { s with
      pst := completedPst ok w s.pst, lif := posted (profileEndReport (if ok then 0 else 1) (s.now - w.acceptedAt)) s.lif } := by
  have hrun : storeRunning s = true := storeRunning_of_writing (by simp [hw])
  have hcompletes : completeStore ok s = postReport (profileEndReport (if ok then 0 else 1) (s.now - w.acceptedAt))
      (s.withPst (completedPst ok w s.pst)) := by
    rw [completeStore, hw]
  rw [postReport_eq] at hcompletes
  exact (congrArg Host.Outcome.next (whenDue_due hpower hrun)).trans (congrArg _ hcompletes)

theorem profileStoreOwner_busy (h : s.pst.writing ≠ none) : profileStoreOwner s = (s, [.u8 2, .u8 1]) := by
  have hrun := storeRunning_of_writing h
  simp only [profileStoreOwner, hrun, storeReply, storeCode, if_true]
  rfl

theorem profileStoreOwner_low (hidle : s.pst.writing = none) (h : 3 ≤ s.bmn.pub.stage.code) :
    profileStoreOwner s = (s, [.u8 11, .u8 0]) := by
  have hlow : storeTooLow s = true := decide_eq_true h
  simp only [profileStoreOwner, storeRunning_of_idle hidle, hlow, storeReply, storeCode, if_true]
  rfl

theorem profileStoreOwner_stores (hidle : s.pst.writing = none) (h : s.bmn.pub.stage.code ≤ 2) :
    profileStoreOwner s =
      ({ s with pst := { s.pst with writing := some { snapshot := s.cfg, acceptedAt := s.now } } }, [.u8 0, .u8 1]) := by
  have hlow : storeTooLow s = false := decide_eq_false (by omega)
  simp only [profileStoreOwner, storeRunning_of_idle hidle, hlow]
  rfl

end Store

/-- Settles O57. -/
theorem profileStoreWritesASnapshot : Obligations.ProfileStoreWritesASnapshot := by
  refine ⟨fun s htakes => ?store, fun ok w s hpower hw => ?completes,
    fun ok s h => congrArg Host.Outcome.next (whenDue_not (storeRunning_of_idle h)), fun c ty p s hreq htakes hlen hbusy hty => ?guarded⟩
  case store =>
    have hexec {t u : State} {fields : List Field} (howner : profileStoreOwner (popIntake s) = (t, fields))
        (hu : putReply { type := 0x48 + 0x80#8, fields := fields } t = u) : exec (.profileStore []) s = .next u :=
      exec_of_owner (i := .profileStore []) rfl htakes rfl howner hu
    exact ⟨fun h => hexec (profileStoreOwner_busy (s := popIntake s) h) rfl,
      fun hidle h => hexec (profileStoreOwner_low (s := popIntake s) hidle h) rfl,
      fun hidle h => hexec (profileStoreOwner_stores (s := popIntake s) hidle h) rfl⟩
  case completes =>
    rw [exec_storeCompletion hpower hw]
    rfl
  case guarded =>
    obtain ⟨n, fields, howner⟩ := answersBusy_of_guarded (s := popIntake s) hreq hty (storeRunning_of_writing hbusy)
    exact ⟨_, fields, exec_of_owner hreq htakes hlen howner rfl, rfl⟩

end Sys2Proof.Machine

namespace Sys2Proof.Machine

/-! ## Queries -/

/-! ### The length of a payload -/

section Lengths

theorem leBytes_length (n v : Nat) : (leBytes n v).length = n := by
  induction n generalizing v with
  | zero => rfl
  | succ n ih => rw [leBytes, List.length_cons, ih]

theorem openBytes_le (f : Config.OpenField) : openBytes f ≤ 4 := by
  have hbytes (w : Config.FieldWidth) : w.bytes ≤ 4 := by cases w <;> decide
  exact max_le (hbytes _) (hbytes _)

/-- No field is longer than four bytes. -/
theorem fieldBytes_length_le (f : Field) : f.bytes.length ≤ 4 := by
  cases f with
  | unsized f v =>
    rw [Field.bytes, leBytes_length]
    exact openBytes_le f
  | u8 v | u16 v | u32 v | i16 v | i32 v => exact (leBytes_length ..).trans_le (by decide)

theorem payload_length_le (fields : List Field) : (fields.flatMap Field.bytes).length ≤ 4 * fields.length := by
  induction fields with
  | nil => exact le_rfl
  | cons f fields ih =>
    have hf := fieldBytes_length_le f
    rw [List.flatMap_cons, List.length_append, List.length_cons]
    omega

/-- The bytes of a field of a stated width. -/
@[simp] theorem u8_length (v : Nat) : (Field.u8 v).bytes.length = 1 := leBytes_length ..

@[simp] theorem u16_length (v : Nat) : (Field.u16 v).bytes.length = 2 := leBytes_length ..

@[simp] theorem u32_length (v : Nat) : (Field.u32 v).bytes.length = 4 := leBytes_length ..

@[simp] theorem i16_length (v : Int) : (Field.i16 v).bytes.length = 2 := leBytes_length ..

@[simp] theorem i32_length (v : Int) : (Field.i32 v).bytes.length = 4 := leBytes_length ..

end Lengths

section Status

theorem holdAge_eq (s : State) : holdAge s = (s.csc.hold.map fun h => min (s.now - h.entry) 65535).getD 0 := by
  unfold holdAge
  cases s.csc.hold <;> rfl

theorem holdModeChange_eq (s : State) : (holdModeChange s).toNat = (s.csc.hold.map fun h => h.modeChange.toNat).getD 0 := by
  unfold holdModeChange
  cases s.csc.hold <;> rfl

theorem beyondLimit_eq (s : State) :
    (beyondLimit s).toNat =
      if s.wnc.valid = true ∧ (s.cfg.wnc.outer < s.wnc.position ∨ s.wnc.position < s.cfg.wnc.inner) then 1 else 0 := by
  unfold beyondLimit
  cases s.wnc.valid
  · simp
  · by_cases h : s.cfg.wnc.outer < s.wnc.position ∨ s.wnc.position < s.cfg.wnc.inner
    · have hor := h
      rw [← Bool.decide_or, decide_eq_true hor]
      simp [h]
    · rw [← Bool.decide_or, decide_eq_false h]
      simp [h]

theorem lockActive_toNat (strap : PinLevel) (s : State) :
    (lockActive strap s).toNat = if s.cfg.bmn.lockFlag = true ∧ strap = .low then 1 else 0 := by
  by_cases h : s.cfg.bmn.lockFlag = true ∧ strap = .low
  · rw [if_pos h, (lockActive_iff (s := s)).2 h]
    rfl
  · rw [if_neg h, Bool.eq_false_iff.2 (mt (lockActive_iff (s := s)).1 h)]
    rfl

theorem lampFlags_eq (active finished off : Bool) :
    active.toNat + 2 * active.toNat + 4 * finished.toNat + 8 * off.toNat =
      (if active then 3 else 0) + (if finished then 4 else 0) + (if off then 8 else 0) := by
  revert active finished off
  decide

end Status

section Patterns

variable {s : State} {a b : Byte} {q : Fin 16}

theorem getPatternOwner_none (h : 16 ≤ a.toNat) : getPatternOwner [a, b] s = (s, [.u8 5]) := by
  have hq : patternOf (u8At [a, b] 0) = none := patternOf_none h
  simp only [getPatternOwner, hq]
  rfl

/-- The part of a GET_PATTERN reply that names no step. -/
def patternFields (e : PatternEntry) (q : Fin 16) : List Field :=
  [Field.u8 0, .u8 q.val, .u8 (if e.steps = [] then 0 else 1), .u8 e.refs, .u8 e.steps.length] ++ indexFields e.steps

theorem isDefined_toNat (e : PatternEntry) : e.isDefined.toNat = if e.steps = [] then 0 else 1 := by
  cases he : e.steps <;> simp [PatternEntry.isDefined, he]

theorem getPatternOwner_absent (hq : q.val = a.toNat) (h : s.cfg.lcu.table[q].steps.length ≤ b.toNat) :
    getPatternOwner [a, b] s = (s, patternFields s.cfg.lcu.table[q] q ++ [.u8 0]) := by
  have hcode : patternOf (u8At [a, b] 0) = some q := patternOf_val q hq
  have hstep : stepIndex s.cfg.lcu q (u8At [a, b] 1) = none := List.getElem?_eq_none h
  simp only [getPatternOwner, hcode, hstep, flag, isDefined_toNat]
  rfl

/-- The position after a link in a reply: that of NEXT, free otherwise. -/
def positionOf (l : StepLink) (free : Nat) : Nat :=
  match l with
  | .next k => k
  | .endHold | .endOff => free

theorem stepFields_eq (r : StepRecord) (free : Nat) :
    stepFields r free = [.u16 r.target, .u16 r.ramp, .u16 r.hold, .u8 r.link.code, .u8 (positionOf r.link free)] := by
  unfold stepFields positionOf linkPosition
  cases r.link <;> rfl

theorem getPatternOwner_step {i : Fin 64} (hq : q.val = a.toNat) (h : s.cfg.lcu.table[q].steps[b.toNat]? = some i) :
    getPatternOwner [a, b] s = (s.useFree 1,
      patternFields s.cfg.lcu.table[q] q ++ [.u8 1, .u8 b.toNat, .u16 s.cfg.lcu.pool[i].target, .u16 s.cfg.lcu.pool[i].ramp,
        .u16 s.cfg.lcu.pool[i].hold, .u8 s.cfg.lcu.pool[i].link.code, .u8 (positionOf s.cfg.lcu.pool[i].link (s.free 0))]) := by
  have hcode : patternOf (u8At [a, b] 0) = some q := patternOf_val q hq
  have hstep : stepIndex s.cfg.lcu q (u8At [a, b] 1) = some i := h
  simp only [getPatternOwner, hcode, hstep, flag, isDefined_toNat, stepFields_eq, List.append_assoc, List.cons_append, List.nil_append]
  rfl

/-- The four places of a vector in their order. -/
theorem toList_of_four {α : Type} (v : Vector α 4) : v.toList = [v[(0 : Fin 4)], v[(1 : Fin 4)], v[(2 : Fin 4)], v[(3 : Fin 4)]] := by
  refine List.ext_getElem (by simp) fun i hi _ => ?_
  have hlt : i < 4 := by simpa using hi
  interval_cases i <;> simp

end Patterns

/-- Settles O60. -/
theorem queriesAnswerTheStateInForce : Obligations.QueriesAnswerTheStateInForce := by
  unfold Obligations.QueriesAnswerTheStateInForce
  intro winch beyond
  have hwinch (s : State) : winchCode s = winch s := by
    simp only [winchCode, winch]
    cases hstate : s.wnc.state <;> simp [WinchState.code]
  have hbeyond (s : State) : (beyondLimit s).toNat = beyond s := beyondLimit_eq s
  refine ⟨fun strap s htakes => ?status, fun b s htakes => ?servo, fun s htakes => ?winch, fun a b s htakes => ?pattern,
    fun s htakes => ?freeList, fun strap s htakes => ?cells, fun s htakes => ?budget⟩
  case status =>
    intro drive lamp fields
    have hlamp (k : Fin 8) : lightStatus s k = lamp k := by
      simp only [lightStatus, lampFlags_eq, lamp]
      cases (lightOfState s k).runner with
      | none => rfl
      | some r => exact congrArg (fun n : Nat => [Field.u8 _, Field.u8 _, Field.u8 (_ + n + _)]) (if_congr Option.some_inj.symm rfl rfl)
    have hfields : getStatusOwner strap (popIntake s) = (popIntake s, fields) := by
      have hlamps : (List.finRange 8).flatMap (lightStatus s) = (List.finRange 8).flatMap lamp := congrArg (List.flatMap · _) (funext hlamp)
      have hanswer : getStatusOwner strap (popIntake s) = (popIntake s, statusHead strap s ++ (List.finRange 8).flatMap (lightStatus s)) :=
        rfl
      rw [hanswer, hlamps]
      simp only [statusHead, flag, holdAge_eq, holdModeChange_eq, hbeyond, hwinch, lockActive_toNat]
      rfl
    refine ⟨exec_of_owner (i := .getStatus strap []) rfl htakes rfl hfields rfl, ?_⟩
    simp [fields, drive, lamp]
  case servo =>
    intro answers fields x
    have hexec {fs : List Field} (howner : getServoOwner [b] (popIntake s) = (popIntake s, fs)) (hlen : fs.length ≤ 29) : answers fs :=
      ⟨exec_of_owner (i := .getServo [b]) rfl htakes rfl howner rfl,
        (payload_length_le fs).trans ((Nat.mul_le_mul_left 4 hlen).trans (by decide))⟩
    have hchan {ch : ServoCh} (hch : servoChOf b.toNat = some ch) :
        getServoOwner [b] (popIntake s) = (popIntake s,
          fields (s.spg.chan ch) (s.cfg.spg.ends ch) (s.cfg.spg.slew ch) (servoExtra ch s)) := by
      have hcode : servoChOf (u8At [b] 0) = some ch := hch
      simp only [getServoOwner, hcode]
      rfl
    refine ⟨fun h => hexec (hchan (ch := .fs) (by rw [h]; rfl)) (by simp [fields]),
      fun h => hexec (hchan (ch := .rs) (by rw [h]; rfl)) (by simp [fields]),
      fun h => hexec (hchan (ch := .sh) (by rw [h]; rfl)) (by simp [fields]), fun h => hexec ?_ (by simp)⟩
    have hcode : servoChOf (u8At [b] 0) = none := servoChOf_none h
    simp only [getServoOwner, hcode]
    rfl
  case winch =>
    intro w mm fields
    have hfields : getWinchOwner (popIntake s) = (popIntake s, fields) := by
      have hcode : winchCode (popIntake s) = winch s := hwinch s
      have hlimit : (beyondLimit (popIntake s)).toNat = beyond s := hbeyond s
      simp only [getWinchOwner, flag, hcode, hlimit]
      rfl
    refine ⟨exec_of_owner (i := .getWinch []) rfl htakes rfl hfields rfl, (payload_length_le fields).trans ?_⟩
    have hlen : fields.length ≤ 20 := by
      simp only [fields, List.length_append, List.length_cons, List.length_nil]
      split <;> simp
    omega
  case pattern =>
    intro indices
    have hexec {t u : State} {fields : List Field} (howner : getPatternOwner [a, b] (popIntake s) = (t, fields))
        (hu : putReply { type := 0x35 + 0x80#8, fields := fields } t = u) : exec (.getPattern [a, b]) s = .next u :=
      exec_of_owner (i := .getPattern [a, b]) rfl htakes rfl howner hu
    refine ⟨fun h => hexec (getPatternOwner_none h) rfl, fun q hq => ?_⟩
    intro e front
    refine ⟨fun h => hexec (getPatternOwner_absent (s := popIntake s) hq h) rfl, fun i hi => ?_⟩
    intro r
    refine ⟨positionOf r.link (s.free 0), fun k hk => by rw [hk]; rfl, ?_⟩
    exact hexec (getPatternOwner_step (s := popIntake s) hq hi) rfl
  case freeList => exact exec_of_owner (i := .getFree []) rfl htakes rfl rfl rfl
  case cells =>
    intro p l cell
    have hcells : p.cells.toList.flatMap (fun c => [Field.u16 c.mv, .u8 c.entries]) = cell 0 ++ cell 1 ++ cell 2 ++ cell 3 := by
      rw [toList_of_four]
      rfl
    have hlocked : (lockActive strap (popIntake s)).toNat = if s.cfg.bmn.lockFlag = true ∧ strap = .low then 1 else 0 :=
      lockActive_toNat strap (popIntake s)
    have hstrap : (decide (strap = .high)).toNat = if strap = .high then 1 else 0 := by cases strap <;> rfl
    refine exec_of_owner (i := .getCells strap []) rfl htakes rfl (t := popIntake s) ?_ rfl
    simp only [ownerOf, getCellsOwner, lockFields, flag, hlocked, hstrap]
    refine congrArg (Prod.mk _) ?_
    refine Eq.trans (congrArg (fun x => _ ++ x ++ _ ++ _ ++ _ ++ _) hcells) ?_
    rfl
  case budget =>
    intro a r record last fields
    have hfields : getBudgetOwner (popIntake s) = (popIntake s, fields) := by
      rfl
    refine ⟨exec_of_owner (i := .getBudget []) rfl htakes rfl hfields rfl, ?_⟩
    simp [fields, record, last]

end Sys2Proof.Machine

namespace Sys2Proof.Machine

/-! ## Unit resets -/

section UnitResets

variable {s : State}

/-- The blends stop, open loads close, the carries are emptied and a shift ends. -/
theorem resetSteer_eq (s : State) :
    let x := s.spg.shift
    let going := x.phase = .moving ∨ x.phase = .settling
    let gear := if going then x.pending.getD x.gear else x.gear
    resetUnit .steer s = { s with
      smx := { s.smx with
        frontBlend := stoppedBlend s.smx.frontBlend, rearBlend := stoppedBlend s.smx.rearBlend
        frontLoad := resetLoad s.smx.frontLoad s.cfg.smx.frontTable, rearLoad := resetLoad s.smx.rearLoad s.cfg.smx.rearTable
        throttleLoad := resetLoad s.smx.throttleLoad s.cfg.drc.throttleTable }
      spg := { fs := { s.spg.fs with acc := 0 }, rs := { s.spg.rs with acc := 0 }, sh := { s.spg.sh with acc := 0 }
               shift := { x with gear := gear, pending := none, phase := .idle, waitMs := 0, settleMs := 0 } }
      lif := if x.phase = .idle then s.lif
        else posted { type := 0xE2, fields := [.u8 (if going then 3 else 2), .u8 gear.code, .u8 (pendingGearCode x.pending)] } s.lif } := by
  intro x going gear
  rw [resetUnit, spgUnitReset, shiftToIdle_eq]
  rfl

theorem digLocks_df (m : DigMode) : digLocks m .df = true ↔ m = .lockFront := by
  cases m <;> simp [digLocks]

theorem digLocks_dr (m : DigMode) : digLocks m .dr = true ↔ m = .lockRear := by
  cases m <;> simp [digLocks]

/-- A channel keeps what the lights read of its last update; its brake is that of the chassis state and the dig lock. -/
theorem driveChanReset_eq {ch : DriveCh} {locked : DigMode} (hlocks : digLocks s.drc.digInForce ch = true ↔ s.drc.digInForce = locked)
    (c : DriveChan) :
    driveChanReset s ch c = { powerOnDriveChan with
      lastTarget := c.lastTarget, lastOutput := c.lastOutput
      brake := if s.csc.chassis = .hold ∨ ((s.csc.chassis = .run ∨ s.csc.chassis = .failsafe) ∧ s.drc.digInForce = locked)
        then 1000 else 0 } := by
  unfold driveChanReset
  cases hc : s.csc.chassis with
  | hold | standby | cutoff => simp
  | run | failsafe => simp [hlocks]

theorem lightOfState_lightsUnitReset (s : State) (k : Fin 8) :
    lightOfState (lightsUnitReset s) k =
      if (lightOfState s k).forcedOff then { lightOfState s k with residual := 0 }
      else restartLight s k { lightOfState s k with runner := none, residual := 0 } := lightOfState_mapLights ..

theorem resetUnitOf_none {n : Nat} (h : 6 ≤ n) : resetUnitOf n = none := by
  obtain ⟨m, rfl⟩ := Nat.exists_eq_add_of_le' h
  rfl

/-- A request whose unit no row knows. -/
theorem unitResetOwner_unknown {c : Instr} {ty : Byte} {p : Payload} (hreq : requestOf c = some (ty, p)) (hty : ty = 0x50#8)
    (h : 6 ≤ u8At p 0) (s : State) : ownerOf c s = (s, [.u8 5, .u8 (u8At p 0)]) := by
  have hunit := resetUnitOf_none h
  have howner (u : ResetUnit) : unitResetOwner u p s = (s, [.u8 5, .u8 (u8At p 0)]) := by
    simp only [unitResetOwner, hunit]
    rfl
  cases c with
  | unitResetSteer q | unitResetDrive q | unitResetWinch q | unitResetLights q | unitResetBattery q | unitResetLink q =>
    simp only [requestOf, Option.ite_none_right_eq_some, Option.some_inj, Prod.mk.injEq] at hreq
    obtain ⟨-, -, rfl⟩ := hreq
    exact howner _
  | _ => cases hreq <;> exact absurd hty (by decide)

end UnitResets

/-- Settles O59. -/
theorem unitResetsClearTheirBlocks : Obligations.UnitResetsClearTheirBlocks := by
  refine ⟨fun s htakes => ?steer, fun s htakes => ?drive, fun s htakes => ?winch, fun s htakes => ?lights, fun s htakes => ?battery,
    fun c b s hreq htakes h => ?unknown⟩
  case steer =>
    intro x going gear idle loaded ends
    have hexec := exec_of_ignoring (i := .unitResetSteer [0]) (ignoresIntake_unitResetOwner .steer [0]) rfl htakes rfl
      (t := resetUnit .steer s) (fields := [.u8 0, .u8 0]) rfl
    rw [resetSteer_eq] at hexec
    exact hexec
  case drive =>
    intro atRest
    have hdrive : driveUnitReset s =
        { s with drc := { s.drc with df := atRest s.drc.df .lockFront, dr := atRest s.drc.dr .lockRear } } := by
      have hmap : driveUnitReset s = { s with drc := { s.drc with
        df := driveChanReset s .df s.drc.df, dr := driveChanReset s .dr s.drc.dr } } := rfl
      rw [hmap, driveChanReset_eq (digLocks_df _), driveChanReset_eq (digLocks_dr _)]
    have hexec := exec_of_ignoring (i := .unitResetDrive [1]) (ignoresIntake_unitResetOwner .drive [1]) rfl htakes rfl
      (t := driveUnitReset s) (fields := [.u8 0, .u8 1]) rfl
    rw [hdrive] at hexec
    exact hexec
  case winch =>
    intro w hasOp held ended
    have hexec := exec_of_ignoring (i := .unitResetWinch [2]) (ignoresIntake_unitResetOwner .winch [2]) rfl htakes rfl
      (t := winchUnitReset s) (fields := [.u8 0, .u8 2]) rfl
    rw [winchUnitReset, endAnyOp_eq] at hexec
    simp only [hasOp_iff] at hexec
    exact hexec
  case lights =>
    refine ⟨{ lightsUnitReset s with lif := answered 0x50 [.u8 0, .u8 3] s.lif },
      exec_of_ignoring (i := .unitResetLights [3]) (ignoresIntake_unitResetOwner .lights [3]) rfl htakes rfl
        (t := lightsUnitReset s) (fields := [.u8 0, .u8 3]) rfl, rfl, fun k => ?_⟩
    exact lightOfState_lightsUnitReset s k
  case battery =>
    have hexec {t : State} {code : Nat} (howner : unitResetOwner .battery [4] s = (t, [.u8 code, .u8 4])) :=
      exec_of_ignoring (i := .unitResetBattery [4]) (ignoresIntake_unitResetOwner .battery [4]) rfl htakes rfl howner
    exact ⟨fun h => hexec (if_pos (by simp [resetRefused, h])), fun h => hexec (if_neg (by simp [resetRefused, h]))⟩
  case unknown =>
    exact exec_of_owner hreq htakes rfl (unitResetOwner_unknown hreq rfl h _) rfl

end Sys2Proof.Machine

namespace Sys2Proof.Machine

/-! ## Restoring -/

section Restore

variable {s : State} {strap : PinLevel} {new : WorkingConfig} {fromStore : Bool}

/-- PST's part of a restore from the stored image or from the factory set. -/
def restoreRowOwner (fromStore : Bool) (strap : PinLevel) (s : State) : State × List Field :=
  if fromStore then profileRestoreOwner strap s else profileDefaultsOwner strap s

theorem exec_restoreRow {t : State} {fields : List Field} (htakes : Takes (if fromStore then 0x49 else 0x4A) [] s)
    (howner : restoreRowOwner fromStore strap s = (t, fields)) :
    exec (if fromStore then .profileRestore strap [] else .profileDefaults strap []) s =
      .next { t with lif := answered (if fromStore then 0x49 else 0x4A) fields t.lif } := by
  cases fromStore with
  | true => exact exec_of_ignoring (i := .profileRestore strap []) (ignoresIntake_profileRestoreOwner strap) rfl htakes rfl howner
  | false => exact exec_of_ignoring (i := .profileDefaults strap []) (ignoresIntake_profileDefaultsOwner strap) rfl htakes rfl howner

theorem restoreRowOwner_busy (h : s.pst.writing ≠ none) : restoreRowOwner fromStore strap s = restoreRefusal strap .busy s := by
  have hrun := storeRunning_of_writing h
  cases fromStore <;> exact if_pos hrun

theorem storedConfig_none (h : (s.pst.valid && decide (s.pst.stored ≠ .failsCheck)) = false) : storedConfig s.pst = none := by
  unfold storedConfig
  split
  case h_1 c hvalid hstored => simp [hvalid, hstored] at h
  case h_2 => rfl

theorem storedConfig_passes {c : WorkingConfig} (h : (s.pst.valid && decide (s.pst.stored ≠ .failsCheck)) = true)
    (hc : s.pst.stored = .passes c) : storedConfig s.pst = some c := by
  obtain ⟨hvalid, -⟩ := Bool.and_eq_true_iff.1 h
  simp only [storedConfig, hvalid, hc]

/-- A restore is refused in RUN and where no stored image is found. -/
theorem restoreRowOwner_refuses (hidle : s.pst.writing = none)
    (h : s.csc.chassis = .run ∨ (!fromStore || (s.pst.valid && decide (s.pst.stored ≠ .failsCheck))) = false) :
    restoreRowOwner fromStore strap s = restoreRefusal strap .wrongState s := by
  have hrun := storeRunning_of_idle hidle
  by_cases hc : s.csc.chassis = .run
  · cases fromStore <;> simp [restoreRowOwner, profileRestoreOwner, profileDefaultsOwner, hrun, hc]
  · obtain ⟨hstore, hnone⟩ := Bool.or_eq_false_iff.1 (h.resolve_left hc)
    obtain rfl : fromStore = true := by simpa using hstore
    simp [restoreRowOwner, profileRestoreOwner, hrun, hc, storedConfig_none hnone]

theorem restoreRowOwner_restores (hidle : s.pst.writing = none) (hc : s.csc.chassis ≠ .run)
    (hfound : (!fromStore || (s.pst.valid && decide (s.pst.stored ≠ .failsCheck))) = true)
    (hnew : if fromStore then s.pst.stored = .passes new else new = factoryConfig) :
    restoreRowOwner fromStore strap s = restoreAnswer strap new s := by
  have hrun := storeRunning_of_idle hidle
  cases fromStore with
  | true => simp [restoreRowOwner, profileRestoreOwner, hrun, hc, storedConfig_passes hfound hnew]
  | false =>
    have hfactory : new = factoryConfig := hnew
    simp [restoreRowOwner, profileDefaultsOwner, hrun, hc, hfactory]

/-! ### What the lock keeps -/

theorem classesKept_iff : classesKept strap new s = true ↔
    (s.cfg.bmn.lockFlag = true ∧ strap = .low) ∧ s.cfg.pba.pmax / 2 < (floorsOf new.pba.classes).sum := by
  simp only [classesKept, floorsFit, Bool.and_eq_true, lockActive_iff, Bool.not_eq_true', decide_eq_false_iff_not, not_le]

theorem classesKept_toNat : (classesKept strap new s).toNat =
    if (s.cfg.bmn.lockFlag = true ∧ strap = .low) ∧ s.cfg.pba.pmax / 2 < (floorsOf new.pba.classes).sum then 1 else 0 := by
  rw [← if_congr (classesKept_iff (s := s)) rfl rfl]
  cases classesKept strap new s <;> rfl

theorem restoredCfg_eq (strap : PinLevel) (new : WorkingConfig) (s : State) :
    let active := s.cfg.bmn.lockFlag = true ∧ strap = .low
    let keeps := active ∧ s.cfg.pba.pmax / 2 < (floorsOf new.pba.classes).sum
    restoredCfg strap new s = { new with
      spg := { new.spg with fsEnds := s.cfg.spg.fsEnds, rsEnds := s.cfg.spg.rsEnds, shEnds := s.cfg.spg.shEnds }
      bmn := if active then s.cfg.bmn else new.bmn
      pba := { classes := if keeps then s.cfg.pba.classes else new.pba.classes
               pmax := if active then s.cfg.pba.pmax else new.pba.pmax } } := by
  intro active keeps
  simp only [restoredCfg, restoredPba, lockActive_iff, classesKept_iff]
  rfl

/-- Outside RUN no operation drives the winch, so that the limit check of a restore finds nothing. -/
theorem limitCheck_outsideRun (hwinch : WinchRecordOk s) (hc : s.csc.chassis ≠ .run) {t : State} (ht : t.wnc = s.wnc) :
    limitCheck t = t := by
  have hdriving : s.wnc.state.driving = false := Bool.eq_false_iff.2 fun h => hc (hwinch.2.2.1 h).2
  exact limitCheck_same (.inr (.inl (by rwa [ht])))

/-- The part after the configuration, the endpoints and the loads of a restore, before its lamps. -/
def restoredBlocks (strap : PinLevel) (new : WorkingConfig) (s : State) : State :=
  acceptRestoredEnds new.spg (closeAllLoads ((s.withCfg (restoredCfg strap new s)).withBmn (restoredRuns strap s s.bmn)))

/-- A restore outside RUN, block by block. -/
theorem restore_eq (hwinch : WinchRecordOk s) (hc : s.csc.chassis ≠ .run) :
    let r := restoredBlocks strap new s
    restore strap new s = { r with
      lcu := (lightsRestored r).lcu
      pba := if s.pba.allocated then s.pba
        else { s.pba with pub := { s.pba.pub with grant := floorsOf (restoredCfg strap new s).pba.classes } }
      lif := { s.lif with telNext := telemetryStart s.now new.lif.telemetryMs } } := by
  intro r
  have hcheck : limitCheck r = r := limitCheck_outsideRun hwinch hc rfl
  have hrestore : restore strap new s = restartTelemetry (followFloors (lightsRestored (limitCheck r))) := rfl
  rw [hrestore, hcheck, followFloors_eq]
  rfl

theorem lightOfState_lightsRestored (s : State) (k : Fin 8) :
    lightOfState (lightsRestored s) k = remapLight s k (lightOfState s k) := lightOfState_mapLights ..

theorem restoreRefusal_eq (strap : PinLevel) (c : ResultCode) (s : State) :
    restoreRefusal strap c s =
      if s.cfg.bmn.lockFlag = true ∧ strap = .low
      then ({ s with freeIndex := s.freeIndex + 2 },
        [rc c, .u8 (Config.freeValue s.freeIndex), .u8 (Config.freeValue (s.freeIndex + 1))])
      else (s, [rc c, .u8 0, .u8 0]) := by
  simp only [restoreRefusal, lockActive_iff]
  rfl

end Restore

/-- Settles O58: a refusal is `restoreRefusal_eq`, a restore carried out `restore_eq`. -/
theorem restoreReplacesTheConfiguration : Obligations.RestoreReplacesTheConfiguration := by
  intro fromStore strap s htakes run reply active refused found
  have hrefuses {c : ResultCode} (howner : restoreRowOwner fromStore strap s = restoreRefusal strap c s) : run = refused c.code := by
    rw [restoreRefusal_eq] at howner
    by_cases hactive : active
    · rw [if_pos hactive] at howner
      simp only [refused, if_pos hactive]
      exact exec_restoreRow htakes howner
    · rw [if_neg hactive] at howner
      simp only [refused, if_neg hactive]
      exact exec_restoreRow htakes howner
  refine ⟨fun hbusy => hrefuses (c := .busy) (restoreRowOwner_busy hbusy),
    fun hidle h => hrefuses (c := .wrongState) (restoreRowOwner_refuses hidle h), fun new hidle hc hfound hnew hwinch => ?_⟩
  intro keeps classes
  have hexec := exec_restoreRow htakes (restoreRowOwner_restores (strap := strap) hidle hc hfound hnew)
  have hlock : (lockActive strap s).toNat = if active then 1 else 0 := lockActive_toNat strap s
  have hkept : (classesKept strap new s).toNat = if keeps then 1 else 0 := classesKept_toNat
  simp only [flag, hlock, hkept, restore_eq hwinch hc] at hexec
  have hcfg := restoredCfg_eq strap new s
  have hruns : restoredRuns strap s s.bmn = if active then s.bmn
      else { s.bmn with warnRun := 0, limitRun := 0, shedRun := 0, cutoffRun := 0, recoverRun := 0 } :=
    if_congr lockActive_iff rfl rfl
  refine ⟨_, hexec, hcfg, rfl, rfl, hruns, ?_, rfl, rfl, rfl, rfl, rfl, rfl, rfl, rfl, fun k => ?_⟩
  · exact congrArg (fun c : WorkingConfig => if s.pba.allocated then s.pba
      else { s.pba with pub := { s.pba.pub with grant := floorsOf c.pba.classes } }) hcfg
  · have hlamp := lightOfState_lightsRestored (restoredBlocks strap new s) k
    exact ⟨fun hcut hsource => hlamp.trans (remapLight_dark (s := restoredBlocks strap new s) hcut hsource),
      fun h => hlamp.trans (remapLight_starts (s := restoredBlocks strap new s) h)⟩

end Sys2Proof.Machine

namespace Sys2Proof.Machine

/-! ## Parameters -/

/-! ### The tables -/

section Tables

/-- A row of a table, from its parameter. -/
theorem paramRow_of (i : ParamId) {n default : Nat} {value : WorkingConfig → Nat} {lo hi : Int} (hid : paramOf n = some i := by rfl)
    (hvalue : ∀ c, readParam c i = value c := by intro c; rfl) (hclamp : paramClamp i = clampInt lo hi := by rfl)
    (hdefault : value factoryConfig = default := by rfl) : ParamRow n value lo hi default :=
  ⟨i, hid, hvalue, fun v => congrFun hclamp v, hdefault⟩

theorem failsafeSteer_code (f : FailsafeSteer) : f.code = if f = .center then 0 else 1 := by cases f <;> rfl

theorem gear_code (g : Gear) : g.code = if g = .low then 0 else 1 := by cases g <;> rfl

theorem toNat_eq_ite (b : Bool) : b.toNat = if b then 1 else 0 := by cases b <;> rfl

theorem paramRow_fullOn (k : Fin 8) : ParamRow (0x60 + k.val) (fun c => c.lcu.maps[k].fullOn) 0 2000 0 :=
  paramRow_of (.fullOn k) (by revert k; decide) (hdefault := by revert k; decide)

theorem blendClamp_eq (v : Int) : blendClamp v = max 0 (min 2000 v) / 10 * 10 := by
  rw [blendClamp, clampInt, Int.tdiv_eq_ediv_of_nonneg (by omega)]
  omega

theorem periodClamp_eq (v : Int) : periodClamp v = if 20 ≤ v then 20 else if 10 ≤ v then 10 else if 5 ≤ v then 5 else 3 := by
  unfold periodClamp
  split_ifs <;> omega

theorem cellClamp_eq (v : Int) : cellClamp v = if v ≤ 0 then 0 else if v ≤ 2 then 2 else if v ≤ 3 then 3 else 4 := by
  unfold cellClamp clampInt
  split_ifs <;> omega

/-- Above the ninth digit no id is listed. -/
theorem paramOf_of_le {n : Nat} (h : 160 ≤ n) : paramOf n = none := by
  have hdigit : 10 ≤ n / 16 := by omega
  unfold paramOf
  split
  case h_10 => rfl
  all_goals omega

/-- What holds for every pair of digits holds for every number of two digits, the upper one below 10. -/
theorem of_digits {P : Nat → Prop} (h : ∀ d < 10, ∀ r < 16, P (16 * d + r)) {n : Nat} (hn : n < 160) : P n := by
  have hdigits := h (n / 16) (by omega) (n % 16) (by omega)
  rwa [Nat.div_add_mod] at hdigits

/-- The number of ids with this upper digit; they are the first ones of their row. -/
def idCount (d : Nat) : Nat := [0, 2, 5, 10, 11, 6, 8, 7, 1, 2].getD d 0

theorem paramOf_digits : ∀ d < 10, ∀ r < 16, paramOf (16 * d + r) ≠ none ↔ r < idCount d := by decide

theorem paramOf_ne_none_iff (n : Nat) : paramOf n ≠ none ↔
    (0x10 ≤ n ∧ n ≤ 0x11) ∨ (0x20 ≤ n ∧ n ≤ 0x24) ∨ (0x30 ≤ n ∧ n ≤ 0x39) ∨ (0x40 ≤ n ∧ n ≤ 0x4A) ∨ (0x50 ≤ n ∧ n ≤ 0x55) ∨
      (0x60 ≤ n ∧ n ≤ 0x67) ∨ (0x70 ≤ n ∧ n ≤ 0x76) ∨ n = 0x80 ∨ (0x90 ≤ n ∧ n ≤ 0x91) := by
  rcases Nat.lt_or_ge n 160 with h | h
  · have hdigits := paramOf_digits (n / 16) (by omega) (n % 16) (by omega)
    rw [Nat.div_add_mod] at hdigits
    rw [hdigits]
    have hd : n / 16 < 10 := by omega
    have hn : 16 * (n / 16) + n % 16 = n := Nat.div_add_mod n 16
    generalize n / 16 = d at hd hn
    interval_cases d <;> simp only [idCount, List.getD_cons_zero, List.getD_cons_succ] <;> omega
  · rw [paramOf_of_le h]
    simp only [ne_eq, not_true, false_iff]
    omega

theorem protected_iff {n : Nat} {i : ParamId} (h : paramOf n = some i) :
    i.protected = true ↔ (0x70 ≤ n ∧ n ≤ 0x76) ∨ n = 0x80 := by
  have hlt : n < 160 := by
    by_contra hge
    rw [paramOf_of_le (not_lt.1 hge)] at h
    cases h
  exact of_digits (P := fun n => ∀ i ∈ paramOf n, i.protected = true ↔ (0x70 ≤ n ∧ n ≤ 0x76) ∨ n = 0x80) (by decide) hlt i h

end Tables

/-! ### Reading and writing -/

section Access

variable {c : WorkingConfig} {i j : ParamId}

/-- Every parameter has a field of its own. -/
theorem readParam_writeParam (c : WorkingConfig) (i j : ParamId) (v : Nat) :
    readParam (writeParam c i v) j = if j = i then readParam (writeParam c i v) i else readParam c j := by
  cases i <;> cases j
  case fullOn.fullOn k l =>
    by_cases h : l = k
    · subst h
      exact (if_pos rfl).symm
    · rw [if_neg (mt ParamId.fullOn.inj h)]
      exact congrArg LightMap.fullOn (Vector.getElem_set_ne k.isLt l.isLt fun hval => h (Fin.ext hval.symm))
  all_goals rfl

theorem clampInt_nonneg {lo : Int} (h : 0 ≤ lo) (hi v : Int) : 0 ≤ clampInt lo hi v := h.trans (le_max_left _ _)

theorem paramClamp_nonneg (i : ParamId) (v : Int) : 0 ≤ paramClamp i v := by
  cases i with
  | blendMs =>
    rw [paramClamp, blendClamp_eq]
    omega
  | fsPeriod | rsPeriod | shPeriod =>
    rw [paramClamp, periodClamp_eq]
    split_ifs <;> decide
  | cellCount =>
    rw [paramClamp, cellClamp_eq]
    split_ifs <;> decide
  | telemetryMs =>
    rw [paramClamp, telemetryClamp]
    split
    · exact le_rfl
    · exact clampInt_nonneg (by decide) _ _
  | _ => exact clampInt_nonneg (by decide) _ _

/-- A value of a range that begins at 0, as a natural number. -/
theorem clampInt_toNat_le (hi : Nat) (v : Int) : (clampInt 0 hi v).toNat ≤ hi := by
  unfold clampInt
  omega

/-- A value of its range is read back as it was written. -/
theorem readParam_writeParam_same (c : WorkingConfig) (i : ParamId) (asked : Int) :
    readParam (writeParam c i (paramClamp i asked).toNat) i = (paramClamp i asked).toNat := by
  cases i with
  | failsafeSteer | powerOnGear | assistOn | failsafeBrake =>
    have hle := clampInt_toNat_le 1 asked
    change _ = (clampInt 0 1 asked).toNat
    change readParam (writeParam c _ (clampInt 0 1 asked).toNat) _ = _
    generalize (clampInt 0 1 asked).toNat = v at hle
    interval_cases v <;> rfl
  | powerOnMode =>
    have hle := clampInt_toNat_le 3 asked
    change readParam (writeParam c .powerOnMode (clampInt 0 3 asked).toNat) .powerOnMode = (clampInt 0 3 asked).toNat
    generalize (clampInt 0 3 asked).toNat = v at hle
    interval_cases v <;> rfl
  | fullOn k => exact congrArg LightMap.fullOn (Vector.getElem_set_self _)
  | _ => rfl

/-- Nothing of the configuration but the parameters changes. -/
theorem writeParam_frame (c : WorkingConfig) (i : ParamId) (v : Nat) :
    let t := writeParam c i v
    t.smx.frontTable = c.smx.frontTable ∧ t.smx.rearTable = c.smx.rearTable ∧ t.drc.throttleTable = c.drc.throttleTable ∧
      t.spg.fsEnds = c.spg.fsEnds ∧ t.spg.rsEnds = c.spg.rsEnds ∧ t.spg.shEnds = c.spg.shEnds ∧ t.wnc.inner = c.wnc.inner ∧
      t.wnc.outer = c.wnc.outer ∧ t.bmn.levels = c.bmn.levels ∧ t.bmn.lockFlag = c.bmn.lockFlag ∧ t.pba.classes = c.pba.classes ∧
      t.lcu.pool = c.lcu.pool ∧ t.lcu.table = c.lcu.table ∧ t.lcu.free = c.lcu.free := by
  cases i <;> exact ⟨rfl, rfl, rfl, rfl, rfl, rfl, rfl, rfl, rfl, rfl, rfl, rfl, rfl, rfl⟩

/-- A map keeps all but its full-on current. -/
theorem writeParam_map (c : WorkingConfig) (i : ParamId) (v : Nat) (k : Fin 8) :
    { (writeParam c i v).lcu.maps[k] with fullOn := 0 } = { c.lcu.maps[k] with fullOn := 0 } := by
  cases i with
  | fullOn l =>
    by_cases h : k = l
    · subst h
      exact congrArg (fun m : LightMap => { m with fullOn := 0 }) (Vector.getElem_set_self _)
    · exact congrArg (fun m : LightMap => { m with fullOn := 0 }) (Vector.getElem_set_ne l.isLt k.isLt fun hval => h (Fin.ext hval.symm))
  | _ => rfl

end Access

section SetParam

variable {s : State} {i : ParamId} {strap : PinLevel} {p : Payload}

/-- A parameter takes a value; the telemetry period starts its schedule again. -/
theorem setParam_eq (i : ParamId) (v : Nat) (s : State) :
    setParam i v s = { s with
      cfg := writeParam s.cfg i v
      lif := { s.lif with telNext := if i ≠ .telemetryMs then s.lif.telNext else telemetryStart s.now v } } := by
  unfold setParam
  by_cases h : i = .telemetryMs
  · subst h
    rfl
  · rw [if_neg h, if_pos h]
    rfl

theorem ownerCheck_iff (i : ParamId) (v : Nat) (s : State) :
    ownerCheck i v s = true ↔ i ≠ .pmax ∨ (floorsOf s.cfg.pba.classes).sum ≤ v / 2 := by
  cases i <;> simp [ownerCheck, floorsFit]

theorem protectedNow_iff : (i.protected && lockActive strap s) = true ↔
    (s.cfg.bmn.lockFlag = true ∧ strap = .low) ∧ i.protected = true := by
  rw [Bool.and_eq_true, lockActive_iff, and_comm]

theorem setParamOwner_unlisted (h : paramOf (u8At p 0) = none) (hidle : s.pst.writing = none) :
    setParamOwner strap p s = (s, [.u8 5, .u8 (u8At p 0), .i32 0]) := by
  simp only [setParamOwner, h, storeRunning_of_idle hidle]
  rfl

theorem setParamOwner_unlisted_busy (h : paramOf (u8At p 0) = none) (hbusy : s.pst.writing ≠ none) :
    setParamOwner strap p s = (s.useFree 1, [.u8 2, .u8 (u8At p 0), .i32 (Config.freeValue s.freeIndex)]) := by
  simp only [setParamOwner, h, storeRunning_of_writing hbusy, if_true]
  rfl

theorem setParamOwner_busy (h : paramOf (u8At p 0) = some i) (hbusy : s.pst.writing ≠ none) :
    setParamOwner strap p s = (s, paramReply .busy (u8At p 0) i s) := by
  simp only [setParamOwner, h, storeRunning_of_writing hbusy, if_true]

theorem setParamOwner_listed (h : paramOf (u8At p 0) = some i) (hidle : s.pst.writing = none) :
    setParamOwner strap p s = setListed strap (u8At p 0) i (i32At p 1) s := by
  simp only [setParamOwner, h, storeRunning_of_idle hidle]
  rfl

variable {n : Nat} {asked : Int}

theorem setListed_locked (h : (s.cfg.bmn.lockFlag = true ∧ strap = .low) ∧ i.protected = true) :
    setListed strap n i asked s = (s, paramReply .locked n i s) := if_pos (protectedNow_iff.2 h)

theorem setListed_refused (hfree : ¬((s.cfg.bmn.lockFlag = true ∧ strap = .low) ∧ i.protected = true))
    (h : ¬(i ≠ .pmax ∨ (floorsOf s.cfg.pba.classes).sum ≤ (paramClamp i asked).toNat / 2)) :
    setListed strap n i asked s = (s, paramReply .badValue n i s) := by
  have hcheck : (!ownerCheck i (paramClamp i asked).toNat s) = true := by
    rw [Bool.not_eq_true', Bool.eq_false_iff]
    exact mt (ownerCheck_iff ..).1 h
  exact (if_neg (mt protectedNow_iff.1 hfree)).trans (if_pos hcheck)

theorem setListed_sets (hfree : ¬((s.cfg.bmn.lockFlag = true ∧ strap = .low) ∧ i.protected = true))
    (h : i ≠ .pmax ∨ (floorsOf s.cfg.pba.classes).sum ≤ (paramClamp i asked).toNat / 2) :
    setListed strap n i asked s = (setParam i (paramClamp i asked).toNat s,
      [.u8 (if paramClamp i asked = asked then 0 else 1), .u8 n, .i32 (paramClamp i asked)]) := by
  have hcheck : ¬(!ownerCheck i (paramClamp i asked).toNat s) = true := by
    rw [(ownerCheck_iff ..).2 h]
    decide
  have hread : (readParam (setParam i (paramClamp i asked).toNat s).cfg i : Int) = paramClamp i asked := by
    rw [setParam_cfg, readParam_writeParam_same, Int.toNat_of_nonneg (paramClamp_nonneg i asked)]
  refine (if_neg (mt protectedNow_iff.1 hfree)).trans ((if_neg hcheck).trans ?_)
  simp only [paramReply, hread, rc, okOrClamped_code]

theorem getParamOwner_unlisted (h : paramOf (u8At p 0) = none) : getParamOwner p s = (s, [.u8 5, .u8 (u8At p 0), .i32 0]) := by
  simp only [getParamOwner, h]
  rfl

theorem getParamOwner_listed (h : paramOf (u8At p 0) = some i) : getParamOwner p s = (s, paramReply .ok (u8At p 0) i s) := by
  simp only [getParamOwner, h]

end SetParam

/-- Settles O56: the tables row by row, then the requests by the order of their checks. -/
theorem setParamChangesOneParameter : Obligations.SetParamChangesOneParameter := by
  refine ⟨⟨paramRow_of .linkTimeout, paramRow_of .holdLinkTimeout⟩, ⟨paramRow_of .ratio, paramRow_of .turnThreshold,
      paramRow_of .failsafeSteer (hvalue := fun c => failsafeSteer_code _), paramRow_of .powerOnMode, rfl, fun _ => rfl, rfl,
      blendClamp_eq⟩,
    ⟨paramRow_of .fsSlew, paramRow_of .rsSlew, paramRow_of .shSlew, paramRow_of .shiftThreshold, paramRow_of .shiftWait,
      paramRow_of .shiftSettle, paramRow_of .powerOnGear (hvalue := fun c => gear_code _), ⟨rfl, rfl, rfl⟩,
      fun _ => ⟨rfl, rfl, rfl⟩, ⟨rfl, rfl, rfl⟩, ?periods⟩,
    ⟨paramRow_of .neutral, paramRow_of .gainF, paramRow_of .gainR, paramRow_of .aUp, paramRow_of .aDown, paramRow_of .drag,
      paramRow_of .driveTrip, paramRow_of .assistOn (hvalue := fun c => toNat_eq_ite _), paramRow_of .assistGain,
      paramRow_of .assistCap, paramRow_of .failsafeBrake (hvalue := fun c => toNat_eq_ite _)⟩,
    ⟨paramRow_of .umPerCount, paramRow_of .approach, paramRow_of .stallWindow, paramRow_of .stallCurrent, paramRow_of .winchTrip,
      paramRow_of .winchMin⟩,
    paramRow_fullOn,
    ⟨paramRow_of .cellMilliohm, paramRow_of .compCap, paramRow_of .stageDwell, paramRow_of .cutoffDwell,
      paramRow_of .recoverDwell, paramRow_of .capacity, rfl, fun _ => rfl, rfl, cellClamp_eq⟩,
    ⟨paramRow_of .pmax, paramRow_of .baud, rfl, fun _ => rfl, rfl, fun _ => rfl⟩, paramOf_ne_none_iff,
    fun _ _ h => protected_iff h, fun strap p s htakes hlen => ?set, fun b s htakes => ?get⟩
  case periods =>
    rintro i (rfl | rfl | rfl) v
    all_goals exact periodClamp_eq v
  case set =>
    intro n asked active kept
    have hexec {t u : State} {fields : List Field} (howner : setParamOwner strap p (popIntake s) = (t, fields))
        (hu : putReply { type := 0x40 + 0x80#8, fields := fields } t = u) : exec (.setParam strap p) s = .next u :=
      exec_of_owner (i := .setParam strap p) rfl htakes (by rw [hlen]; rfl) howner hu
    refine ⟨fun h hidle => hexec (setParamOwner_unlisted (s := popIntake s) h hidle) rfl,
      fun h hbusy => hexec (setParamOwner_unlisted_busy (s := popIntake s) h hbusy) rfl, fun i hi => ?_⟩
    intro v locked fits
    have hlisted (hidle : s.pst.writing = none) := setParamOwner_listed (s := popIntake s) (strap := strap) hi hidle
    refine ⟨fun hbusy => hexec (setParamOwner_busy (s := popIntake s) hi hbusy) rfl,
      fun hidle hlocked => hexec ((hlisted hidle).trans (setListed_locked (s := popIntake s) hlocked)) rfl,
      fun hidle hfree hfits => hexec ((hlisted hidle).trans (setListed_refused (s := popIntake s) hfree hfits)) rfl,
      fun hidle hfree hfits => ?_⟩
    have hsets := hexec ((hlisted hidle).trans (setListed_sets (s := popIntake s) hfree hfits)) rfl
    rw [setParam_eq] at hsets
    obtain ⟨hfront, hrear, hthrottle, hfs, hrs, hsh, hinner, houter, hlevels, hflag, hclasses, hpool, htable, hfree'⟩ :=
      writeParam_frame s.cfg i v.toNat
    refine ⟨_, hsets, readParam_writeParam_same .., paramClamp_nonneg .., fun j hj => (readParam_writeParam ..).trans (if_neg hj),
      hfront, hrear, hthrottle, hfs, hrs, hsh, hinner, houter, hlevels, hflag, hclasses, hpool, htable, hfree',
      writeParam_map s.cfg i v.toNat, ?_⟩
    have hschedule : telemetryStart s.now v.toNat = if v = 0 then none else some (s.now + v.toNat) :=
      if_congr (by have hv := paramClamp_nonneg i asked; omega) rfl rfl
    rw [← hschedule]
    rfl
  case get =>
    have hexec {fields : List Field} (howner : getParamOwner [b] (popIntake s) = (popIntake s, fields)) :
        exec (.getParam [b]) s = .next { s with lif := answered 0x41 fields s.lif } :=
      exec_of_owner (i := .getParam [b]) rfl htakes rfl howner rfl
    exact ⟨fun h => hexec (getParamOwner_unlisted (p := [b]) h), fun i hi => hexec (getParamOwner_listed (p := [b]) hi)⟩

end Sys2Proof.Machine
